-- ==== Sys2Proof/Syntax.lean ====
section
/-!
DEFINITION. The instructions of the Ulixo L24: one constructor per row of the opcode table (R119 to R129), the 81 rows
without a word among them. Fields hold the numbers of the fields of the layouts (R119, R122); a row without a word
carries what its step needs to know.
-/

namespace Sys2Proof

/-- One constructor per row of the opcode table, in the table's order. -/
inductive Instr where
  /-- ADD (R138) Writes X[xs1] + X[xs2] modulo 2^64 to xd. -/
  | add (xd xs1 xs2 : Nat)
  /-- SUB (R138) Writes X[xs1] - X[xs2] modulo 2^64 to xd. -/
  | sub (xd xs1 xs2 : Nat)
  /-- AND (R138) Writes the bitwise AND of two registers to xd. -/
  | and (xd xs1 xs2 : Nat)
  /-- OR (R138) Writes the bitwise OR of two registers to xd. -/
  | or (xd xs1 xs2 : Nat)
  /-- XOR (R138) Writes the bitwise XOR of two registers to xd. -/
  | xor (xd xs1 xs2 : Nat)
  /-- SLL (R138) Shifts X[xs1] left by X[xs2][5:0] into xd. -/
  | sll (xd xs1 xs2 : Nat)
  /-- SRL (R138) Shifts X[xs1] right logically by X[xs2][5:0] into xd. -/
  | srl (xd xs1 xs2 : Nat)
  /-- SRA (R138) Shifts X[xs1] right arithmetically by X[xs2][5:0] into xd. -/
  | sra (xd xs1 xs2 : Nat)
  /-- SLT (R138) Writes 1 to xd if X[xs1] < X[xs2] signed, else 0. -/
  | slt (xd xs1 xs2 : Nat)
  /-- SLT_Z (R138) Writes 1 to xd if X[xs1] < X[xs2] unsigned, else 0. -/
  | sltZ (xd xs1 xs2 : Nat)
  /-- MIN (R138) Writes the signed minimum of two registers to xd. -/
  | min (xd xs1 xs2 : Nat)
  /-- MAX (R138) Writes the signed maximum of two registers to xd. -/
  | max (xd xs1 xs2 : Nat)
  /-- MIN_Z (R138) Writes the unsigned minimum of two registers to xd. -/
  | minZ (xd xs1 xs2 : Nat)
  /-- MAX_Z (R138) Writes the unsigned maximum of two registers to xd. -/
  | maxZ (xd xs1 xs2 : Nat)
  /-- CLZ (R138) Writes the number of leading zero bits of X[xs1] to xd. -/
  | clz (xd xs1 : Nat)
  /-- POPC (R138) Writes the number of one bits of X[xs1] to xd. -/
  | popc (xd xs1 : Nat)
  /-- SEL (R138) Writes X[xs1] to xd if the old xd is non-zero, else X[xs2]. -/
  | sel (xd xs1 xs2 : Nat)
  /-- MUL (R138) Writes the low 64 bits of the product to xd. -/
  | mul (xd xs1 xs2 : Nat)
  /-- MULH (R138) Writes the high 64 bits of the signed 128-bit product to xd. -/
  | mulh (xd xs1 xs2 : Nat)
  /-- MULH_Z (R138) Writes the high 64 bits of the unsigned 128-bit product to xd. -/
  | mulhZ (xd xs1 xs2 : Nat)
  /-- DIV (R139) Signed division truncating towards zero, without trapping. -/
  | div (xd xs1 xs2 : Nat)
  /-- DIV_Z (R139) Unsigned division, all ones on division by zero. -/
  | divZ (xd xs1 xs2 : Nat)
  /-- REM (R139) Signed remainder with the sign of the dividend. -/
  | rem (xd xs1 xs2 : Nat)
  /-- REM_Z (R139) Unsigned remainder, the dividend on division by zero. -/
  | remZ (xd xs1 xs2 : Nat)
  /-- ADDI (R140) Adds a sign-extended 16-bit immediate to X[xs1]. -/
  | addi (xd xs1 imm : Nat)
  /-- ANDI (R140) ANDs X[xs1] with a zero-extended 16-bit immediate. -/
  | andi (xd xs1 imm : Nat)
  /-- ORI (R140) ORs X[xs1] with a zero-extended 16-bit immediate. -/
  | ori (xd xs1 imm : Nat)
  /-- XORI (R140) XORs X[xs1] with a zero-extended 16-bit immediate. -/
  | xori (xd xs1 imm : Nat)
  /-- SLLI (R140) Shifts X[xs1] left by an immediate amount. -/
  | slli (xd xs1 amt : Nat)
  /-- SRLI (R140) Shifts X[xs1] right logically by an immediate amount. -/
  | srli (xd xs1 amt : Nat)
  /-- SRAI (R140) Shifts X[xs1] right arithmetically by an immediate amount. -/
  | srai (xd xs1 amt : Nat)
  /-- SLTI (R140) Writes 1 if X[xs1] is below the signed immediate, else 0. -/
  | slti (xd xs1 imm : Nat)
  /-- LUI (R140) Writes sext(imm21) times 65,536 to xd. -/
  | lui (xd imm : Nat)
  /-- ADDPC (R140) Writes PC plus sext(imm21) times 65,536 to xd. -/
  | addpc (xd imm : Nat)
  /-- LDS_S8 (R141) Loads a sign-extended byte from generic memory. -/
  | ldsS8 (xd xs1 imm : Nat)
  /-- LDS_Z8 (R141) Loads a zero-extended byte from generic memory. -/
  | ldsZ8 (xd xs1 imm : Nat)
  /-- LDS_S16 (R141) Loads a sign-extended 16-bit value. -/
  | ldsS16 (xd xs1 imm : Nat)
  /-- LDS_Z16 (R141) Loads a zero-extended 16-bit value. -/
  | ldsZ16 (xd xs1 imm : Nat)
  /-- LDS_S32 (R141) Loads a sign-extended 32-bit value. -/
  | ldsS32 (xd xs1 imm : Nat)
  /-- LDS_Z32 (R141) Loads a zero-extended 32-bit value. -/
  | ldsZ32 (xd xs1 imm : Nat)
  /-- LDS_Z64 (R141) Loads a 64-bit value. -/
  | ldsZ64 (xd xs1 imm : Nat)
  /-- STS_Z8 (R141) Stores the low byte of the data register. -/
  | stsZ8 (xd xs1 imm : Nat)
  /-- STS_Z16 (R141) Stores the low 16 bits of the data register. -/
  | stsZ16 (xd xs1 imm : Nat)
  /-- STS_Z32 (R141) Stores the low 32 bits of the data register. -/
  | stsZ32 (xd xs1 imm : Nat)
  /-- STS_Z64 (R141) Stores the 64-bit data register. -/
  | stsZ64 (xd xs1 imm : Nat)
  /-- BEQ (R143) Branches by a word offset when the registers are equal. -/
  | beq (xs1 xs2 off : Nat)
  /-- BNE (R143) Branches when the registers differ. -/
  | bne (xs1 xs2 off : Nat)
  /-- BLT (R143) Branches when X[xs1] < X[xs2] signed. -/
  | blt (xs1 xs2 off : Nat)
  /-- BGE (R143) Branches when X[xs1] >= X[xs2] signed. -/
  | bge (xs1 xs2 off : Nat)
  /-- BLT_Z (R143) Branches when X[xs1] < X[xs2] unsigned. -/
  | bltZ (xs1 xs2 off : Nat)
  /-- BGE_Z (R143) Branches when X[xs1] >= X[xs2] unsigned. -/
  | bgeZ (xs1 xs2 off : Nat)
  /-- JAL (R144) Jumps by a word offset and writes the link. -/
  | jal (xd off : Nat)
  /-- JALR (R144) Jumps to X[xs1] plus a word immediate and writes the link. -/
  | jalr (xd xs1 imm : Nat)
  /-- CSRRW (R145) Reads a CSR and writes X[xs1] to it. -/
  | csrrw (xd xs1 csr : Nat)
  /-- CSRRS (R145) Reads a CSR and sets the bits of X[xs1] in it. -/
  | csrrs (xd xs1 csr : Nat)
  /-- CSRRC (R145) Reads a CSR and clears the bits of X[xs1] in it. -/
  | csrrc (xd xs1 csr : Nat)
  /-- VADD (R159) Adds two brick sources element by element, wrapping. -/
  | vadd (vd vs1 vs2 m o c1 c2 : Nat)
  /-- VSUB (R159) Subtracts two brick sources, wrapping. -/
  | vsub (vd vs1 vs2 m o c1 c2 : Nat)
  /-- VMUL (R159) Multiplies two brick sources, keeping the low half. -/
  | vmul (vd vs1 vs2 m o c1 c2 : Nat)
  /-- VMULH (R159) Multiplies two brick sources, keeping the high half. -/
  | vmulh (vd vs1 vs2 m o c1 c2 : Nat)
  /-- VMIN (R159) Integer element minimum by type. -/
  | vmin (vd vs1 vs2 m o c1 c2 : Nat)
  /-- VMAX (R159) Integer element maximum by type. -/
  | vmax (vd vs1 vs2 m o c1 c2 : Nat)
  /-- VADD_SAT (R159) Saturating integer addition. -/
  | vaddSat (vd vs1 vs2 m o c1 c2 : Nat)
  /-- VSUB_SAT (R159) Saturating integer subtraction. -/
  | vsubSat (vd vs1 vs2 m o c1 c2 : Nat)
  /-- VAND (R159) Bitwise AND of two brick sources. -/
  | vand (vd vs1 vs2 m o c1 c2 : Nat)
  /-- VOR (R159) Bitwise OR of two brick sources. -/
  | vor (vd vs1 vs2 m o c1 c2 : Nat)
  /-- VXOR (R159) Bitwise XOR of two brick sources. -/
  | vxor (vd vs1 vs2 m o c1 c2 : Nat)
  /-- VSLL (R159) Element shift left. -/
  | vsll (vd vs1 vs2 m o c1 c2 : Nat)
  /-- VSRL (R159) Element logical shift right. -/
  | vsrl (vd vs1 vs2 m o c1 c2 : Nat)
  /-- VSRA (R159) Element arithmetic shift right. -/
  | vsra (vd vs1 vs2 m o c1 c2 : Nat)
  /-- VMUL_SAT (R159) Saturating integer multiplication. -/
  | vmulSat (vd vs1 vs2 m o c1 c2 : Nat)
  /-- VSEL (R159) Selects a or b by the old destination element. -/
  | vsel (vd vs1 vs2 m o c1 c2 : Nat)
  /-- VFADD (R161) Float addition rounded once in rm. -/
  | vfadd (vd vs1 vs2 m rm c1 c2 : Nat)
  /-- VFSUB (R161) Float subtraction rounded once in rm. -/
  | vfsub (vd vs1 vs2 m rm c1 c2 : Nat)
  /-- VFMUL (R161) Float multiplication rounded once in rm. -/
  | vfmul (vd vs1 vs2 m rm c1 c2 : Nat)
  /-- VFDIV (R161) Float division rounded once in rm. -/
  | vfdiv (vd vs1 vs2 m rm c1 c2 : Nat)
  /-- VFSQRT (R161) Float square root of vs1 rounded in rm. -/
  | vfsqrt (vd vs1 m rm c1 : Nat)
  /-- VFMIN (R162) Float minimumNumber of two sources. -/
  | vfmin (vd vs1 vs2 m c1 c2 : Nat)
  /-- VFMAX (R162) Float maximumNumber of two sources. -/
  | vfmax (vd vs1 vs2 m c1 c2 : Nat)
  /-- VFABS (R161) Clears the sign bit of each element of vs1. -/
  | vfabs (vd vs1 m c1 : Nat)
  /-- VFMA (R163) Fused a*b + old vd rounded once. -/
  | vfma (vd vs1 vs2 m rm c1 c2 : Nat)
  /-- VFMS (R163) Fused a*b - old vd rounded once. -/
  | vfms (vd vs1 vs2 m rm c1 c2 : Nat)
  /-- VFNMA (R163) Fused -(a*b) - old vd rounded once. -/
  | vfnma (vd vs1 vs2 m rm c1 c2 : Nat)
  /-- VFNMS (R163) Fused -(a*b) + old vd rounded once. -/
  | vfnms (vd vs1 vs2 m rm c1 c2 : Nat)
  /-- VCEQ (R165) Sets mask bits where the sources are equal. -/
  | vceq (md vs1 vs2 m o c1 c2 : Nat)
  /-- VCNE (R165) Sets mask bits where the sources differ. -/
  | vcne (md vs1 vs2 m o c1 c2 : Nat)
  /-- VCLT (R165) Sets mask bits where a < b. -/
  | vclt (md vs1 vs2 m o c1 c2 : Nat)
  /-- VCLE (R165) Sets mask bits where a <= b. -/
  | vcle (md vs1 vs2 m o c1 c2 : Nat)
  /-- VCUN (R165) Sets mask bits where the float sources are unordered. -/
  | vcun (md vs1 vs2 m o c1 c2 : Nat)
  /-- VMAND (R166) Mask AND. -/
  | vmand (md ms1 ms2 m : Nat)
  /-- VMOR (R166) Mask OR. -/
  | vmor (md ms1 ms2 m : Nat)
  /-- VMXOR (R166) Mask XOR. -/
  | vmxor (md ms1 ms2 m : Nat)
  /-- VMANDN (R166) Mask AND with the complement of Ms2. -/
  | vmandn (md ms1 ms2 m : Nat)
  /-- VMNOT (R166) Mask complement of Ms1. -/
  | vmnot (md ms1 m : Nat)
  /-- VMPOPC (R166) Counts active set mask bits into X[vd]. -/
  | vmpopc (md ms1 m : Nat)
  /-- VMFIRST (R166) Writes the lowest active set mask index, or -1, into X[vd]. -/
  | vmfirst (md ms1 m : Nat)
  /-- VCVT (R167) Converts elements from a source etype to VTYPE in rm. -/
  | vcvt (vd vs1 code m rm c1 : Nat)
  /-- VCVT_SAT (R167) Conversion that saturates integer-to-integer results. -/
  | vcvtSat (vd vs1 code m rm c1 : Nat)
  /-- VUNPK (R168) Decodes packed matrix-format elements to VTYPE. -/
  | vunpk (vd vs1 code m rm c1 : Nat)
  /-- VPACK (R168) Converts VTYPE elements into a packed matrix format. -/
  | vpack (vd vs1 code m rm c1 : Nat)
  /-- VRSUM (R171) Sums each line along an axis, floats by a fixed tree. -/
  | vrsum (vd vs1 axis m rm c1 : Nat)
  /-- VRMIN (R170) Minimum of each line along an axis. -/
  | vrmin (vd vs1 axis m c1 : Nat)
  /-- VRMAX (R170) Maximum of each line along an axis. -/
  | vrmax (vd vs1 axis m c1 : Nat)
  /-- VRAND (R170) Bitwise AND reduction of each line. -/
  | vrand (vd vs1 axis m c1 : Nat)
  /-- VROR (R170) Bitwise OR reduction of each line. -/
  | vror (vd vs1 axis m c1 : Nat)
  /-- VRXOR (R170) Bitwise XOR reduction of each line. -/
  | vrxor (vd vs1 axis m c1 : Nat)
  /-- VADDX (R160) Adds a scalar or immediate to each element. -/
  | vaddx (vd vs1 xs m c1 sel : Nat)
  /-- VSUBX (R160) Subtracts a scalar from each element. -/
  | vsubx (vd vs1 xs m c1 sel : Nat)
  /-- VMULX (R160) Multiplies each element by a scalar, low half. -/
  | vmulx (vd vs1 xs m c1 sel : Nat)
  /-- VMINX (R160) Element minimum with a scalar. -/
  | vminx (vd vs1 xs m c1 sel : Nat)
  /-- VMAXX (R160) Element maximum with a scalar. -/
  | vmaxx (vd vs1 xs m c1 sel : Nat)
  /-- VSLLX (R160) Shifts each element left by a scalar amount. -/
  | vsllx (vd vs1 xs m c1 sel : Nat)
  /-- VSRLX (R160) Shifts each element right logically by a scalar. -/
  | vsrlx (vd vs1 xs m c1 sel : Nat)
  /-- VSRAX (R160) Shifts each element right arithmetically by a scalar. -/
  | vsrax (vd vs1 xs m c1 sel : Nat)
  /-- VFADDX (R164) Float addition of a scalar. -/
  | vfaddx (vd vs1 xs m rm c1 : Nat)
  /-- VFSUBX (R164) Float subtraction of a scalar. -/
  | vfsubx (vd vs1 xs m rm c1 : Nat)
  /-- VFMULX (R164) Float multiplication by a scalar. -/
  | vfmulx (vd vs1 xs m rm c1 : Nat)
  /-- VFDIVX (R164) Float division by a scalar. -/
  | vfdivx (vd vs1 xs m rm c1 : Nat)
  /-- VFMAX_PROPAGATING (R162) NaN-propagating float maximum with a scalar. -/
  | vfmaxPropagating (vd vs1 xs m c1 : Nat)
  /-- VFMINX (R164) Float minimumNumber with a scalar. -/
  | vfminx (vd vs1 xs m c1 : Nat)
  /-- VFMAXX (R164) Float maximumNumber with a scalar. -/
  | vfmaxx (vd vs1 xs m c1 : Nat)
  /-- VFRSUBX (R164) Float scalar minus element, rounded in rm. -/
  | vfrsubx (vd vs1 xs m rm c1 : Nat)
  /-- VCEQX (R165) Mask of elements equal to a scalar. -/
  | vceqx (md vs1 xs m c1 sel : Nat)
  /-- VCNEX (R165) Mask of elements different from a scalar. -/
  | vcnex (md vs1 xs m c1 sel : Nat)
  /-- VCLTX (R165) Mask of elements below a scalar. -/
  | vcltx (md vs1 xs m c1 sel : Nat)
  /-- VCLEX (R165) Mask of elements at or below a scalar. -/
  | vclex (md vs1 xs m c1 sel : Nat)
  /-- VCGTX (R165) Mask of elements above a scalar. -/
  | vcgtx (md vs1 xs m c1 sel : Nat)
  /-- VCGEX (R165) Mask of elements at or above a scalar. -/
  | vcgex (md vs1 xs m c1 sel : Nat)
  /-- VMOVX (R173) Broadcasts a scalar or immediate to active elements. -/
  | vmovx (vd xs m sel : Nat)
  /-- VEXTX (R173) Extracts one brick element into a scalar register. -/
  | vextx (vd vs1 xs m c1 : Nat)
  /-- VCOORD_X (R173) Writes each element's x coordinate plus a scalar. -/
  | vcoordX (vd xs m sel : Nat)
  /-- VCOORD_Y (R173) Writes each element's y coordinate plus a scalar. -/
  | vcoordY (vd xs m sel : Nat)
  /-- VCOORD_Z (R173) Writes each element's z coordinate plus a scalar. -/
  | vcoordZ (vd xs m sel : Nat)
  /-- VTRXY (R172) Transposes a brick in x and y. -/
  | vtrxy (vd vs1 m c1 : Nat)
  /-- VSLIDE (R172) Slides a brick along an axis, filling with zero. -/
  | vslide (vd vs1 amt m axis c1 : Nat)
  /-- VROT (R172) Rotates a brick along an axis. -/
  | vrot (vd vs1 amt m axis c1 : Nat)
  /-- VGIDX (R172) Gathers brick elements by an index brick. -/
  | vgidx (vd vs1 vs2 m c1 c2 : Nat)
  /-- BSHAPE (R175) Reads and optionally writes BSHAPE. -/
  | bshape (xd xs1 : Nat)
  /-- VTYPE (R175) Reads and optionally writes VTYPE. -/
  | vtype (xd xs1 : Nat)
  /-- VLSET (R177) Grants a length along x under MAXVL and VLCAP. -/
  | vlset (xd xs1 : Nat)
  /-- LAP (R180) Captures a frame of brick instructions and replays it a count of times. -/
  | lap (xs1 xs2 : Nat)
  /-- SETOFS (R175) Reads and optionally writes offset entry O1 to O7. -/
  | setofs (xd xs1 n : Nat)
  /-- ADJ (R176) Reads and optionally writes one adjacency entry. -/
  | adj (xd xs1 reg face : Nat)
  /-- SSET (R185) Loads a stream register from a 64-byte descriptor. -/
  | sset (xs1 n : Nat)
  /-- SGET (R185) Stores a stream register to a 64-byte descriptor. -/
  | sget (xs1 n : Nat)
  /-- SBASE (R185) Replaces a stream's base and resets its position. -/
  | sbase (xd xs1 n : Nat)
  /-- VLD (R187) Loads a brick from the stream position. -/
  | vld (vd sn m c : Nat)
  /-- VLD_ADV (R189) Loads a brick and advances the stream position. -/
  | vldAdv (vd sn m c : Nat)
  /-- VST (R187) Stores a brick at the stream position. -/
  | vst (vd sn m c : Nat)
  /-- VST_ADV (R189) Stores a brick and advances the stream position. -/
  | vstAdv (vd sn m c : Nat)
  /-- VGATH (R190) Gathers elements from base plus indices. -/
  | vgath (vd sn m mode vi c : Nat)
  /-- VSCAT (R190) Scatters elements to base plus indices. -/
  | vscat (vd sn m mode vi c : Nat)
  /-- SPLD (R194) Loads brick elements from lane scratchpad offsets. -/
  | spld (vd m vi c : Nat)
  /-- SPST (R194) Stores brick elements to lane scratchpad offsets. -/
  | spst (vd m vi c : Nat)
  /-- ATOM_ALD (R196) Atomic load at the home. -/
  | atomAld (d xs1 b scope acq rel v w : Nat)
  /-- ATOM_AADD (R196) Atomic add with no return value. -/
  | atomAadd (d xs1 b scope acq rel v w : Nat)
  /-- ATOM_AMIN (R196) Atomic signed minimum. -/
  | atomAmin (d xs1 b scope acq rel v w : Nat)
  /-- ATOM_AMAX (R196) Atomic signed maximum. -/
  | atomAmax (d xs1 b scope acq rel v w : Nat)
  /-- ATOM_AMIN_Z (R196) Atomic unsigned minimum. -/
  | atomAminZ (d xs1 b scope acq rel v w : Nat)
  /-- ATOM_AMAX_Z (R196) Atomic unsigned maximum. -/
  | atomAmaxZ (d xs1 b scope acq rel v w : Nat)
  /-- ATOM_AAND (R196) Atomic AND. -/
  | atomAand (d xs1 b scope acq rel v w : Nat)
  /-- ATOM_AOR (R196) Atomic OR. -/
  | atomAor (d xs1 b scope acq rel v w : Nat)
  /-- ATOM_AXOR (R196) Atomic XOR. -/
  | atomAxor (d xs1 b scope acq rel v w : Nat)
  /-- ATOM_SWAP (R196) Atomic swap returning the old value. -/
  | atomSwap (d xs1 b scope acq rel v w : Nat)
  /-- ATOM_CAS (R196) Atomic compare-and-swap. -/
  | atomCas (d xs1 b scope acq rel v w : Nat)
  /-- ATOM_FADD (R196) Atomic fetch-and-add. -/
  | atomFadd (d xs1 b scope acq rel v w : Nat)
  /-- ATOM_AST (R196) Atomic store with no return value. -/
  | atomAst (d xs1 b scope acq rel v w : Nat)
  /-- PHASE (R55) Publishes the hart's writes at a scope and begins a new phase. -/
  | phase (scope : Nat)
  /-- BAR (R200) Publishes and arrives at a barrier instance of a scope. -/
  | bar (xs1 xs2 scope : Nat)
  /-- FENCE_ALIAS (R70) Publishes at fabric scope and removes the hart's lines from the near cache. -/
  | fenceAlias
  /-- PALLOC (R202) Allocates an OPEN parcel in a free window. -/
  | palloc (xd xs1 : Nat)
  /-- PST (R203) Stores a parcel reference word. -/
  | pst (xs1 xs2 : Nat)
  /-- PLD (R204) Loads a word and resolves a parcel reference. -/
  | pld (xd xs1 : Nat)
  /-- POST (R205) Publishes, seals and sends a parcel to a module. -/
  | post (xd xs1 xs2 : Nat)
  /-- ACCEPT (R206) Maps the earliest ARRIVED parcel and begins a phase. -/
  | accept (xd : Nat)
  /-- PFREE (R207) Releases a parcel and frees its window. -/
  | pfree (xs1 : Nat)
  /-- MSET (R213) Grants a matrix vector length under MCAP. -/
  | mset (xd xs : Nat)
  /-- MFMT (R214) Sets the format code of an activation stream. -/
  | mfmt (code st : Nat)
  /-- MCLAIM (R215) Tries to claim the core's matrix array. -/
  | mclaim (xd : Nat)
  /-- MREL (R215) Releases the matrix array after older matrix forms complete. -/
  | mrel
  /-- WLD (R218) Loads a weight tile from memory into W0 or W1. -/
  | wld (xs code sp xp tile : Nat)
  /-- WSWAP (R219) Exchanges W0 and W1. -/
  | wswap
  /-- MROW (R222) Multiplies one activation row by W0 into an accumulator row. -/
  | mrow (vb acc xs c st : Nat)
  /-- AZERO (R223) Sets every element of an accumulator to +0. -/
  | azero (acc : Nat)
  /-- ALD (R225) Loads an accumulator from memory row by row. -/
  | ald (acc xs xp : Nat)
  /-- AST (R225) Stores an accumulator converted to an etype, optionally transposed. -/
  | ast (acc xs xp ety tr : Nat)
  /-- CPSET (R232) Loads a channel's shadow register set from a descriptor. -/
  | cpset (xs1 ch : Nat)
  /-- CPLAUNCH (R233) Launches a copy from the shadow set or refuses it on overlap. -/
  | cplaunch (xd ch : Nat)
  /-- CPWAIT (R237) Waits on a channel watermark, reporting, restarting or cancelling faults. -/
  | cpwait (xd xs1 ch : Nat)
  /-- CPSTAT (R238) Returns the status of a transfer id without waiting. -/
  | cpstat (xd xs1 ch : Nat)
  /-- RTSET (R240) Loads the routing descriptor. -/
  | rtset (xs1 : Nat)
  /-- RTGO (R272) Launches a routing dispatch. -/
  | rtgo (xd : Nat)
  /-- RTCOMB (R275) Launches a routing combine. -/
  | rtcomb (xd : Nat)
  /-- RTWAIT (R241) Waits for the latest routing operation and joins it. -/
  | rtwait (xd : Nat)
  /-- RTDROP (R242) Returns a drop count or drop record of the latest dispatch. -/
  | rtdrop (xd xs1 : Nat)
  /-- TASKADD (R244) Inserts a range task into the die's task queue. -/
  | taskadd (xd xs1 : Nat)
  /-- TASKGET (R245) Takes a piece of the largest task. -/
  | taskget (xd xs1 : Nat)
  /-- TASKDONE (R246) Adds to a task's done word as a release fetch-and-add. -/
  | taskdone (xd xs1 xs2 : Nat)
  /-- GRAPHGO (R248) Publishes and hands a graph to the die's scheduler. -/
  | graphgo (xd xs1 : Nat)
  /-- QPOST (R251) Posts a delta-coded record to a queue. -/
  | qpost (xd xs1 xs2 : Nat)
  /-- QTAKE (R252) Takes and decodes a record from a queue. -/
  | qtake (xd xs1 xs2 : Nat)
  /-- NLSEND (R254) Sends brick rows to a neighbour core's link channel. -/
  | nlsend (vb xs1 xs2 side : Nat)
  /-- NLRECV (R255) Receives rows from a link channel into a brick or halo. -/
  | nlrecv (vb xs1 xs2 side : Nat)
  /-- WAIT (R257) Stalls until an event condition holds. -/
  | wait (xd xs1 : Nat)
  /-- NOTIFY (R258) Arms the notification slot on an event condition. -/
  | notify (xd xs1 : Nat)
  /-- NRET (R259) Returns from a notification handler. -/
  | nret
  /-- SETDL (R260) Reads and sets the context deadline and LATE enable. -/
  | setdl (xd xs1 xs2 : Nat)
  /-- ECALL (R261) Takes an environment-call trap. -/
  | ecall
  /-- EBREAK (R261) Takes a breakpoint trap. -/
  | ebreak
  /-- TRAPRET (R307) Resumes recorded instructions and returns from the current trap bank. -/
  | trapret
  /-- TLBINV (R263) Discards cached translations in every core and pacer of the package. -/
  | tlbinv (xs1 xs2 : Nat)
  /-- HALT (R264) Stops fetch on the hart with its context kept. -/
  | halt
  /-- YIELD (R265) Offers the slot to another thread or ends the thread. -/
  | yield (xs1 : Nat)
  /-- PERF (R266) Reads a context performance counter. -/
  | perf (xd xs1 : Nat)
  /-- LANEMAP (R267) Reads and optionally writes a lane-map entry. -/
  | lanemap (xd xs1 xs2 : Nat)
  /-- OFS (R19) Offset prefix that makes one instruction with the following VV or VX word. -/
  | ofs (dx1 dy1 dz1 dx2 dy2 dz2 ovr w2 : Nat)
  /-- ILLEGAL_INSTRUCTION (R132) A fetched word that is not an instruction raises the illegal-instruction trap at its PC. -/
  | illegalInstruction (w1 w2 pair : Nat)
  /-- TRAP (R302) The hart stops, writes the trap record into a bank and enters the handler. -/
  | trap (cause sub acc elem addr : Nat)
  /-- ELEMENT_GROUP_COMMIT (R36) An element group of an in-flight instruction completes and commits. -/
  | elementGroupCommit
  /-- NOTIFICATION (R258) An armed condition becomes true and the hart fires the notification handler. -/
  | notification
  /-- LATE (R348) A packet served after its context deadline counts and may raise the LATE trap. -/
  | late (h : Nat)
  /-- PUBLICATION_COMPLETE (R55) A publication becomes visible at its scope and the next phase begins. -/
  | publicationComplete (h : Nat)
  /-- BARRIER_COMPLETE (R62) All participants of a barrier instance have published and each begins its next phase. -/
  | barrierComplete (scope inst id : Nat)
  /-- PACER_TRANSLATE (R186) The pacer translates the pages of the next brick positions of a stream. -/
  | pacerTranslate (h sn : Nat)
  /-- COPY_COMPLETE (R234) A copy finishes, adds its counter, publishes and the watermark passes its id. -/
  | copyComplete (h ch : Nat)
  /-- COPY_FAULT (R236) A copy element faults and the channel becomes FAULTED. -/
  | copyFault (h ch : Nat)
  /-- ROUTING_OPERATION_END (R241) A dispatch or combine finishes its writes and publishes. -/
  | routingOperationEnd (h : Nat)
  /-- ROUTING_FAULT (R276) A read or local write fault stops a routing operation. -/
  | routingFault (h : Nat)
  /-- PACKET_SERVICE (R347) A port, home slice or switch serves its queued packet with the earliest stamp. -/
  | packetService (place : Nat)
  /-- NEIGHBOUR_ROW_ARRIVAL (R254) A brick row arrives in a neighbour-link channel. -/
  | neighbourRowArrival (core side idx len data : Nat)
  /-- GRAPH_NODE (R248) The die scheduler reaches and performs the next node of a graph. -/
  | graphNode (die g : Nat)
  /-- PARCEL_CONFIRM (R285) The receiver's confirmation is acknowledged and the parcel becomes ARRIVED. -/
  | parcelConfirm (handle : Nat)
  /-- PARCEL_DELIVERY_FAIL (R284) Delivery fails and the parcel is RETURNED to its sender. -/
  | parcelDeliveryFail (handle sub : Nat)
  /-- LINK_CONTROL_FLIT (R369) A link-control flit names a flit boundary for a lane change. -/
  | linkControlFlit (port lane wl : Nat)
  /-- LINK_UP (R366) Writing UP to LCTL.state brings a port up or restarts a STOPPED port. -/
  | linkUp (port : Nat)
  /-- MOVE_ENDED (R373) The new home is published and the move slot shows forwarding. -/
  | moveEnded (slot : Nat)
  /-- PIN_EXPIRY (R373) A frame's 64 ms pin ends. -/
  | pinExpiry (frame : Nat)
  /-- HOST_QUEUE_TAKE (R336) The host queue unit takes a record into the request area. -/
  | hostQueueTake (q : Nat)
  /-- CONTEXT_SAVED (R340) The save engine finishes the frame, frees the slots and sends the context-saved event. -/
  | contextSaved (die slot : Nat)
  /-- EVENT_RECORD_WRITE (R342) An event record is written into the ring and the interrupt raised. -/
  | eventRecordWrite
  /-- POWER_CAP (R343) Writing a core's power-cap register sets vcap and mcap. -/
  | powerCap (core v : Nat)
  /-- COMBINED_REPLY (R358) The reply to a combined request is split among its parts. -/
  | combinedReply (slot old : Nat)
  /-- COMBINE_HOLD_EXPIRY (R357) A switch's 64-cycle hold ends and it sends the combined add request. -/
  | combineHoldExpiry (slot : Nat)
  /-- SHADOW_STALL_TIMEOUT (R61) After 2 µs of stall the home moves the older shadow into the spill area. -/
  | shadowStallTimeout (line : Nat)
  /-- TILE_LATCH (R218) A wld latches the read tile into the named weight tile as one unit. -/
  | tileLatch (h : Nat)
  /-- RECEIVER_DISCARD (R285) A receiver without the sender's acknowledgement within the bound discards its copy. -/
  | receiverDiscard (handle : Nat)
  /-- PARCEL_CONFIRM_TIMEOUT (R284) A parcel not confirmed within its bound is RETURNED with DEADLINE. -/
  | parcelConfirmTimeout (handle : Nat)
  /-- PACKAGE_DEADLINE (R351) An accepted on-package operation not complete in 8 µs fails with DEADLINE. -/
  | packageDeadline (id : Nat)
  /-- FABRIC_DEADLINE (R359) A fabric operation without reply 50 µs after acceptance fails with DEADLINE. -/
  | fabricDeadline (id : Nat)
  /-- NEAR_CACHE_EVICTION (R53) A near cache evicts a dirty line to its home. -/
  | nearCacheEviction (h line : Nat)
  /-- HOTNESS_FLUSH (R317) A core flushes its access counts to the home module's hotness table. -/
  | hotnessFlush (core : Nat)
  /-- MOVED_REFUSAL (R374) A retry-moving or moved refusal makes the source reissue the request. -/
  | movedRefusal (id : Nat)
  /-- REPLY_CACHE_EXPIRY (R374) A home drops a cached atomic reply after 100 µs. -/
  | replyCacheExpiry (id : Nat)
  /-- FLIT_RECEIVE (R363) A receiver accepts or discards a flit and advances acknowledgements. -/
  | flitReceive (port seq ack kidx ok : Nat)
  /-- REPLAY_TIMEOUT (R364) 2 µs without acknowledgement makes the sender replay unacknowledged flits. -/
  | replayTimeout (port : Nat)
  /-- RETRAIN_ATTEMPT_END (R370) A retuning attempt ends in success or failure. -/
  | retrainAttemptEnd (port wl ok : Nat)
  /-- WAVELENGTH_DARK (R369) A wavelength below threshold for 1 µs is declared dark and its lanes dropped. -/
  | wavelengthDark (port wl : Nat)
  /-- LASER_LINE_LOST (R369) A laser module loses a line and sends a link event. -/
  | laserLineLost (l : Nat)
  /-- RETRAIN_WINDOW (R370) A 10 ms window ends and a wavelength above RTHR starts retraining. -/
  | retrainWindow (port wl count : Nat)
  /-- LOCK_DONE (R371) The ring heater sweep of a port's wavelengths completes. -/
  | lockDone (port locked : Nat)
  /-- TRAIN_DONE (R371) Eye training of a port's lanes completes. -/
  | trainDone (port trained : Nat)
  /-- LINK_LOCK (R371) Writing LOCK to LCTL.state starts wavelength locking. -/
  | linkLock (port : Nat)
  /-- LINK_TRAIN (R371) Writing TRAIN to LCTL.state starts lane training. -/
  | linkTrain (port : Nat)
  /-- FREE_PORT_PEER (R353) Writing LCTL.peer binds a free port to one peer module. -/
  | freePortPeer (port peer : Nat)
  /-- REKEY (R365) LCTL.rekey flips the sender's key index at the next flit boundary. -/
  | rekey (port : Nat)
  /-- RELANE (R369) LCTL.relane applies the written LMAP at the next flit boundary. -/
  | relane (port : Nat)
  /-- TXKEY (R365) Writing TXKEY installs the sending end's pending key. -/
  | txkey (port key : Nat)
  /-- RXKEY (R365) Writing RXKEY installs the receiving end's pending key. -/
  | rxkey (port key : Nat)
  /-- LASER_ENABLE (R368) Writing LASER.en turns a laser module on or off. -/
  | laserEnable (l en : Nat)
  /-- MOVE (R373) A move-slot command 1 starts moving a frame to a new home. -/
  | move (slot frame : Nat)
  /-- MOVE_RELEASE (R373) A move-slot command 2 releases the forwarding and frees the old frame. -/
  | moveRelease (slot : Nat)
  /-- DOORBELL (R334) A doorbell write sets a host queue's new tail and gang. -/
  | doorbell (q v : Nat)
  /-- HQSTAT_ENABLE (R333) Writing HQSTAT.enable lets the unit take records or stops it. -/
  | hqstatEnable (q en : Nat)
  /-- HQSTAT_STOPPED_CLEAR (R333) Writing 1 to HQSTAT.stopped clears a stopped queue. -/
  | hqstatStoppedClear (q : Nat)
  /-- REQFREE (R337) Writing REQFREE frees a request-area entry. -/
  | reqfree (i : Nat)
  /-- TASKKILL (R344) Writing TASKKILL discards the tasks of an address space. -/
  | taskkill (asid : Nat)
  /-- START (R340) The start command binds a new thread to a slot. -/
  | start (die slot : Nat)
  /-- RESTORE (R325) The restore command loads a saved context into a slot. -/
  | restore (die slot : Nat)
  /-- PRE_EMPT (R324) The pre-empt command saves a running context. -/
  | preEmpt (die slot : Nat)
  /-- EVHEAD (R342) Writing EVHEAD consumes records and updates the interrupt. -/
  | evhead (v : Nat)
  /-- EVSZ (R342) Writing EVSZ sets the ring size, ignoring values outside 8 to 16. -/
  | evsz (v : Nat)
  /-- ARRIVAL_QUEUE (R393) Writing an arrival-queue register assigns it to an address space. -/
  | arrivalQueue (n v : Nat)
  /-- PLIM (R378) Writing PLIM sets the module power limit with clamping. -/
  | plim (v : Nat)
  /-- THROTTLE (R379) A die crossing 105 °C or falling below 100 °C changes THROT and its caps. -/
  | throttle (die temp : Nat)
  /-- THERMAL_TRIP (R379) 115 °C or peak input power makes the power stage remove package power. -/
  | thermalTrip
  /-- POWER_LOSS (R381) Loss of input power or enable loses all state and darkens every port. -/
  | powerLoss
  /-- BOOT (R380) Power and enable start the management core, which verifies firmware and brings the module up. -/
  | boot (straps version verified : Nat)
  /-- FREEZE (R388) Asserting FREEZE stops every clock and puts HBM4E in self-refresh. -/
  | freeze
  /-- BYPASS (R389) TAP BYPASS instruction selects the 1-bit register. -/
  | bypass (tdi : Nat)
  /-- IDCODE (R389) TAP IDCODE instruction reads the 32-bit identification. -/
  | idcode
  /-- CHAIN (R389) TAP CHAIN instruction reads a die's scan chain. -/
  | chain (n : Nat)
  /-- ATTESTATION_REQUEST (R391) A nonce written to the mailbox returns a signed attestation report. -/
  | attestationRequest (nonce : Nat)
  /-- ROLLBACK_RAISE (R392) A host command raises the fused rollback counter to the running version. -/
  | rollbackRaise
  /-- REGISTER_WRITE (R332) A write to a module register that has no behaviour of its own. -/
  | registerWrite (off v : Nat)
  /-- HART_RESTART (R264) The management core restarts a hart that halt stopped, so that fetch resumes with its kept context. -/
  | hartRestart (h : Nat)
  /-- LIGHT_RETURN (R369) Light returns on a wavelength, or all four lines of a laser module come up to power after enable, and LASER.ok and dark change. -/
  | lightReturn (port wl : Nat)
  /-- HOST_WRITE (R334) The host, over PCIe, or the management core writes local memory directly, for example a host queue ring or descriptor, a window-table entry or the dwords of a context frame. -/
  | hostWrite (addr len v : Nat)
deriving DecidableEq, Repr

end Sys2Proof
end

