-- ==== Sys2Proof/Word.lean ====
section
/-!
DEFINITION. The word and byte types of the Ulixo architecture (R2, R9).
-/

namespace Sys2Proof

/-- A 64-bit register value, bit 0 the least significant (R2). -/
abbrev Word := BitVec 64

/-- A byte of memory, little-endian in wider values (R2). -/
abbrev Byte := BitVec 8

end Sys2Proof
end

