-- ==== Sys2Proof/WellFormed.lean ====
section
/-!
DEFINITION. Which terms of Instr are instructions: every field within its width (R119, R122, R131), every code legal
(R126 to R129, R132). A row without a word has no width of its own: its operands name parts of the machine.
-/

namespace Sys2Proof

/-- Bits `lo` to `lo + n - 1` of a word (R2). -/
def field (w lo n : Nat) : Nat := w / 2 ^ lo % 2 ^ n

/-- A rounding-mode field holds a code other than the reserved 5 and 6 (R74, R132). -/
def rmLegal (rm : Nat) : Bool := decide (rm ≠ 5) && decide (rm ≠ 6)

/-- Majors of VV and VVR layout (R123): VINTA to VRED. -/
def isVV (w : Nat) : Bool := decide (16 ≤ field w 26 6) && decide (field w 26 6 ≤ 23)

/-- Majors of VX layout (R123): VINTX to VMOVX. -/
def isVX (w : Nat) : Bool := decide (24 ≤ field w 26 6) && decide (field w 26 6 ≤ 27)

/-- What may follow an OFS word: a VV word, or a VX word when the second triple is zero (R120, R132). -/
def pairLegal (dx2 dy2 dz2 w2 : Nat) : Bool :=
  isVV w2 || (isVX w2 && decide (dx2 = 0) && decide (dy2 = 0) && decide (dz2 = 0))

/-- Whether a term is an instruction. -/
def wellFormed : Instr → Bool
  | .add xd xs1 xs2 => decide (xd < 32) && decide (xs1 < 32) && decide (xs2 < 32)
  | .sub xd xs1 xs2 => decide (xd < 32) && decide (xs1 < 32) && decide (xs2 < 32)
  | .and xd xs1 xs2 => decide (xd < 32) && decide (xs1 < 32) && decide (xs2 < 32)
  | .or xd xs1 xs2 => decide (xd < 32) && decide (xs1 < 32) && decide (xs2 < 32)
  | .xor xd xs1 xs2 => decide (xd < 32) && decide (xs1 < 32) && decide (xs2 < 32)
  | .sll xd xs1 xs2 => decide (xd < 32) && decide (xs1 < 32) && decide (xs2 < 32)
  | .srl xd xs1 xs2 => decide (xd < 32) && decide (xs1 < 32) && decide (xs2 < 32)
  | .sra xd xs1 xs2 => decide (xd < 32) && decide (xs1 < 32) && decide (xs2 < 32)
  | .slt xd xs1 xs2 => decide (xd < 32) && decide (xs1 < 32) && decide (xs2 < 32)
  | .sltZ xd xs1 xs2 => decide (xd < 32) && decide (xs1 < 32) && decide (xs2 < 32)
  | .min xd xs1 xs2 => decide (xd < 32) && decide (xs1 < 32) && decide (xs2 < 32)
  | .max xd xs1 xs2 => decide (xd < 32) && decide (xs1 < 32) && decide (xs2 < 32)
  | .minZ xd xs1 xs2 => decide (xd < 32) && decide (xs1 < 32) && decide (xs2 < 32)
  | .maxZ xd xs1 xs2 => decide (xd < 32) && decide (xs1 < 32) && decide (xs2 < 32)
  | .clz xd xs1 => decide (xd < 32) && decide (xs1 < 32)
  | .popc xd xs1 => decide (xd < 32) && decide (xs1 < 32)
  | .sel xd xs1 xs2 => decide (xd < 32) && decide (xs1 < 32) && decide (xs2 < 32)
  | .mul xd xs1 xs2 => decide (xd < 32) && decide (xs1 < 32) && decide (xs2 < 32)
  | .mulh xd xs1 xs2 => decide (xd < 32) && decide (xs1 < 32) && decide (xs2 < 32)
  | .mulhZ xd xs1 xs2 => decide (xd < 32) && decide (xs1 < 32) && decide (xs2 < 32)
  | .div xd xs1 xs2 => decide (xd < 32) && decide (xs1 < 32) && decide (xs2 < 32)
  | .divZ xd xs1 xs2 => decide (xd < 32) && decide (xs1 < 32) && decide (xs2 < 32)
  | .rem xd xs1 xs2 => decide (xd < 32) && decide (xs1 < 32) && decide (xs2 < 32)
  | .remZ xd xs1 xs2 => decide (xd < 32) && decide (xs1 < 32) && decide (xs2 < 32)
  | .addi xd xs1 imm => decide (xd < 32) && decide (xs1 < 32) && decide (imm < 65536)
  | .andi xd xs1 imm => decide (xd < 32) && decide (xs1 < 32) && decide (imm < 65536)
  | .ori xd xs1 imm => decide (xd < 32) && decide (xs1 < 32) && decide (imm < 65536)
  | .xori xd xs1 imm => decide (xd < 32) && decide (xs1 < 32) && decide (imm < 65536)
  | .slli xd xs1 amt => decide (xd < 32) && decide (xs1 < 32) && decide (amt < 64)
  | .srli xd xs1 amt => decide (xd < 32) && decide (xs1 < 32) && decide (amt < 64)
  | .srai xd xs1 amt => decide (xd < 32) && decide (xs1 < 32) && decide (amt < 64)
  | .slti xd xs1 imm => decide (xd < 32) && decide (xs1 < 32) && decide (imm < 65536)
  | .lui xd imm => decide (xd < 32) && decide (imm < 2097152)
  | .addpc xd imm => decide (xd < 32) && decide (imm < 2097152)
  | .ldsS8 xd xs1 imm => decide (xd < 32) && decide (xs1 < 32) && decide (imm < 8192)
  | .ldsZ8 xd xs1 imm => decide (xd < 32) && decide (xs1 < 32) && decide (imm < 8192)
  | .ldsS16 xd xs1 imm => decide (xd < 32) && decide (xs1 < 32) && decide (imm < 8192)
  | .ldsZ16 xd xs1 imm => decide (xd < 32) && decide (xs1 < 32) && decide (imm < 8192)
  | .ldsS32 xd xs1 imm => decide (xd < 32) && decide (xs1 < 32) && decide (imm < 8192)
  | .ldsZ32 xd xs1 imm => decide (xd < 32) && decide (xs1 < 32) && decide (imm < 8192)
  | .ldsZ64 xd xs1 imm => decide (xd < 32) && decide (xs1 < 32) && decide (imm < 8192)
  | .stsZ8 xd xs1 imm => decide (xd < 32) && decide (xs1 < 32) && decide (imm < 8192)
  | .stsZ16 xd xs1 imm => decide (xd < 32) && decide (xs1 < 32) && decide (imm < 8192)
  | .stsZ32 xd xs1 imm => decide (xd < 32) && decide (xs1 < 32) && decide (imm < 8192)
  | .stsZ64 xd xs1 imm => decide (xd < 32) && decide (xs1 < 32) && decide (imm < 8192)
  | .beq xs1 xs2 off => decide (xs1 < 32) && decide (xs2 < 32) && decide (off < 8192)
  | .bne xs1 xs2 off => decide (xs1 < 32) && decide (xs2 < 32) && decide (off < 8192)
  | .blt xs1 xs2 off => decide (xs1 < 32) && decide (xs2 < 32) && decide (off < 8192)
  | .bge xs1 xs2 off => decide (xs1 < 32) && decide (xs2 < 32) && decide (off < 8192)
  | .bltZ xs1 xs2 off => decide (xs1 < 32) && decide (xs2 < 32) && decide (off < 8192)
  | .bgeZ xs1 xs2 off => decide (xs1 < 32) && decide (xs2 < 32) && decide (off < 8192)
  | .jal xd off => decide (xd < 32) && decide (off < 2097152)
  | .jalr xd xs1 imm => decide (xd < 32) && decide (xs1 < 32) && decide (imm < 65536)
  | .csrrw xd xs1 csr => decide (xd < 32) && decide (xs1 < 32) && decide (csr < 4096)
  | .csrrs xd xs1 csr => decide (xd < 32) && decide (xs1 < 32) && decide (csr < 4096)
  | .csrrc xd xs1 csr => decide (xd < 32) && decide (xs1 < 32) && decide (csr < 4096)
  | .vadd vd vs1 vs2 m o c1 c2 => decide (vd < 32) && decide (vs1 < 32) && decide (vs2 < 32) && decide (m < 8) && decide (o < 8) && decide (c1 < 2) && decide (c2 < 2)
  | .vsub vd vs1 vs2 m o c1 c2 => decide (vd < 32) && decide (vs1 < 32) && decide (vs2 < 32) && decide (m < 8) && decide (o < 8) && decide (c1 < 2) && decide (c2 < 2)
  | .vmul vd vs1 vs2 m o c1 c2 => decide (vd < 32) && decide (vs1 < 32) && decide (vs2 < 32) && decide (m < 8) && decide (o < 8) && decide (c1 < 2) && decide (c2 < 2)
  | .vmulh vd vs1 vs2 m o c1 c2 => decide (vd < 32) && decide (vs1 < 32) && decide (vs2 < 32) && decide (m < 8) && decide (o < 8) && decide (c1 < 2) && decide (c2 < 2)
  | .vmin vd vs1 vs2 m o c1 c2 => decide (vd < 32) && decide (vs1 < 32) && decide (vs2 < 32) && decide (m < 8) && decide (o < 8) && decide (c1 < 2) && decide (c2 < 2)
  | .vmax vd vs1 vs2 m o c1 c2 => decide (vd < 32) && decide (vs1 < 32) && decide (vs2 < 32) && decide (m < 8) && decide (o < 8) && decide (c1 < 2) && decide (c2 < 2)
  | .vaddSat vd vs1 vs2 m o c1 c2 => decide (vd < 32) && decide (vs1 < 32) && decide (vs2 < 32) && decide (m < 8) && decide (o < 8) && decide (c1 < 2) && decide (c2 < 2)
  | .vsubSat vd vs1 vs2 m o c1 c2 => decide (vd < 32) && decide (vs1 < 32) && decide (vs2 < 32) && decide (m < 8) && decide (o < 8) && decide (c1 < 2) && decide (c2 < 2)
  | .vand vd vs1 vs2 m o c1 c2 => decide (vd < 32) && decide (vs1 < 32) && decide (vs2 < 32) && decide (m < 8) && decide (o < 8) && decide (c1 < 2) && decide (c2 < 2)
  | .vor vd vs1 vs2 m o c1 c2 => decide (vd < 32) && decide (vs1 < 32) && decide (vs2 < 32) && decide (m < 8) && decide (o < 8) && decide (c1 < 2) && decide (c2 < 2)
  | .vxor vd vs1 vs2 m o c1 c2 => decide (vd < 32) && decide (vs1 < 32) && decide (vs2 < 32) && decide (m < 8) && decide (o < 8) && decide (c1 < 2) && decide (c2 < 2)
  | .vsll vd vs1 vs2 m o c1 c2 => decide (vd < 32) && decide (vs1 < 32) && decide (vs2 < 32) && decide (m < 8) && decide (o < 8) && decide (c1 < 2) && decide (c2 < 2)
  | .vsrl vd vs1 vs2 m o c1 c2 => decide (vd < 32) && decide (vs1 < 32) && decide (vs2 < 32) && decide (m < 8) && decide (o < 8) && decide (c1 < 2) && decide (c2 < 2)
  | .vsra vd vs1 vs2 m o c1 c2 => decide (vd < 32) && decide (vs1 < 32) && decide (vs2 < 32) && decide (m < 8) && decide (o < 8) && decide (c1 < 2) && decide (c2 < 2)
  | .vmulSat vd vs1 vs2 m o c1 c2 => decide (vd < 32) && decide (vs1 < 32) && decide (vs2 < 32) && decide (m < 8) && decide (o < 8) && decide (c1 < 2) && decide (c2 < 2)
  | .vsel vd vs1 vs2 m o c1 c2 => decide (vd < 32) && decide (vs1 < 32) && decide (vs2 < 32) && decide (m < 8) && decide (o < 8) && decide (c1 < 2) && decide (c2 < 2)
  | .vfadd vd vs1 vs2 m rm c1 c2 => decide (vd < 32) && decide (vs1 < 32) && decide (vs2 < 32) && decide (m < 8) && decide (rm < 8) && decide (c1 < 2) && decide (c2 < 2) && rmLegal rm
  | .vfsub vd vs1 vs2 m rm c1 c2 => decide (vd < 32) && decide (vs1 < 32) && decide (vs2 < 32) && decide (m < 8) && decide (rm < 8) && decide (c1 < 2) && decide (c2 < 2) && rmLegal rm
  | .vfmul vd vs1 vs2 m rm c1 c2 => decide (vd < 32) && decide (vs1 < 32) && decide (vs2 < 32) && decide (m < 8) && decide (rm < 8) && decide (c1 < 2) && decide (c2 < 2) && rmLegal rm
  | .vfdiv vd vs1 vs2 m rm c1 c2 => decide (vd < 32) && decide (vs1 < 32) && decide (vs2 < 32) && decide (m < 8) && decide (rm < 8) && decide (c1 < 2) && decide (c2 < 2) && rmLegal rm
  | .vfsqrt vd vs1 m rm c1 => decide (vd < 32) && decide (vs1 < 32) && decide (m < 8) && decide (rm < 8) && decide (c1 < 2) && rmLegal rm
  | .vfmin vd vs1 vs2 m c1 c2 => decide (vd < 32) && decide (vs1 < 32) && decide (vs2 < 32) && decide (m < 8) && decide (c1 < 2) && decide (c2 < 2)
  | .vfmax vd vs1 vs2 m c1 c2 => decide (vd < 32) && decide (vs1 < 32) && decide (vs2 < 32) && decide (m < 8) && decide (c1 < 2) && decide (c2 < 2)
  | .vfabs vd vs1 m c1 => decide (vd < 32) && decide (vs1 < 32) && decide (m < 8) && decide (c1 < 2)
  | .vfma vd vs1 vs2 m rm c1 c2 => decide (vd < 32) && decide (vs1 < 32) && decide (vs2 < 32) && decide (m < 8) && decide (rm < 8) && decide (c1 < 2) && decide (c2 < 2) && rmLegal rm
  | .vfms vd vs1 vs2 m rm c1 c2 => decide (vd < 32) && decide (vs1 < 32) && decide (vs2 < 32) && decide (m < 8) && decide (rm < 8) && decide (c1 < 2) && decide (c2 < 2) && rmLegal rm
  | .vfnma vd vs1 vs2 m rm c1 c2 => decide (vd < 32) && decide (vs1 < 32) && decide (vs2 < 32) && decide (m < 8) && decide (rm < 8) && decide (c1 < 2) && decide (c2 < 2) && rmLegal rm
  | .vfnms vd vs1 vs2 m rm c1 c2 => decide (vd < 32) && decide (vs1 < 32) && decide (vs2 < 32) && decide (m < 8) && decide (rm < 8) && decide (c1 < 2) && decide (c2 < 2) && rmLegal rm
  | .vceq md vs1 vs2 m o c1 c2 => decide (md < 8) && decide (vs1 < 32) && decide (vs2 < 32) && decide (m < 8) && decide (o < 8) && decide (c1 < 2) && decide (c2 < 2)
  | .vcne md vs1 vs2 m o c1 c2 => decide (md < 8) && decide (vs1 < 32) && decide (vs2 < 32) && decide (m < 8) && decide (o < 8) && decide (c1 < 2) && decide (c2 < 2)
  | .vclt md vs1 vs2 m o c1 c2 => decide (md < 8) && decide (vs1 < 32) && decide (vs2 < 32) && decide (m < 8) && decide (o < 8) && decide (c1 < 2) && decide (c2 < 2)
  | .vcle md vs1 vs2 m o c1 c2 => decide (md < 8) && decide (vs1 < 32) && decide (vs2 < 32) && decide (m < 8) && decide (o < 8) && decide (c1 < 2) && decide (c2 < 2)
  | .vcun md vs1 vs2 m o c1 c2 => decide (md < 8) && decide (vs1 < 32) && decide (vs2 < 32) && decide (m < 8) && decide (o < 8) && decide (c1 < 2) && decide (c2 < 2)
  | .vmand md ms1 ms2 m => decide (md < 8) && decide (ms1 < 8) && decide (ms2 < 8) && decide (m < 8)
  | .vmor md ms1 ms2 m => decide (md < 8) && decide (ms1 < 8) && decide (ms2 < 8) && decide (m < 8)
  | .vmxor md ms1 ms2 m => decide (md < 8) && decide (ms1 < 8) && decide (ms2 < 8) && decide (m < 8)
  | .vmandn md ms1 ms2 m => decide (md < 8) && decide (ms1 < 8) && decide (ms2 < 8) && decide (m < 8)
  | .vmnot md ms1 m => decide (md < 8) && decide (ms1 < 8) && decide (m < 8)
  | .vmpopc md ms1 m => decide (md < 8) && decide (ms1 < 8) && decide (m < 8)
  | .vmfirst md ms1 m => decide (md < 8) && decide (ms1 < 8) && decide (m < 8)
  | .vcvt vd vs1 code m rm c1 => decide (vd < 32) && decide (vs1 < 32) && decide (code < 32) && decide (m < 8) && decide (rm < 8) && decide (c1 < 2) && rmLegal rm && decide (code < 12)
  | .vcvtSat vd vs1 code m rm c1 => decide (vd < 32) && decide (vs1 < 32) && decide (code < 32) && decide (m < 8) && decide (rm < 8) && decide (c1 < 2) && rmLegal rm && decide (code < 12)
  | .vunpk vd vs1 code m rm c1 => decide (vd < 32) && decide (vs1 < 32) && decide (code < 32) && decide (m < 8) && decide (rm < 8) && decide (c1 < 2) && rmLegal rm
  | .vpack vd vs1 code m rm c1 => decide (vd < 32) && decide (vs1 < 32) && decide (code < 32) && decide (m < 8) && decide (rm < 8) && decide (c1 < 2) && rmLegal rm
  | .vrsum vd vs1 axis m rm c1 => decide (vd < 32) && decide (vs1 < 32) && decide (axis < 4) && decide (m < 8) && decide (rm < 8) && decide (c1 < 2) && rmLegal rm
  | .vrmin vd vs1 axis m c1 => decide (vd < 32) && decide (vs1 < 32) && decide (axis < 4) && decide (m < 8) && decide (c1 < 2)
  | .vrmax vd vs1 axis m c1 => decide (vd < 32) && decide (vs1 < 32) && decide (axis < 4) && decide (m < 8) && decide (c1 < 2)
  | .vrand vd vs1 axis m c1 => decide (vd < 32) && decide (vs1 < 32) && decide (axis < 4) && decide (m < 8) && decide (c1 < 2)
  | .vror vd vs1 axis m c1 => decide (vd < 32) && decide (vs1 < 32) && decide (axis < 4) && decide (m < 8) && decide (c1 < 2)
  | .vrxor vd vs1 axis m c1 => decide (vd < 32) && decide (vs1 < 32) && decide (axis < 4) && decide (m < 8) && decide (c1 < 2)
  | .vaddx vd vs1 xs m c1 sel => decide (vd < 32) && decide (vs1 < 32) && decide (xs < 32) && decide (m < 8) && decide (c1 < 2) && decide (sel < 2)
  | .vsubx vd vs1 xs m c1 sel => decide (vd < 32) && decide (vs1 < 32) && decide (xs < 32) && decide (m < 8) && decide (c1 < 2) && decide (sel < 2)
  | .vmulx vd vs1 xs m c1 sel => decide (vd < 32) && decide (vs1 < 32) && decide (xs < 32) && decide (m < 8) && decide (c1 < 2) && decide (sel < 2)
  | .vminx vd vs1 xs m c1 sel => decide (vd < 32) && decide (vs1 < 32) && decide (xs < 32) && decide (m < 8) && decide (c1 < 2) && decide (sel < 2)
  | .vmaxx vd vs1 xs m c1 sel => decide (vd < 32) && decide (vs1 < 32) && decide (xs < 32) && decide (m < 8) && decide (c1 < 2) && decide (sel < 2)
  | .vsllx vd vs1 xs m c1 sel => decide (vd < 32) && decide (vs1 < 32) && decide (xs < 32) && decide (m < 8) && decide (c1 < 2) && decide (sel < 2)
  | .vsrlx vd vs1 xs m c1 sel => decide (vd < 32) && decide (vs1 < 32) && decide (xs < 32) && decide (m < 8) && decide (c1 < 2) && decide (sel < 2)
  | .vsrax vd vs1 xs m c1 sel => decide (vd < 32) && decide (vs1 < 32) && decide (xs < 32) && decide (m < 8) && decide (c1 < 2) && decide (sel < 2)
  | .vfaddx vd vs1 xs m rm c1 => decide (vd < 32) && decide (vs1 < 32) && decide (xs < 32) && decide (m < 8) && decide (rm < 8) && decide (c1 < 2) && rmLegal rm
  | .vfsubx vd vs1 xs m rm c1 => decide (vd < 32) && decide (vs1 < 32) && decide (xs < 32) && decide (m < 8) && decide (rm < 8) && decide (c1 < 2) && rmLegal rm
  | .vfmulx vd vs1 xs m rm c1 => decide (vd < 32) && decide (vs1 < 32) && decide (xs < 32) && decide (m < 8) && decide (rm < 8) && decide (c1 < 2) && rmLegal rm
  | .vfdivx vd vs1 xs m rm c1 => decide (vd < 32) && decide (vs1 < 32) && decide (xs < 32) && decide (m < 8) && decide (rm < 8) && decide (c1 < 2) && rmLegal rm
  | .vfmaxPropagating vd vs1 xs m c1 => decide (vd < 32) && decide (vs1 < 32) && decide (xs < 32) && decide (m < 8) && decide (c1 < 2)
  | .vfminx vd vs1 xs m c1 => decide (vd < 32) && decide (vs1 < 32) && decide (xs < 32) && decide (m < 8) && decide (c1 < 2)
  | .vfmaxx vd vs1 xs m c1 => decide (vd < 32) && decide (vs1 < 32) && decide (xs < 32) && decide (m < 8) && decide (c1 < 2)
  | .vfrsubx vd vs1 xs m rm c1 => decide (vd < 32) && decide (vs1 < 32) && decide (xs < 32) && decide (m < 8) && decide (rm < 8) && decide (c1 < 2) && rmLegal rm
  | .vceqx md vs1 xs m c1 sel => decide (md < 8) && decide (vs1 < 32) && decide (xs < 32) && decide (m < 8) && decide (c1 < 2) && decide (sel < 2)
  | .vcnex md vs1 xs m c1 sel => decide (md < 8) && decide (vs1 < 32) && decide (xs < 32) && decide (m < 8) && decide (c1 < 2) && decide (sel < 2)
  | .vcltx md vs1 xs m c1 sel => decide (md < 8) && decide (vs1 < 32) && decide (xs < 32) && decide (m < 8) && decide (c1 < 2) && decide (sel < 2)
  | .vclex md vs1 xs m c1 sel => decide (md < 8) && decide (vs1 < 32) && decide (xs < 32) && decide (m < 8) && decide (c1 < 2) && decide (sel < 2)
  | .vcgtx md vs1 xs m c1 sel => decide (md < 8) && decide (vs1 < 32) && decide (xs < 32) && decide (m < 8) && decide (c1 < 2) && decide (sel < 2)
  | .vcgex md vs1 xs m c1 sel => decide (md < 8) && decide (vs1 < 32) && decide (xs < 32) && decide (m < 8) && decide (c1 < 2) && decide (sel < 2)
  | .vmovx vd xs m sel => decide (vd < 32) && decide (xs < 32) && decide (m < 8) && decide (sel < 2)
  | .vextx vd vs1 xs m c1 => decide (vd < 32) && decide (vs1 < 32) && decide (xs < 32) && decide (m < 8) && decide (c1 < 2)
  | .vcoordX vd xs m sel => decide (vd < 32) && decide (xs < 32) && decide (m < 8) && decide (sel < 2)
  | .vcoordY vd xs m sel => decide (vd < 32) && decide (xs < 32) && decide (m < 8) && decide (sel < 2)
  | .vcoordZ vd xs m sel => decide (vd < 32) && decide (xs < 32) && decide (m < 8) && decide (sel < 2)
  | .vtrxy vd vs1 m c1 => decide (vd < 32) && decide (vs1 < 32) && decide (m < 8) && decide (c1 < 2)
  | .vslide vd vs1 amt m axis c1 => decide (vd < 32) && decide (vs1 < 32) && decide (amt < 32) && decide (m < 8) && decide (axis < 8) && decide (c1 < 2) && decide (axis < 3)
  | .vrot vd vs1 amt m axis c1 => decide (vd < 32) && decide (vs1 < 32) && decide (amt < 32) && decide (m < 8) && decide (axis < 8) && decide (c1 < 2) && decide (axis < 3)
  | .vgidx vd vs1 vs2 m c1 c2 => decide (vd < 32) && decide (vs1 < 32) && decide (vs2 < 32) && decide (m < 8) && decide (c1 < 2) && decide (c2 < 2)
  | .bshape xd xs1 => decide (xd < 32) && decide (xs1 < 32)
  | .vtype xd xs1 => decide (xd < 32) && decide (xs1 < 32)
  | .vlset xd xs1 => decide (xd < 32) && decide (xs1 < 32)
  | .lap xs1 xs2 => decide (xs1 < 32) && decide (xs2 < 32)
  | .setofs xd xs1 n => decide (xd < 32) && decide (xs1 < 32) && decide (n < 8) && decide (n ≠ 0)
  | .adj xd xs1 reg face => decide (xd < 32) && decide (xs1 < 32) && decide (reg < 32) && decide (face < 8) && decide (face < 6)
  | .sset xs1 n => decide (xs1 < 32) && decide (n < 16)
  | .sget xs1 n => decide (xs1 < 32) && decide (n < 16)
  | .sbase xd xs1 n => decide (xd < 32) && decide (xs1 < 32) && decide (n < 16)
  | .vld vd sn m c => decide (vd < 32) && decide (sn < 16) && decide (m < 8) && decide (c < 2)
  | .vldAdv vd sn m c => decide (vd < 32) && decide (sn < 16) && decide (m < 8) && decide (c < 2)
  | .vst vd sn m c => decide (vd < 32) && decide (sn < 16) && decide (m < 8) && decide (c < 2)
  | .vstAdv vd sn m c => decide (vd < 32) && decide (sn < 16) && decide (m < 8) && decide (c < 2)
  | .vgath vd sn m mode vi c => decide (vd < 32) && decide (sn < 16) && decide (m < 8) && decide (mode < 2) && decide (vi < 32) && decide (c < 2)
  | .vscat vd sn m mode vi c => decide (vd < 32) && decide (sn < 16) && decide (m < 8) && decide (mode < 2) && decide (vi < 32) && decide (c < 2)
  | .spld vd m vi c => decide (vd < 32) && decide (m < 8) && decide (vi < 32) && decide (c < 2)
  | .spst vd m vi c => decide (vd < 32) && decide (m < 8) && decide (vi < 32) && decide (c < 2)
  | .atomAld d xs1 b scope acq rel v w => decide (d < 32) && decide (xs1 < 32) && decide (b < 32) && decide (scope < 4) && decide (acq < 2) && decide (rel < 2) && decide (v < 2) && decide (w < 4) && (decide (v = 1) || (decide (w < 2) && decide (b = 0)))
  | .atomAadd d xs1 b scope acq rel v w => decide (d < 32) && decide (xs1 < 32) && decide (b < 32) && decide (scope < 4) && decide (acq < 2) && decide (rel < 2) && decide (v < 2) && decide (w < 4) && (decide (v = 1) || (decide (w < 2) && decide (d = 0)))
  | .atomAmin d xs1 b scope acq rel v w => decide (d < 32) && decide (xs1 < 32) && decide (b < 32) && decide (scope < 4) && decide (acq < 2) && decide (rel < 2) && decide (v < 2) && decide (w < 4) && (decide (v = 1) || (decide (w < 2)))
  | .atomAmax d xs1 b scope acq rel v w => decide (d < 32) && decide (xs1 < 32) && decide (b < 32) && decide (scope < 4) && decide (acq < 2) && decide (rel < 2) && decide (v < 2) && decide (w < 4) && (decide (v = 1) || (decide (w < 2)))
  | .atomAminZ d xs1 b scope acq rel v w => decide (d < 32) && decide (xs1 < 32) && decide (b < 32) && decide (scope < 4) && decide (acq < 2) && decide (rel < 2) && decide (v < 2) && decide (w < 4) && (decide (v = 1) || (decide (w < 2)))
  | .atomAmaxZ d xs1 b scope acq rel v w => decide (d < 32) && decide (xs1 < 32) && decide (b < 32) && decide (scope < 4) && decide (acq < 2) && decide (rel < 2) && decide (v < 2) && decide (w < 4) && (decide (v = 1) || (decide (w < 2)))
  | .atomAand d xs1 b scope acq rel v w => decide (d < 32) && decide (xs1 < 32) && decide (b < 32) && decide (scope < 4) && decide (acq < 2) && decide (rel < 2) && decide (v < 2) && decide (w < 4) && (decide (v = 1) || (decide (w < 2)))
  | .atomAor d xs1 b scope acq rel v w => decide (d < 32) && decide (xs1 < 32) && decide (b < 32) && decide (scope < 4) && decide (acq < 2) && decide (rel < 2) && decide (v < 2) && decide (w < 4) && (decide (v = 1) || (decide (w < 2)))
  | .atomAxor d xs1 b scope acq rel v w => decide (d < 32) && decide (xs1 < 32) && decide (b < 32) && decide (scope < 4) && decide (acq < 2) && decide (rel < 2) && decide (v < 2) && decide (w < 4) && (decide (v = 1) || (decide (w < 2)))
  | .atomSwap d xs1 b scope acq rel v w => decide (d < 32) && decide (xs1 < 32) && decide (b < 32) && decide (scope < 4) && decide (acq < 2) && decide (rel < 2) && decide (v < 2) && decide (w < 4) && (decide (v = 1) || (decide (w < 2)))
  | .atomCas d xs1 b scope acq rel v w => decide (d < 32) && decide (xs1 < 32) && decide (b < 32) && decide (scope < 4) && decide (acq < 2) && decide (rel < 2) && decide (v < 2) && decide (w < 4) && (decide (v = 1) || (decide (w < 2))) && (decide (v = 0) || decide (d < 31))
  | .atomFadd d xs1 b scope acq rel v w => decide (d < 32) && decide (xs1 < 32) && decide (b < 32) && decide (scope < 4) && decide (acq < 2) && decide (rel < 2) && decide (v < 2) && decide (w < 4) && (decide (v = 1) || (decide (w < 2)))
  | .atomAst d xs1 b scope acq rel v w => decide (d < 32) && decide (xs1 < 32) && decide (b < 32) && decide (scope < 4) && decide (acq < 2) && decide (rel < 2) && decide (v < 2) && decide (w < 4) && (decide (v = 1) || (decide (w < 2) && decide (d = 0)))
  | .phase scope => decide (scope < 4)
  | .bar xs1 xs2 scope => decide (xs1 < 32) && decide (xs2 < 32) && decide (scope < 4)
  | .fenceAlias => true
  | .palloc xd xs1 => decide (xd < 32) && decide (xs1 < 32)
  | .pst xs1 xs2 => decide (xs1 < 32) && decide (xs2 < 32)
  | .pld xd xs1 => decide (xd < 32) && decide (xs1 < 32)
  | .post xd xs1 xs2 => decide (xd < 32) && decide (xs1 < 32) && decide (xs2 < 32)
  | .accept xd => decide (xd < 32)
  | .pfree xs1 => decide (xs1 < 32)
  | .mset xd xs => decide (xd < 32) && decide (xs < 32)
  | .mfmt code st => decide (code < 32) && decide (st < 4)
  | .mclaim xd => decide (xd < 32)
  | .mrel => true
  | .wld xs code sp xp tile => decide (xs < 32) && decide (code < 32) && decide (sp < 2) && decide (xp < 32) && decide (tile < 2)
  | .wswap => true
  | .mrow vb acc xs c st => decide (vb < 32) && decide (acc < 4) && decide (xs < 32) && decide (c < 2) && decide (st < 4)
  | .azero acc => decide (acc < 4)
  | .ald acc xs xp => decide (acc < 4) && decide (xs < 32) && decide (xp < 32)
  | .ast acc xs xp ety tr => decide (acc < 4) && decide (xs < 32) && decide (xp < 32) && decide (ety < 16) && decide (tr < 2) && decide (ety < 12)
  | .cpset xs1 ch => decide (xs1 < 32) && decide (ch < 4)
  | .cplaunch xd ch => decide (xd < 32) && decide (ch < 4)
  | .cpwait xd xs1 ch => decide (xd < 32) && decide (xs1 < 32) && decide (ch < 4)
  | .cpstat xd xs1 ch => decide (xd < 32) && decide (xs1 < 32) && decide (ch < 4)
  | .rtset xs1 => decide (xs1 < 32)
  | .rtgo xd => decide (xd < 32)
  | .rtcomb xd => decide (xd < 32)
  | .rtwait xd => decide (xd < 32)
  | .rtdrop xd xs1 => decide (xd < 32) && decide (xs1 < 32)
  | .taskadd xd xs1 => decide (xd < 32) && decide (xs1 < 32)
  | .taskget xd xs1 => decide (xd < 32) && decide (xs1 < 32)
  | .taskdone xd xs1 xs2 => decide (xd < 32) && decide (xs1 < 32) && decide (xs2 < 32)
  | .graphgo xd xs1 => decide (xd < 32) && decide (xs1 < 32)
  | .qpost xd xs1 xs2 => decide (xd < 32) && decide (xs1 < 32) && decide (xs2 < 32)
  | .qtake xd xs1 xs2 => decide (xd < 32) && decide (xs1 < 32) && decide (xs2 < 32)
  | .nlsend vb xs1 xs2 side => decide (vb < 32) && decide (xs1 < 32) && decide (xs2 < 32) && decide (side < 4)
  | .nlrecv vb xs1 xs2 side => decide (vb < 32) && decide (xs1 < 32) && decide (xs2 < 32) && decide (side < 4)
  | .wait xd xs1 => decide (xd < 32) && decide (xs1 < 32)
  | .notify xd xs1 => decide (xd < 32) && decide (xs1 < 32)
  | .nret => true
  | .setdl xd xs1 xs2 => decide (xd < 32) && decide (xs1 < 32) && decide (xs2 < 32)
  | .ecall => true
  | .ebreak => true
  | .trapret => true
  | .tlbinv xs1 xs2 => decide (xs1 < 32) && decide (xs2 < 32)
  | .halt => true
  | .yield xs1 => decide (xs1 < 32)
  | .perf xd xs1 => decide (xd < 32) && decide (xs1 < 32)
  | .lanemap xd xs1 xs2 => decide (xd < 32) && decide (xs1 < 32) && decide (xs2 < 32)
  | .ofs dx1 dy1 dz1 dx2 dy2 dz2 ovr w2 => decide (dx1 < 16) && decide (dy1 < 16) && decide (dz1 < 16) && decide (dx2 < 16) && decide (dy2 < 16) && decide (dz2 < 16) && decide (ovr < 4) && pairLegal dx2 dy2 dz2 w2 && decide (w2 < 4294967296)
  | .illegalInstruction _ _ _ => true
  | .trap _ _ _ _ _ => true
  | .elementGroupCommit => true
  | .notification => true
  | .late _ => true
  | .publicationComplete _ => true
  | .barrierComplete _ _ _ => true
  | .pacerTranslate _ _ => true
  | .copyComplete _ _ => true
  | .copyFault _ _ => true
  | .routingOperationEnd _ => true
  | .routingFault _ => true
  | .tileLatch _ => true
  | .neighbourRowArrival _ _ _ _ _ => true
  | .graphNode _ _ => true
  | .parcelConfirm _ => true
  | .parcelDeliveryFail _ _ => true
  | .retrainAttemptEnd _ _ _ => true
  | .linkUp _ => true
  | .moveEnded _ => true
  | .pinExpiry _ => true
  | .hostQueueTake _ => true
  | .contextSaved _ _ => true
  | .eventRecordWrite => true
  | .hotnessFlush _ => true
  | .nearCacheEviction _ _ => true
  | .shadowStallTimeout _ => true
  | .parcelConfirmTimeout _ => true
  | .receiverDiscard _ => true
  | .packetService _ => true
  | .packageDeadline _ => true
  | .fabricDeadline _ => true
  | .combineHoldExpiry _ => true
  | .combinedReply _ _ => true
  | .movedRefusal _ => true
  | .replyCacheExpiry _ => true
  | .flitReceive _ _ _ _ _ => true
  | .replayTimeout _ => true
  | .linkControlFlit _ _ _ => true
  | .wavelengthDark _ _ => true
  | .laserLineLost _ => true
  | .retrainWindow _ _ _ => true
  | .lockDone _ _ => true
  | .trainDone _ _ => true
  | .linkLock _ => true
  | .linkTrain _ => true
  | .freePortPeer _ _ => true
  | .rekey _ => true
  | .relane _ => true
  | .txkey _ _ => true
  | .rxkey _ _ => true
  | .laserEnable _ _ => true
  | .move _ _ => true
  | .moveRelease _ => true
  | .doorbell _ _ => true
  | .hqstatEnable _ _ => true
  | .hqstatStoppedClear _ => true
  | .reqfree _ => true
  | .taskkill _ => true
  | .start _ _ => true
  | .restore _ _ => true
  | .preEmpt _ _ => true
  | .evhead _ => true
  | .evsz _ => true
  | .arrivalQueue _ _ => true
  | .powerCap _ _ => true
  | .plim _ => true
  | .throttle _ _ => true
  | .thermalTrip => true
  | .powerLoss => true
  | .boot _ _ _ => true
  | .freeze => true
  | .bypass _ => true
  | .idcode => true
  | .chain _ => true
  | .attestationRequest _ => true
  | .rollbackRaise => true
  | .registerWrite _ _ => true
  | .hartRestart _ => true
  | .lightReturn _ _ => true
  | .hostWrite _ _ _ => true

end Sys2Proof
end

