-- ==== Sys2Proof/Machine/Bits.lean ====
section
/-!
DEFINITION. Bit fields, sign extension and little-endian byte strings (R2, R130, R131).
-/

namespace Sys2Proof.Machine

/-- `sext(v, n)`: the low `n` bits of `v` as a signed value, in 64 bits (R131). -/
def sext (n v : Nat) : Word := (BitVec.ofNat n v).signExtend 64

/-- `zext(v, n)`. -/
def zext (n v : Nat) : Word := (BitVec.ofNat n v).setWidth 64

/-- Bits `lo` to `lo + n - 1` of a register. -/
def bitsOf (w : Word) (lo n : Nat) : Nat := field w.toNat lo n

/-- A number with bits `lo` to `lo + n - 1` replaced by the low `n` bits of `v`. -/
def setField (w lo n v : Nat) : Nat := w - field w lo n * 2 ^ lo + v % 2 ^ n * 2 ^ lo

/-- The signed value of the low `n` bits of `v`. -/
def signed (n v : Nat) : Int := (BitVec.ofNat n v).toInt

/-- The low `n` bits of an integer. -/
def wrapTo (n : Nat) (v : Int) : Nat := (v % 2 ^ n).toNat

/-- The `n` bytes of a value, least significant first (R2). -/
def leBytes : Nat → Nat → List Byte
  | 0, _ => []
  | n + 1, v => BitVec.ofNat 8 v :: leBytes n (v / 256)

/-- The value of a byte string, least significant byte first (R2). -/
def ofLe : List Byte → Nat
  | [] => 0
  | b :: bs => b.toNat + 256 * ofLe bs

/-- Word from a number, and a truth value as a number. -/
def toWord (n : Nat) : Word := BitVec.ofNat 64 n

def bit (b : Bool) : Nat := if b then 1 else 0

/-- Ceiling of a quotient. -/
def ceilDiv (a b : Nat) : Nat := (a + b - 1) / b

/-- `vget v i d`: entry `i`, or `d` outside the range. -/
def vget {α : Type} {n : Nat} (v : Vector α n) (i : Nat) (d : α) : α := v[i]?.getD d

/-- `vset v i x`: entry `i` replaced; nothing outside the range. -/
def vset {α : Type} {n : Nat} (v : Vector α n) (i : Nat) (x : α) : Vector α n := v.setIfInBounds i x

/-- Number of leading zero bits of an `n`-bit value. -/
def leadingZeros : Nat → Nat → Nat
  | 0, _ => 0
  | n + 1, v => if v.testBit n then 0 else 1 + leadingZeros n v

/-- Number of 1 bits among the low `n` bits. -/
def popCount : Nat → Nat → Nat
  | 0, _ => 0
  | n + 1, v => bit (v.testBit n) + popCount n v

/-- First index below `n` for which a predicate holds, counting from `i`. -/
def firstIndex (p : Nat → Bool) : Nat → Nat → Option Nat
  | 0, _ => none
  | n + 1, i => if p i then some i else firstIndex p n (i + 1)

end Sys2Proof.Machine
end

