-- ==== Sys2Proof/Config.lean ====
section
/-!
DEFINITION. The free values: what the manual leaves open and the machine goes on with. Each is an opaque constant applied to the
step counter of State (and to what else it may depend on), so no proof can see it and every claim holds for every value.
-/

namespace Sys2Proof.Config

/-- Nanoseconds of TIME that pass in a step (R150 gives no figure for one). FREE VALUE, log 7. -/
opaque nanos : Nat → BitVec 64

/-- Cycles of the arithmetic clock of the hart at a slot that pass in a step (R150, R292). FREE VALUE, log 7. -/
opaque cycles : Nat → Nat → BitVec 64

/-- Cycles of a step in which the hart at a slot stalls at issue on a watermark (R266, index 0). FREE VALUE, log 7. -/
opaque stalls : Nat → Nat → BitVec 64

/-- Whether an access that finds its data, or a translation, at hand misses all the same: neither the near cache's size nor the pacer's is
given (R266, indexes 3 and 7). FREE VALUE, log 7. -/
opaque missesAnyway : Nat → Nat → Bool

/-- Which of several VSCAT elements that name one byte leaves its value there (R52). FREE VALUE, log 9. -/
opaque scatterWinner : Nat → Nat → Nat

/-- Whether an address of a contiguous group whose entries disagree is translated from entry 0 of the group (R313). FREE VALUE,
log 10. -/
opaque groupFromFirst : Nat → Nat → Bool

/-- The bits that a scan chain shifts out: the manual lays out no chain (R389). FREE VALUE, log 11. -/
opaque scanChain : Nat → Nat → List (BitVec 64)

/-- TWORD of a trap that no fetched instruction word stands for: a fetch that faulted, LATE (R305 names the trapping instruction's
word). FREE VALUE, log 11. -/
opaque trapWord : Nat → Nat

/-- The RSA signature of an attestation report under the module's key (R390, R391). FREE VALUE, log 11. -/
opaque signReport : List (BitVec 8) → List (BitVec 8)

/-- The SHA-256 digest of the retirement log, whose bytes the manual does not lay out (R391). FREE VALUE, log 11. -/
opaque logDigest : List (BitVec 64) → BitVec 256

/-- The four revision bits of IDCODE (R389 gives no figure). FREE VALUE, log 11. -/
opaque idRevision : BitVec 4

/-- Which module of the membership map a non-minimal path goes by (R355 draws it). FREE VALUE, log 84. -/
opaque viaModule : Nat → Nat → Nat

end Sys2Proof.Config
end

