-- ==== Sys2Proof/Decode.lean ====
section
/-!
DEFINITION. The encoder and the decoder (R117 to R132). The encoder writes each form's fixed bits and fields as the layouts of
R119 and R122 and the function tables of R123 to R129 give them; the decoder picks the form by major and function field,
reads the fields, and accepts the word only if the encoder gives it back and the form is well formed, so every field that must
hold zero is checked (R132).
-/

namespace Sys2Proof

/-- The word of a form, bit 0 the least significant; for an OFS pair the prefix word (R119). Rows without a word encode as 0,
the word that is never an instruction (R132). -/
def encode : Instr → Nat
  | .add xd xs1 xs2 => 67108864 + xd * 2097152 + xs1 * 65536 + xs2 * 2048
  | .sub xd xs1 xs2 => 67108865 + xd * 2097152 + xs1 * 65536 + xs2 * 2048
  | .and xd xs1 xs2 => 67108866 + xd * 2097152 + xs1 * 65536 + xs2 * 2048
  | .or xd xs1 xs2 => 67108867 + xd * 2097152 + xs1 * 65536 + xs2 * 2048
  | .xor xd xs1 xs2 => 67108868 + xd * 2097152 + xs1 * 65536 + xs2 * 2048
  | .sll xd xs1 xs2 => 67108869 + xd * 2097152 + xs1 * 65536 + xs2 * 2048
  | .srl xd xs1 xs2 => 67108870 + xd * 2097152 + xs1 * 65536 + xs2 * 2048
  | .sra xd xs1 xs2 => 67108871 + xd * 2097152 + xs1 * 65536 + xs2 * 2048
  | .slt xd xs1 xs2 => 67108872 + xd * 2097152 + xs1 * 65536 + xs2 * 2048
  | .sltZ xd xs1 xs2 => 67108873 + xd * 2097152 + xs1 * 65536 + xs2 * 2048
  | .min xd xs1 xs2 => 67108874 + xd * 2097152 + xs1 * 65536 + xs2 * 2048
  | .max xd xs1 xs2 => 67108875 + xd * 2097152 + xs1 * 65536 + xs2 * 2048
  | .minZ xd xs1 xs2 => 67108876 + xd * 2097152 + xs1 * 65536 + xs2 * 2048
  | .maxZ xd xs1 xs2 => 67108877 + xd * 2097152 + xs1 * 65536 + xs2 * 2048
  | .clz xd xs1 => 67108878 + xd * 2097152 + xs1 * 65536
  | .popc xd xs1 => 67108879 + xd * 2097152 + xs1 * 65536
  | .sel xd xs1 xs2 => 67108880 + xd * 2097152 + xs1 * 65536 + xs2 * 2048
  | .mul xd xs1 xs2 => 67108881 + xd * 2097152 + xs1 * 65536 + xs2 * 2048
  | .mulh xd xs1 xs2 => 67108882 + xd * 2097152 + xs1 * 65536 + xs2 * 2048
  | .mulhZ xd xs1 xs2 => 67108883 + xd * 2097152 + xs1 * 65536 + xs2 * 2048
  | .div xd xs1 xs2 => 67108884 + xd * 2097152 + xs1 * 65536 + xs2 * 2048
  | .divZ xd xs1 xs2 => 67108885 + xd * 2097152 + xs1 * 65536 + xs2 * 2048
  | .rem xd xs1 xs2 => 67108886 + xd * 2097152 + xs1 * 65536 + xs2 * 2048
  | .remZ xd xs1 xs2 => 67108887 + xd * 2097152 + xs1 * 65536 + xs2 * 2048
  | .addi xd xs1 imm => 134217728 + xd * 2097152 + xs1 * 65536 + imm * 1
  | .andi xd xs1 imm => 201326592 + xd * 2097152 + xs1 * 65536 + imm * 1
  | .ori xd xs1 imm => 268435456 + xd * 2097152 + xs1 * 65536 + imm * 1
  | .xori xd xs1 imm => 335544320 + xd * 2097152 + xs1 * 65536 + imm * 1
  | .slli xd xs1 amt => 402653184 + xd * 2097152 + xs1 * 65536 + amt * 1
  | .srli xd xs1 amt => 402653248 + xd * 2097152 + xs1 * 65536 + amt * 1
  | .srai xd xs1 amt => 402653312 + xd * 2097152 + xs1 * 65536 + amt * 1
  | .slti xd xs1 imm => 603979776 + xd * 2097152 + xs1 * 65536 + imm * 1
  | .lui xd imm => 469762048 + xd * 2097152 + imm * 1
  | .addpc xd imm => 536870912 + xd * 2097152 + imm * 1
  | .ldsS8 xd xs1 imm => 671096832 + xd * 2097152 + xs1 * 65536 + imm * 1
  | .ldsZ8 xd xs1 imm => 671088640 + xd * 2097152 + xs1 * 65536 + imm * 1
  | .ldsS16 xd xs1 imm => 671113216 + xd * 2097152 + xs1 * 65536 + imm * 1
  | .ldsZ16 xd xs1 imm => 671105024 + xd * 2097152 + xs1 * 65536 + imm * 1
  | .ldsS32 xd xs1 imm => 671129600 + xd * 2097152 + xs1 * 65536 + imm * 1
  | .ldsZ32 xd xs1 imm => 671121408 + xd * 2097152 + xs1 * 65536 + imm * 1
  | .ldsZ64 xd xs1 imm => 671137792 + xd * 2097152 + xs1 * 65536 + imm * 1
  | .stsZ8 xd xs1 imm => 738197504 + xd * 2097152 + xs1 * 65536 + imm * 1
  | .stsZ16 xd xs1 imm => 738213888 + xd * 2097152 + xs1 * 65536 + imm * 1
  | .stsZ32 xd xs1 imm => 738230272 + xd * 2097152 + xs1 * 65536 + imm * 1
  | .stsZ64 xd xs1 imm => 738246656 + xd * 2097152 + xs1 * 65536 + imm * 1
  | .beq xs1 xs2 off => 805306368 + xs1 * 2097152 + xs2 * 65536 + off * 1
  | .bne xs1 xs2 off => 805314560 + xs1 * 2097152 + xs2 * 65536 + off * 1
  | .blt xs1 xs2 off => 805322752 + xs1 * 2097152 + xs2 * 65536 + off * 1
  | .bge xs1 xs2 off => 805330944 + xs1 * 2097152 + xs2 * 65536 + off * 1
  | .bltZ xs1 xs2 off => 805339136 + xs1 * 2097152 + xs2 * 65536 + off * 1
  | .bgeZ xs1 xs2 off => 805347328 + xs1 * 2097152 + xs2 * 65536 + off * 1
  | .jal xd off => 872415232 + xd * 2097152 + off * 1
  | .jalr xd xs1 imm => 939524096 + xd * 2097152 + xs1 * 65536 + imm * 1
  | .csrrw xd xs1 csr => 1006632960 + xd * 2097152 + xs1 * 65536 + csr * 1
  | .csrrs xd xs1 csr => 1006649344 + xd * 2097152 + xs1 * 65536 + csr * 1
  | .csrrc xd xs1 csr => 1006665728 + xd * 2097152 + xs1 * 65536 + csr * 1
  | .vadd vd vs1 vs2 m o c1 c2 => 1073741824 + vd * 2097152 + vs1 * 65536 + vs2 * 2048 + m * 256 + o * 32 + c1 * 16 + c2 * 8
  | .vsub vd vs1 vs2 m o c1 c2 => 1073741825 + vd * 2097152 + vs1 * 65536 + vs2 * 2048 + m * 256 + o * 32 + c1 * 16 + c2 * 8
  | .vmul vd vs1 vs2 m o c1 c2 => 1073741826 + vd * 2097152 + vs1 * 65536 + vs2 * 2048 + m * 256 + o * 32 + c1 * 16 + c2 * 8
  | .vmulh vd vs1 vs2 m o c1 c2 => 1073741827 + vd * 2097152 + vs1 * 65536 + vs2 * 2048 + m * 256 + o * 32 + c1 * 16 + c2 * 8
  | .vmin vd vs1 vs2 m o c1 c2 => 1073741828 + vd * 2097152 + vs1 * 65536 + vs2 * 2048 + m * 256 + o * 32 + c1 * 16 + c2 * 8
  | .vmax vd vs1 vs2 m o c1 c2 => 1073741829 + vd * 2097152 + vs1 * 65536 + vs2 * 2048 + m * 256 + o * 32 + c1 * 16 + c2 * 8
  | .vaddSat vd vs1 vs2 m o c1 c2 => 1073741830 + vd * 2097152 + vs1 * 65536 + vs2 * 2048 + m * 256 + o * 32 + c1 * 16 + c2 * 8
  | .vsubSat vd vs1 vs2 m o c1 c2 => 1073741831 + vd * 2097152 + vs1 * 65536 + vs2 * 2048 + m * 256 + o * 32 + c1 * 16 + c2 * 8
  | .vand vd vs1 vs2 m o c1 c2 => 1140850688 + vd * 2097152 + vs1 * 65536 + vs2 * 2048 + m * 256 + o * 32 + c1 * 16 + c2 * 8
  | .vor vd vs1 vs2 m o c1 c2 => 1140850689 + vd * 2097152 + vs1 * 65536 + vs2 * 2048 + m * 256 + o * 32 + c1 * 16 + c2 * 8
  | .vxor vd vs1 vs2 m o c1 c2 => 1140850690 + vd * 2097152 + vs1 * 65536 + vs2 * 2048 + m * 256 + o * 32 + c1 * 16 + c2 * 8
  | .vsll vd vs1 vs2 m o c1 c2 => 1140850691 + vd * 2097152 + vs1 * 65536 + vs2 * 2048 + m * 256 + o * 32 + c1 * 16 + c2 * 8
  | .vsrl vd vs1 vs2 m o c1 c2 => 1140850692 + vd * 2097152 + vs1 * 65536 + vs2 * 2048 + m * 256 + o * 32 + c1 * 16 + c2 * 8
  | .vsra vd vs1 vs2 m o c1 c2 => 1140850693 + vd * 2097152 + vs1 * 65536 + vs2 * 2048 + m * 256 + o * 32 + c1 * 16 + c2 * 8
  | .vmulSat vd vs1 vs2 m o c1 c2 => 1140850694 + vd * 2097152 + vs1 * 65536 + vs2 * 2048 + m * 256 + o * 32 + c1 * 16 + c2 * 8
  | .vsel vd vs1 vs2 m o c1 c2 => 1140850695 + vd * 2097152 + vs1 * 65536 + vs2 * 2048 + m * 256 + o * 32 + c1 * 16 + c2 * 8
  | .vfadd vd vs1 vs2 m rm c1 c2 => 1207959552 + vd * 2097152 + vs1 * 65536 + vs2 * 2048 + m * 256 + rm * 32 + c1 * 16 + c2 * 8
  | .vfsub vd vs1 vs2 m rm c1 c2 => 1207959553 + vd * 2097152 + vs1 * 65536 + vs2 * 2048 + m * 256 + rm * 32 + c1 * 16 + c2 * 8
  | .vfmul vd vs1 vs2 m rm c1 c2 => 1207959554 + vd * 2097152 + vs1 * 65536 + vs2 * 2048 + m * 256 + rm * 32 + c1 * 16 + c2 * 8
  | .vfdiv vd vs1 vs2 m rm c1 c2 => 1207959555 + vd * 2097152 + vs1 * 65536 + vs2 * 2048 + m * 256 + rm * 32 + c1 * 16 + c2 * 8
  | .vfsqrt vd vs1 m rm c1 => 1207959556 + vd * 2097152 + vs1 * 65536 + m * 256 + rm * 32 + c1 * 16
  | .vfmin vd vs1 vs2 m c1 c2 => 1207959557 + vd * 2097152 + vs1 * 65536 + vs2 * 2048 + m * 256 + c1 * 16 + c2 * 8
  | .vfmax vd vs1 vs2 m c1 c2 => 1207959558 + vd * 2097152 + vs1 * 65536 + vs2 * 2048 + m * 256 + c1 * 16 + c2 * 8
  | .vfabs vd vs1 m c1 => 1207959559 + vd * 2097152 + vs1 * 65536 + m * 256 + c1 * 16
  | .vfma vd vs1 vs2 m rm c1 c2 => 1275068416 + vd * 2097152 + vs1 * 65536 + vs2 * 2048 + m * 256 + rm * 32 + c1 * 16 + c2 * 8
  | .vfms vd vs1 vs2 m rm c1 c2 => 1275068417 + vd * 2097152 + vs1 * 65536 + vs2 * 2048 + m * 256 + rm * 32 + c1 * 16 + c2 * 8
  | .vfnma vd vs1 vs2 m rm c1 c2 => 1275068418 + vd * 2097152 + vs1 * 65536 + vs2 * 2048 + m * 256 + rm * 32 + c1 * 16 + c2 * 8
  | .vfnms vd vs1 vs2 m rm c1 c2 => 1275068419 + vd * 2097152 + vs1 * 65536 + vs2 * 2048 + m * 256 + rm * 32 + c1 * 16 + c2 * 8
  | .vceq md vs1 vs2 m o c1 c2 => 1342177280 + md * 2097152 + vs1 * 65536 + vs2 * 2048 + m * 256 + o * 32 + c1 * 16 + c2 * 8
  | .vcne md vs1 vs2 m o c1 c2 => 1342177281 + md * 2097152 + vs1 * 65536 + vs2 * 2048 + m * 256 + o * 32 + c1 * 16 + c2 * 8
  | .vclt md vs1 vs2 m o c1 c2 => 1342177282 + md * 2097152 + vs1 * 65536 + vs2 * 2048 + m * 256 + o * 32 + c1 * 16 + c2 * 8
  | .vcle md vs1 vs2 m o c1 c2 => 1342177283 + md * 2097152 + vs1 * 65536 + vs2 * 2048 + m * 256 + o * 32 + c1 * 16 + c2 * 8
  | .vcun md vs1 vs2 m o c1 c2 => 1342177284 + md * 2097152 + vs1 * 65536 + vs2 * 2048 + m * 256 + o * 32 + c1 * 16 + c2 * 8
  | .vmand md ms1 ms2 m => 1409286144 + md * 2097152 + ms1 * 65536 + ms2 * 2048 + m * 256
  | .vmor md ms1 ms2 m => 1409286145 + md * 2097152 + ms1 * 65536 + ms2 * 2048 + m * 256
  | .vmxor md ms1 ms2 m => 1409286146 + md * 2097152 + ms1 * 65536 + ms2 * 2048 + m * 256
  | .vmandn md ms1 ms2 m => 1409286147 + md * 2097152 + ms1 * 65536 + ms2 * 2048 + m * 256
  | .vmnot md ms1 m => 1409286148 + md * 2097152 + ms1 * 65536 + m * 256
  | .vmpopc md ms1 m => 1409286149 + md * 2097152 + ms1 * 65536 + m * 256
  | .vmfirst md ms1 m => 1409286150 + md * 2097152 + ms1 * 65536 + m * 256
  | .vcvt vd vs1 code m rm c1 => 1476395008 + vd * 2097152 + vs1 * 65536 + code * 2048 + m * 256 + rm * 32 + c1 * 16
  | .vcvtSat vd vs1 code m rm c1 => 1476395009 + vd * 2097152 + vs1 * 65536 + code * 2048 + m * 256 + rm * 32 + c1 * 16
  | .vunpk vd vs1 code m rm c1 => 1476395010 + vd * 2097152 + vs1 * 65536 + code * 2048 + m * 256 + rm * 32 + c1 * 16
  | .vpack vd vs1 code m rm c1 => 1476395011 + vd * 2097152 + vs1 * 65536 + code * 2048 + m * 256 + rm * 32 + c1 * 16
  | .vrsum vd vs1 axis m rm c1 => 1543503872 + vd * 2097152 + vs1 * 65536 + axis * 2048 + m * 256 + rm * 32 + c1 * 16
  | .vrmin vd vs1 axis m c1 => 1543503873 + vd * 2097152 + vs1 * 65536 + axis * 2048 + m * 256 + c1 * 16
  | .vrmax vd vs1 axis m c1 => 1543503874 + vd * 2097152 + vs1 * 65536 + axis * 2048 + m * 256 + c1 * 16
  | .vrand vd vs1 axis m c1 => 1543503875 + vd * 2097152 + vs1 * 65536 + axis * 2048 + m * 256 + c1 * 16
  | .vror vd vs1 axis m c1 => 1543503876 + vd * 2097152 + vs1 * 65536 + axis * 2048 + m * 256 + c1 * 16
  | .vrxor vd vs1 axis m c1 => 1543503877 + vd * 2097152 + vs1 * 65536 + axis * 2048 + m * 256 + c1 * 16
  | .vaddx vd vs1 xs m c1 sel => 1610612736 + vd * 2097152 + vs1 * 65536 + xs * 2048 + m * 256 + c1 * 16 + sel * 8
  | .vsubx vd vs1 xs m c1 sel => 1610612737 + vd * 2097152 + vs1 * 65536 + xs * 2048 + m * 256 + c1 * 16 + sel * 8
  | .vmulx vd vs1 xs m c1 sel => 1610612738 + vd * 2097152 + vs1 * 65536 + xs * 2048 + m * 256 + c1 * 16 + sel * 8
  | .vminx vd vs1 xs m c1 sel => 1610612739 + vd * 2097152 + vs1 * 65536 + xs * 2048 + m * 256 + c1 * 16 + sel * 8
  | .vmaxx vd vs1 xs m c1 sel => 1610612740 + vd * 2097152 + vs1 * 65536 + xs * 2048 + m * 256 + c1 * 16 + sel * 8
  | .vsllx vd vs1 xs m c1 sel => 1610612741 + vd * 2097152 + vs1 * 65536 + xs * 2048 + m * 256 + c1 * 16 + sel * 8
  | .vsrlx vd vs1 xs m c1 sel => 1610612742 + vd * 2097152 + vs1 * 65536 + xs * 2048 + m * 256 + c1 * 16 + sel * 8
  | .vsrax vd vs1 xs m c1 sel => 1610612743 + vd * 2097152 + vs1 * 65536 + xs * 2048 + m * 256 + c1 * 16 + sel * 8
  | .vfaddx vd vs1 xs m rm c1 => 1677721600 + vd * 2097152 + vs1 * 65536 + xs * 2048 + m * 256 + rm * 32 + c1 * 16
  | .vfsubx vd vs1 xs m rm c1 => 1677721601 + vd * 2097152 + vs1 * 65536 + xs * 2048 + m * 256 + rm * 32 + c1 * 16
  | .vfmulx vd vs1 xs m rm c1 => 1677721602 + vd * 2097152 + vs1 * 65536 + xs * 2048 + m * 256 + rm * 32 + c1 * 16
  | .vfdivx vd vs1 xs m rm c1 => 1677721603 + vd * 2097152 + vs1 * 65536 + xs * 2048 + m * 256 + rm * 32 + c1 * 16
  | .vfmaxPropagating vd vs1 xs m c1 => 1677721604 + vd * 2097152 + vs1 * 65536 + xs * 2048 + m * 256 + c1 * 16
  | .vfminx vd vs1 xs m c1 => 1677721605 + vd * 2097152 + vs1 * 65536 + xs * 2048 + m * 256 + c1 * 16
  | .vfmaxx vd vs1 xs m c1 => 1677721606 + vd * 2097152 + vs1 * 65536 + xs * 2048 + m * 256 + c1 * 16
  | .vfrsubx vd vs1 xs m rm c1 => 1677721607 + vd * 2097152 + vs1 * 65536 + xs * 2048 + m * 256 + rm * 32 + c1 * 16
  | .vceqx md vs1 xs m c1 sel => 1744830464 + md * 2097152 + vs1 * 65536 + xs * 2048 + m * 256 + c1 * 16 + sel * 8
  | .vcnex md vs1 xs m c1 sel => 1744830465 + md * 2097152 + vs1 * 65536 + xs * 2048 + m * 256 + c1 * 16 + sel * 8
  | .vcltx md vs1 xs m c1 sel => 1744830466 + md * 2097152 + vs1 * 65536 + xs * 2048 + m * 256 + c1 * 16 + sel * 8
  | .vclex md vs1 xs m c1 sel => 1744830467 + md * 2097152 + vs1 * 65536 + xs * 2048 + m * 256 + c1 * 16 + sel * 8
  | .vcgtx md vs1 xs m c1 sel => 1744830468 + md * 2097152 + vs1 * 65536 + xs * 2048 + m * 256 + c1 * 16 + sel * 8
  | .vcgex md vs1 xs m c1 sel => 1744830469 + md * 2097152 + vs1 * 65536 + xs * 2048 + m * 256 + c1 * 16 + sel * 8
  | .vmovx vd xs m sel => 1811939328 + vd * 2097152 + xs * 2048 + m * 256 + sel * 8
  | .vextx vd vs1 xs m c1 => 1811939329 + vd * 2097152 + vs1 * 65536 + xs * 2048 + m * 256 + c1 * 16
  | .vcoordX vd xs m sel => 1811939330 + vd * 2097152 + xs * 2048 + m * 256 + sel * 8
  | .vcoordY vd xs m sel => 1811939331 + vd * 2097152 + xs * 2048 + m * 256 + sel * 8
  | .vcoordZ vd xs m sel => 1811939332 + vd * 2097152 + xs * 2048 + m * 256 + sel * 8
  | .vtrxy vd vs1 m c1 => 1879048192 + vd * 2097152 + vs1 * 65536 + m * 256 + c1 * 16
  | .vslide vd vs1 amt m axis c1 => 1879048193 + vd * 2097152 + vs1 * 65536 + amt * 2048 + m * 256 + axis * 32 + c1 * 16
  | .vrot vd vs1 amt m axis c1 => 1879048194 + vd * 2097152 + vs1 * 65536 + amt * 2048 + m * 256 + axis * 32 + c1 * 16
  | .vgidx vd vs1 vs2 m c1 c2 => 1879048195 + vd * 2097152 + vs1 * 65536 + vs2 * 2048 + m * 256 + c1 * 16 + c2 * 8
  | .bshape xd xs1 => 1946157056 + xd * 2097152 + xs1 * 65536
  | .vtype xd xs1 => 1946157057 + xd * 2097152 + xs1 * 65536
  | .vlset xd xs1 => 1946157059 + xd * 2097152 + xs1 * 65536
  | .lap xs1 xs2 => 1946157060 + xs1 * 65536 + xs2 * 2048
  | .setofs xd xs1 n => 1946157072 + xd * 2097152 + xs1 * 65536 + n * 1
  | .adj xd xs1 reg face => 1946157312 + xd * 2097152 + xs1 * 65536 + reg * 8 + face * 1
  | .sset xs1 n => 2013265920 + xs1 * 65536 + n * 1
  | .sget xs1 n => 2013265936 + xs1 * 65536 + n * 1
  | .sbase xd xs1 n => 2013265952 + xd * 2097152 + xs1 * 65536 + n * 1
  | .vld vd sn m c => 2080374784 + vd * 2097152 + sn * 131072 + m * 16384 + c * 2
  | .vldAdv vd sn m c => 2080376832 + vd * 2097152 + sn * 131072 + m * 16384 + c * 2
  | .vst vd sn m c => 2147483648 + vd * 2097152 + sn * 131072 + m * 16384 + c * 2
  | .vstAdv vd sn m c => 2147485696 + vd * 2097152 + sn * 131072 + m * 16384 + c * 2
  | .vgath vd sn m mode vi c => 2214592512 + vd * 2097152 + sn * 131072 + m * 16384 + mode * 2048 + vi * 64 + c * 2
  | .vscat vd sn m mode vi c => 2214592516 + vd * 2097152 + sn * 131072 + m * 16384 + mode * 2048 + vi * 64 + c * 2
  | .spld vd m vi c => 2281701376 + vd * 2097152 + m * 16384 + vi * 64 + c * 2
  | .spst vd m vi c => 2281701380 + vd * 2097152 + m * 16384 + vi * 64 + c * 2
  | .atomAld d xs1 b scope acq rel v w => 2348810240 + d * 2097152 + xs1 * 65536 + b * 2048 + scope * 32 + acq * 16 + rel * 8 + v * 4 + w * 1
  | .atomAadd d xs1 b scope acq rel v w => 2348810368 + d * 2097152 + xs1 * 65536 + b * 2048 + scope * 32 + acq * 16 + rel * 8 + v * 4 + w * 1
  | .atomAmin d xs1 b scope acq rel v w => 2348810496 + d * 2097152 + xs1 * 65536 + b * 2048 + scope * 32 + acq * 16 + rel * 8 + v * 4 + w * 1
  | .atomAmax d xs1 b scope acq rel v w => 2348810624 + d * 2097152 + xs1 * 65536 + b * 2048 + scope * 32 + acq * 16 + rel * 8 + v * 4 + w * 1
  | .atomAminZ d xs1 b scope acq rel v w => 2348810752 + d * 2097152 + xs1 * 65536 + b * 2048 + scope * 32 + acq * 16 + rel * 8 + v * 4 + w * 1
  | .atomAmaxZ d xs1 b scope acq rel v w => 2348810880 + d * 2097152 + xs1 * 65536 + b * 2048 + scope * 32 + acq * 16 + rel * 8 + v * 4 + w * 1
  | .atomAand d xs1 b scope acq rel v w => 2348811008 + d * 2097152 + xs1 * 65536 + b * 2048 + scope * 32 + acq * 16 + rel * 8 + v * 4 + w * 1
  | .atomAor d xs1 b scope acq rel v w => 2348811136 + d * 2097152 + xs1 * 65536 + b * 2048 + scope * 32 + acq * 16 + rel * 8 + v * 4 + w * 1
  | .atomAxor d xs1 b scope acq rel v w => 2348811264 + d * 2097152 + xs1 * 65536 + b * 2048 + scope * 32 + acq * 16 + rel * 8 + v * 4 + w * 1
  | .atomSwap d xs1 b scope acq rel v w => 2348811392 + d * 2097152 + xs1 * 65536 + b * 2048 + scope * 32 + acq * 16 + rel * 8 + v * 4 + w * 1
  | .atomCas d xs1 b scope acq rel v w => 2348811520 + d * 2097152 + xs1 * 65536 + b * 2048 + scope * 32 + acq * 16 + rel * 8 + v * 4 + w * 1
  | .atomFadd d xs1 b scope acq rel v w => 2348811648 + d * 2097152 + xs1 * 65536 + b * 2048 + scope * 32 + acq * 16 + rel * 8 + v * 4 + w * 1
  | .atomAst d xs1 b scope acq rel v w => 2348811776 + d * 2097152 + xs1 * 65536 + b * 2048 + scope * 32 + acq * 16 + rel * 8 + v * 4 + w * 1
  | .phase scope => 2415919104 + scope * 1
  | .bar xs1 xs2 scope => 2415919120 + xs1 * 65536 + xs2 * 2048 + scope * 1
  | .fenceAlias => 2415919136
  | .palloc xd xs1 => 2483027968 + xd * 2097152 + xs1 * 65536
  | .pst xs1 xs2 => 2483027969 + xs1 * 65536 + xs2 * 2048
  | .pld xd xs1 => 2483027970 + xd * 2097152 + xs1 * 65536
  | .post xd xs1 xs2 => 2483027971 + xd * 2097152 + xs1 * 65536 + xs2 * 2048
  | .accept xd => 2483027972 + xd * 2097152
  | .pfree xs1 => 2483027973 + xs1 * 65536
  | .mset xd xs => 2550136832 + xd * 2097152 + xs * 16384
  | .mfmt code st => 2550138880 + code * 64 + st * 16
  | .mclaim xd => 2550140928 + xd * 2097152
  | .mrel => 2550142976
  | .wld xs code sp xp tile => 2617245696 + xs * 16384 + code * 256 + sp * 128 + xp * 4 + tile * 2
  | .wswap => 2617253888
  | .mrow vb acc xs c st => 2684354560 + vb * 2097152 + acc * 524288 + xs * 16384 + c * 2048 + st * 512
  | .azero acc => 2684358656 + acc * 524288
  | .ald acc xs xp => 2684362752 + acc * 524288 + xs * 16384 + xp * 128
  | .ast acc xs xp ety tr => 2684366848 + acc * 524288 + xs * 16384 + xp * 128 + ety * 8 + tr * 4
  | .cpset xs1 ch => 2751463424 + xs1 * 65536 + ch * 1
  | .cplaunch xd ch => 2751463428 + xd * 2097152 + ch * 1
  | .cpwait xd xs1 ch => 2751463432 + xd * 2097152 + xs1 * 65536 + ch * 1
  | .cpstat xd xs1 ch => 2751463436 + xd * 2097152 + xs1 * 65536 + ch * 1
  | .rtset xs1 => 2818572288 + xs1 * 65536
  | .rtgo xd => 2818572289 + xd * 2097152
  | .rtcomb xd => 2818572290 + xd * 2097152
  | .rtwait xd => 2818572291 + xd * 2097152
  | .rtdrop xd xs1 => 2818572292 + xd * 2097152 + xs1 * 65536
  | .taskadd xd xs1 => 2885681152 + xd * 2097152 + xs1 * 65536
  | .taskget xd xs1 => 2885681153 + xd * 2097152 + xs1 * 65536
  | .taskdone xd xs1 xs2 => 2885681154 + xd * 2097152 + xs1 * 65536 + xs2 * 2048
  | .graphgo xd xs1 => 2885681155 + xd * 2097152 + xs1 * 65536
  | .qpost xd xs1 xs2 => 2952790016 + xd * 2097152 + xs1 * 65536 + xs2 * 2048
  | .qtake xd xs1 xs2 => 2952790017 + xd * 2097152 + xs1 * 65536 + xs2 * 2048
  | .nlsend vb xs1 xs2 side => 3019898880 + vb * 2097152 + xs1 * 65536 + xs2 * 2048 + side * 1
  | .nlrecv vb xs1 xs2 side => 3019898884 + vb * 2097152 + xs1 * 65536 + xs2 * 2048 + side * 1
  | .wait xd xs1 => 3087007744 + xd * 2097152 + xs1 * 65536
  | .notify xd xs1 => 3087007745 + xd * 2097152 + xs1 * 65536
  | .nret => 3087007746
  | .setdl xd xs1 xs2 => 3087007747 + xd * 2097152 + xs1 * 65536 + xs2 * 2048
  | .ecall => 3154116608
  | .ebreak => 3154116609
  | .trapret => 3154116610
  | .tlbinv xs1 xs2 => 3154116611 + xs1 * 65536 + xs2 * 2048
  | .halt => 3154116612
  | .yield xs1 => 3154116613 + xs1 * 65536
  | .perf xd xs1 => 3154116614 + xd * 2097152 + xs1 * 65536
  | .lanemap xd xs1 xs2 => 3154116615 + xd * 2097152 + xs1 * 65536 + xs2 * 2048
  | .ofs dx1 dy1 dz1 dx2 dy2 dz2 ovr _ => 4227858432 + dx1 * 4194304 + dy1 * 262144 + dz1 * 16384 + dx2 * 1024 + dy2 * 64 + dz2 * 4 + ovr * 1
  | .illegalInstruction _ _ _ => 0
  | .trap _ _ _ _ _ => 0
  | .elementGroupCommit => 0
  | .notification => 0
  | .late _ => 0
  | .publicationComplete _ => 0
  | .barrierComplete _ _ _ => 0
  | .pacerTranslate _ _ => 0
  | .copyComplete _ _ => 0
  | .copyFault _ _ => 0
  | .routingOperationEnd _ => 0
  | .routingFault _ => 0
  | .tileLatch _ => 0
  | .neighbourRowArrival _ _ _ _ _ => 0
  | .graphNode _ _ => 0
  | .parcelConfirm _ => 0
  | .parcelDeliveryFail _ _ => 0
  | .retrainAttemptEnd _ _ _ => 0
  | .linkUp _ => 0
  | .moveEnded _ => 0
  | .pinExpiry _ => 0
  | .hostQueueTake _ => 0
  | .contextSaved _ _ => 0
  | .eventRecordWrite => 0
  | .hotnessFlush _ => 0
  | .nearCacheEviction _ _ => 0
  | .shadowStallTimeout _ => 0
  | .parcelConfirmTimeout _ => 0
  | .receiverDiscard _ => 0
  | .packetService _ => 0
  | .packageDeadline _ => 0
  | .fabricDeadline _ => 0
  | .combineHoldExpiry _ => 0
  | .combinedReply _ _ => 0
  | .movedRefusal _ => 0
  | .replyCacheExpiry _ => 0
  | .flitReceive _ _ _ _ _ => 0
  | .replayTimeout _ => 0
  | .linkControlFlit _ _ _ => 0
  | .wavelengthDark _ _ => 0
  | .laserLineLost _ => 0
  | .retrainWindow _ _ _ => 0
  | .lockDone _ _ => 0
  | .trainDone _ _ => 0
  | .linkLock _ => 0
  | .linkTrain _ => 0
  | .freePortPeer _ _ => 0
  | .rekey _ => 0
  | .relane _ => 0
  | .txkey _ _ => 0
  | .rxkey _ _ => 0
  | .laserEnable _ _ => 0
  | .move _ _ => 0
  | .moveRelease _ => 0
  | .doorbell _ _ => 0
  | .hqstatEnable _ _ => 0
  | .hqstatStoppedClear _ => 0
  | .reqfree _ => 0
  | .taskkill _ => 0
  | .start _ _ => 0
  | .restore _ _ => 0
  | .preEmpt _ _ => 0
  | .evhead _ => 0
  | .evsz _ => 0
  | .arrivalQueue _ _ => 0
  | .powerCap _ _ => 0
  | .plim _ => 0
  | .throttle _ _ => 0
  | .thermalTrip => 0
  | .powerLoss => 0
  | .boot _ _ _ => 0
  | .freeze => 0
  | .bypass _ => 0
  | .idcode => 0
  | .chain _ => 0
  | .attestationRequest _ => 0
  | .rollbackRaise => 0
  | .registerWrite _ _ => 0
  | .hartRestart _ => 0
  | .lightReturn _ _ => 0
  | .hostWrite _ _ _ => 0

/-- Why a word is not an instruction (R132). -/
inductive DecodeError where
  /-- no form has this major and function field -/
  | noForm
  /-- a field that must hold zero does not, or a field holds an illegal value -/
  | badField
  /-- an OFS word whose second word is not VV or VX, or is VX with a second triple -/
  | badPair
deriving DecidableEq, Repr

/-! The form that the function field of a word selects in each major, with its fields as read (R123 to R129); none where no form is
assigned. -/

/-- Major 0x01, SALU. -/
def major01 (w : Nat) : Option Instr :=
  match field w 0 11 with
  | 0 => some (.add (field w 21 5) (field w 16 5) (field w 11 5))
  | 1 => some (.sub (field w 21 5) (field w 16 5) (field w 11 5))
  | 2 => some (.and (field w 21 5) (field w 16 5) (field w 11 5))
  | 3 => some (.or (field w 21 5) (field w 16 5) (field w 11 5))
  | 4 => some (.xor (field w 21 5) (field w 16 5) (field w 11 5))
  | 5 => some (.sll (field w 21 5) (field w 16 5) (field w 11 5))
  | 6 => some (.srl (field w 21 5) (field w 16 5) (field w 11 5))
  | 7 => some (.sra (field w 21 5) (field w 16 5) (field w 11 5))
  | 8 => some (.slt (field w 21 5) (field w 16 5) (field w 11 5))
  | 9 => some (.sltZ (field w 21 5) (field w 16 5) (field w 11 5))
  | 10 => some (.min (field w 21 5) (field w 16 5) (field w 11 5))
  | 11 => some (.max (field w 21 5) (field w 16 5) (field w 11 5))
  | 12 => some (.minZ (field w 21 5) (field w 16 5) (field w 11 5))
  | 13 => some (.maxZ (field w 21 5) (field w 16 5) (field w 11 5))
  | 14 => some (.clz (field w 21 5) (field w 16 5))
  | 15 => some (.popc (field w 21 5) (field w 16 5))
  | 16 => some (.sel (field w 21 5) (field w 16 5) (field w 11 5))
  | 17 => some (.mul (field w 21 5) (field w 16 5) (field w 11 5))
  | 18 => some (.mulh (field w 21 5) (field w 16 5) (field w 11 5))
  | 19 => some (.mulhZ (field w 21 5) (field w 16 5) (field w 11 5))
  | 20 => some (.div (field w 21 5) (field w 16 5) (field w 11 5))
  | 21 => some (.divZ (field w 21 5) (field w 16 5) (field w 11 5))
  | 22 => some (.rem (field w 21 5) (field w 16 5) (field w 11 5))
  | 23 => some (.remZ (field w 21 5) (field w 16 5) (field w 11 5))
  | _ => none

/-- Major 0x06, shift immediates. -/
def major06 (w : Nat) : Option Instr :=
  match field w 6 2 with
  | 0 => some (.slli (field w 21 5) (field w 16 5) (field w 0 6))
  | 1 => some (.srli (field w 21 5) (field w 16 5) (field w 0 6))
  | 2 => some (.srai (field w 21 5) (field w 16 5) (field w 0 6))
  | _ => none

/-- Major 0x0A, LDS. -/
def major0A (w : Nat) : Option Instr :=
  match field w 13 3 with
  | 1 => some (.ldsS8 (field w 21 5) (field w 16 5) (field w 0 13))
  | 0 => some (.ldsZ8 (field w 21 5) (field w 16 5) (field w 0 13))
  | 3 => some (.ldsS16 (field w 21 5) (field w 16 5) (field w 0 13))
  | 2 => some (.ldsZ16 (field w 21 5) (field w 16 5) (field w 0 13))
  | 5 => some (.ldsS32 (field w 21 5) (field w 16 5) (field w 0 13))
  | 4 => some (.ldsZ32 (field w 21 5) (field w 16 5) (field w 0 13))
  | 6 => some (.ldsZ64 (field w 21 5) (field w 16 5) (field w 0 13))
  | _ => none

/-- Major 0x0B, STS. -/
def major0B (w : Nat) : Option Instr :=
  match field w 13 3 with
  | 0 => some (.stsZ8 (field w 21 5) (field w 16 5) (field w 0 13))
  | 2 => some (.stsZ16 (field w 21 5) (field w 16 5) (field w 0 13))
  | 4 => some (.stsZ32 (field w 21 5) (field w 16 5) (field w 0 13))
  | 6 => some (.stsZ64 (field w 21 5) (field w 16 5) (field w 0 13))
  | _ => none

/-- Major 0x0C, BR. -/
def major0C (w : Nat) : Option Instr :=
  match field w 13 3 with
  | 0 => some (.beq (field w 21 5) (field w 16 5) (field w 0 13))
  | 1 => some (.bne (field w 21 5) (field w 16 5) (field w 0 13))
  | 2 => some (.blt (field w 21 5) (field w 16 5) (field w 0 13))
  | 3 => some (.bge (field w 21 5) (field w 16 5) (field w 0 13))
  | 4 => some (.bltZ (field w 21 5) (field w 16 5) (field w 0 13))
  | 5 => some (.bgeZ (field w 21 5) (field w 16 5) (field w 0 13))
  | _ => none

/-- Major 0x0F, CSR. -/
def major0F (w : Nat) : Option Instr :=
  match field w 14 2 with
  | 0 => some (.csrrw (field w 21 5) (field w 16 5) (field w 0 12))
  | 1 => some (.csrrs (field w 21 5) (field w 16 5) (field w 0 12))
  | 2 => some (.csrrc (field w 21 5) (field w 16 5) (field w 0 12))
  | _ => none

/-- Major 0x10, VINTA. -/
def major10 (w : Nat) : Option Instr :=
  match field w 0 3 with
  | 0 => some (.vadd (field w 21 5) (field w 16 5) (field w 11 5) (field w 8 3) (field w 5 3) (field w 4 1) (field w 3 1))
  | 1 => some (.vsub (field w 21 5) (field w 16 5) (field w 11 5) (field w 8 3) (field w 5 3) (field w 4 1) (field w 3 1))
  | 2 => some (.vmul (field w 21 5) (field w 16 5) (field w 11 5) (field w 8 3) (field w 5 3) (field w 4 1) (field w 3 1))
  | 3 => some (.vmulh (field w 21 5) (field w 16 5) (field w 11 5) (field w 8 3) (field w 5 3) (field w 4 1) (field w 3 1))
  | 4 => some (.vmin (field w 21 5) (field w 16 5) (field w 11 5) (field w 8 3) (field w 5 3) (field w 4 1) (field w 3 1))
  | 5 => some (.vmax (field w 21 5) (field w 16 5) (field w 11 5) (field w 8 3) (field w 5 3) (field w 4 1) (field w 3 1))
  | 6 => some (.vaddSat (field w 21 5) (field w 16 5) (field w 11 5) (field w 8 3) (field w 5 3) (field w 4 1) (field w 3 1))
  | 7 => some (.vsubSat (field w 21 5) (field w 16 5) (field w 11 5) (field w 8 3) (field w 5 3) (field w 4 1) (field w 3 1))
  | _ => none

/-- Major 0x11, VINTB. -/
def major11 (w : Nat) : Option Instr :=
  match field w 0 3 with
  | 0 => some (.vand (field w 21 5) (field w 16 5) (field w 11 5) (field w 8 3) (field w 5 3) (field w 4 1) (field w 3 1))
  | 1 => some (.vor (field w 21 5) (field w 16 5) (field w 11 5) (field w 8 3) (field w 5 3) (field w 4 1) (field w 3 1))
  | 2 => some (.vxor (field w 21 5) (field w 16 5) (field w 11 5) (field w 8 3) (field w 5 3) (field w 4 1) (field w 3 1))
  | 3 => some (.vsll (field w 21 5) (field w 16 5) (field w 11 5) (field w 8 3) (field w 5 3) (field w 4 1) (field w 3 1))
  | 4 => some (.vsrl (field w 21 5) (field w 16 5) (field w 11 5) (field w 8 3) (field w 5 3) (field w 4 1) (field w 3 1))
  | 5 => some (.vsra (field w 21 5) (field w 16 5) (field w 11 5) (field w 8 3) (field w 5 3) (field w 4 1) (field w 3 1))
  | 6 => some (.vmulSat (field w 21 5) (field w 16 5) (field w 11 5) (field w 8 3) (field w 5 3) (field w 4 1) (field w 3 1))
  | 7 => some (.vsel (field w 21 5) (field w 16 5) (field w 11 5) (field w 8 3) (field w 5 3) (field w 4 1) (field w 3 1))
  | _ => none

/-- Major 0x12, VFA. -/
def major12 (w : Nat) : Option Instr :=
  match field w 0 3 with
  | 0 => some (.vfadd (field w 21 5) (field w 16 5) (field w 11 5) (field w 8 3) (field w 5 3) (field w 4 1) (field w 3 1))
  | 1 => some (.vfsub (field w 21 5) (field w 16 5) (field w 11 5) (field w 8 3) (field w 5 3) (field w 4 1) (field w 3 1))
  | 2 => some (.vfmul (field w 21 5) (field w 16 5) (field w 11 5) (field w 8 3) (field w 5 3) (field w 4 1) (field w 3 1))
  | 3 => some (.vfdiv (field w 21 5) (field w 16 5) (field w 11 5) (field w 8 3) (field w 5 3) (field w 4 1) (field w 3 1))
  | 4 => some (.vfsqrt (field w 21 5) (field w 16 5) (field w 8 3) (field w 5 3) (field w 4 1))
  | 5 => some (.vfmin (field w 21 5) (field w 16 5) (field w 11 5) (field w 8 3) (field w 4 1) (field w 3 1))
  | 6 => some (.vfmax (field w 21 5) (field w 16 5) (field w 11 5) (field w 8 3) (field w 4 1) (field w 3 1))
  | 7 => some (.vfabs (field w 21 5) (field w 16 5) (field w 8 3) (field w 4 1))
  | _ => none

/-- Major 0x13, VFB. -/
def major13 (w : Nat) : Option Instr :=
  match field w 0 3 with
  | 0 => some (.vfma (field w 21 5) (field w 16 5) (field w 11 5) (field w 8 3) (field w 5 3) (field w 4 1) (field w 3 1))
  | 1 => some (.vfms (field w 21 5) (field w 16 5) (field w 11 5) (field w 8 3) (field w 5 3) (field w 4 1) (field w 3 1))
  | 2 => some (.vfnma (field w 21 5) (field w 16 5) (field w 11 5) (field w 8 3) (field w 5 3) (field w 4 1) (field w 3 1))
  | 3 => some (.vfnms (field w 21 5) (field w 16 5) (field w 11 5) (field w 8 3) (field w 5 3) (field w 4 1) (field w 3 1))
  | _ => none

/-- Major 0x14, VCMP. -/
def major14 (w : Nat) : Option Instr :=
  match field w 0 3 with
  | 0 => some (.vceq (field w 21 3) (field w 16 5) (field w 11 5) (field w 8 3) (field w 5 3) (field w 4 1) (field w 3 1))
  | 1 => some (.vcne (field w 21 3) (field w 16 5) (field w 11 5) (field w 8 3) (field w 5 3) (field w 4 1) (field w 3 1))
  | 2 => some (.vclt (field w 21 3) (field w 16 5) (field w 11 5) (field w 8 3) (field w 5 3) (field w 4 1) (field w 3 1))
  | 3 => some (.vcle (field w 21 3) (field w 16 5) (field w 11 5) (field w 8 3) (field w 5 3) (field w 4 1) (field w 3 1))
  | 4 => some (.vcun (field w 21 3) (field w 16 5) (field w 11 5) (field w 8 3) (field w 5 3) (field w 4 1) (field w 3 1))
  | _ => none

/-- Major 0x15, VMASK. -/
def major15 (w : Nat) : Option Instr :=
  match field w 0 3 with
  | 0 => some (.vmand (field w 21 3) (field w 16 3) (field w 11 3) (field w 8 3))
  | 1 => some (.vmor (field w 21 3) (field w 16 3) (field w 11 3) (field w 8 3))
  | 2 => some (.vmxor (field w 21 3) (field w 16 3) (field w 11 3) (field w 8 3))
  | 3 => some (.vmandn (field w 21 3) (field w 16 3) (field w 11 3) (field w 8 3))
  | 4 => some (.vmnot (field w 21 3) (field w 16 3) (field w 8 3))
  | 5 => some (.vmpopc (field w 21 3) (field w 16 3) (field w 8 3))
  | 6 => some (.vmfirst (field w 21 3) (field w 16 3) (field w 8 3))
  | _ => none

/-- Major 0x16, VCVT. -/
def major16 (w : Nat) : Option Instr :=
  match field w 0 3 with
  | 0 => some (.vcvt (field w 21 5) (field w 16 5) (field w 11 5) (field w 8 3) (field w 5 3) (field w 4 1))
  | 1 => some (.vcvtSat (field w 21 5) (field w 16 5) (field w 11 5) (field w 8 3) (field w 5 3) (field w 4 1))
  | 2 => some (.vunpk (field w 21 5) (field w 16 5) (field w 11 5) (field w 8 3) (field w 5 3) (field w 4 1))
  | 3 => some (.vpack (field w 21 5) (field w 16 5) (field w 11 5) (field w 8 3) (field w 5 3) (field w 4 1))
  | _ => none

/-- Major 0x17, VRED. -/
def major17 (w : Nat) : Option Instr :=
  match field w 0 3 with
  | 0 => some (.vrsum (field w 21 5) (field w 16 5) (field w 11 2) (field w 8 3) (field w 5 3) (field w 4 1))
  | 1 => some (.vrmin (field w 21 5) (field w 16 5) (field w 11 2) (field w 8 3) (field w 4 1))
  | 2 => some (.vrmax (field w 21 5) (field w 16 5) (field w 11 2) (field w 8 3) (field w 4 1))
  | 3 => some (.vrand (field w 21 5) (field w 16 5) (field w 11 2) (field w 8 3) (field w 4 1))
  | 4 => some (.vror (field w 21 5) (field w 16 5) (field w 11 2) (field w 8 3) (field w 4 1))
  | 5 => some (.vrxor (field w 21 5) (field w 16 5) (field w 11 2) (field w 8 3) (field w 4 1))
  | _ => none

/-- Major 0x18, VINTX. -/
def major18 (w : Nat) : Option Instr :=
  match field w 0 3 with
  | 0 => some (.vaddx (field w 21 5) (field w 16 5) (field w 11 5) (field w 8 3) (field w 4 1) (field w 3 1))
  | 1 => some (.vsubx (field w 21 5) (field w 16 5) (field w 11 5) (field w 8 3) (field w 4 1) (field w 3 1))
  | 2 => some (.vmulx (field w 21 5) (field w 16 5) (field w 11 5) (field w 8 3) (field w 4 1) (field w 3 1))
  | 3 => some (.vminx (field w 21 5) (field w 16 5) (field w 11 5) (field w 8 3) (field w 4 1) (field w 3 1))
  | 4 => some (.vmaxx (field w 21 5) (field w 16 5) (field w 11 5) (field w 8 3) (field w 4 1) (field w 3 1))
  | 5 => some (.vsllx (field w 21 5) (field w 16 5) (field w 11 5) (field w 8 3) (field w 4 1) (field w 3 1))
  | 6 => some (.vsrlx (field w 21 5) (field w 16 5) (field w 11 5) (field w 8 3) (field w 4 1) (field w 3 1))
  | 7 => some (.vsrax (field w 21 5) (field w 16 5) (field w 11 5) (field w 8 3) (field w 4 1) (field w 3 1))
  | _ => none

/-- Major 0x19, VFX. -/
def major19 (w : Nat) : Option Instr :=
  match field w 0 3 with
  | 0 => some (.vfaddx (field w 21 5) (field w 16 5) (field w 11 5) (field w 8 3) (field w 5 3) (field w 4 1))
  | 1 => some (.vfsubx (field w 21 5) (field w 16 5) (field w 11 5) (field w 8 3) (field w 5 3) (field w 4 1))
  | 2 => some (.vfmulx (field w 21 5) (field w 16 5) (field w 11 5) (field w 8 3) (field w 5 3) (field w 4 1))
  | 3 => some (.vfdivx (field w 21 5) (field w 16 5) (field w 11 5) (field w 8 3) (field w 5 3) (field w 4 1))
  | 4 => some (.vfmaxPropagating (field w 21 5) (field w 16 5) (field w 11 5) (field w 8 3) (field w 4 1))
  | 5 => some (.vfminx (field w 21 5) (field w 16 5) (field w 11 5) (field w 8 3) (field w 4 1))
  | 6 => some (.vfmaxx (field w 21 5) (field w 16 5) (field w 11 5) (field w 8 3) (field w 4 1))
  | 7 => some (.vfrsubx (field w 21 5) (field w 16 5) (field w 11 5) (field w 8 3) (field w 5 3) (field w 4 1))
  | _ => none

/-- Major 0x1A, VCMPX. -/
def major1A (w : Nat) : Option Instr :=
  match field w 0 3 with
  | 0 => some (.vceqx (field w 21 3) (field w 16 5) (field w 11 5) (field w 8 3) (field w 4 1) (field w 3 1))
  | 1 => some (.vcnex (field w 21 3) (field w 16 5) (field w 11 5) (field w 8 3) (field w 4 1) (field w 3 1))
  | 2 => some (.vcltx (field w 21 3) (field w 16 5) (field w 11 5) (field w 8 3) (field w 4 1) (field w 3 1))
  | 3 => some (.vclex (field w 21 3) (field w 16 5) (field w 11 5) (field w 8 3) (field w 4 1) (field w 3 1))
  | 4 => some (.vcgtx (field w 21 3) (field w 16 5) (field w 11 5) (field w 8 3) (field w 4 1) (field w 3 1))
  | 5 => some (.vcgex (field w 21 3) (field w 16 5) (field w 11 5) (field w 8 3) (field w 4 1) (field w 3 1))
  | _ => none

/-- Major 0x1B, VMOVX. -/
def major1B (w : Nat) : Option Instr :=
  match field w 0 3 with
  | 0 => some (.vmovx (field w 21 5) (field w 11 5) (field w 8 3) (field w 3 1))
  | 1 => some (.vextx (field w 21 5) (field w 16 5) (field w 11 5) (field w 8 3) (field w 4 1))
  | 2 => some (.vcoordX (field w 21 5) (field w 11 5) (field w 8 3) (field w 3 1))
  | 3 => some (.vcoordY (field w 21 5) (field w 11 5) (field w 8 3) (field w 3 1))
  | 4 => some (.vcoordZ (field w 21 5) (field w 11 5) (field w 8 3) (field w 3 1))
  | _ => none

/-- Major 0x1C, VPERM. -/
def major1C (w : Nat) : Option Instr :=
  match field w 0 3 with
  | 0 => some (.vtrxy (field w 21 5) (field w 16 5) (field w 8 3) (field w 4 1))
  | 1 => some (.vslide (field w 21 5) (field w 16 5) (field w 11 5) (field w 8 3) (field w 5 3) (field w 4 1))
  | 2 => some (.vrot (field w 21 5) (field w 16 5) (field w 11 5) (field w 8 3) (field w 5 3) (field w 4 1))
  | 3 => some (.vgidx (field w 21 5) (field w 16 5) (field w 11 5) (field w 8 3) (field w 4 1) (field w 3 1))
  | _ => none

/-- Major 0x1D, VCFG. -/
def major1D (w : Nat) : Option Instr :=
  match field w 8 3 with
  | 0 => match field w 3 5 with
    | 0 => match field w 0 3 with
      | 0 => some (.bshape (field w 21 5) (field w 16 5))
      | 1 => some (.vtype (field w 21 5) (field w 16 5))
      | 3 => some (.vlset (field w 21 5) (field w 16 5))
      | 4 => some (.lap (field w 16 5) (field w 11 5))
      | _ => none
    | 2 => some (.setofs (field w 21 5) (field w 16 5) (field w 0 3))
    | _ => none
  | 1 => some (.adj (field w 21 5) (field w 16 5) (field w 3 5) (field w 0 3))
  | _ => none

/-- Major 0x1E, SSET. -/
def major1E (w : Nat) : Option Instr :=
  match field w 4 7 with
  | 0 => some (.sset (field w 16 5) (field w 0 4))
  | 1 => some (.sget (field w 16 5) (field w 0 4))
  | 2 => some (.sbase (field w 21 5) (field w 16 5) (field w 0 4))
  | _ => none

/-- Major 0x1F, VLD. -/
def major1F (w : Nat) : Option Instr :=
  match field w 11 3 with
  | 0 => some (.vld (field w 21 5) (field w 17 4) (field w 14 3) (field w 1 1))
  | 1 => some (.vldAdv (field w 21 5) (field w 17 4) (field w 14 3) (field w 1 1))
  | _ => none

/-- Major 0x20, VST. -/
def major20 (w : Nat) : Option Instr :=
  match field w 11 3 with
  | 0 => some (.vst (field w 21 5) (field w 17 4) (field w 14 3) (field w 1 1))
  | 1 => some (.vstAdv (field w 21 5) (field w 17 4) (field w 14 3) (field w 1 1))
  | _ => none

/-- Major 0x21, VGATH and VSCAT. -/
def major21 (w : Nat) : Option Instr :=
  match field w 2 4 with
  | 0 => some (.vgath (field w 21 5) (field w 17 4) (field w 14 3) (field w 11 1) (field w 6 5) (field w 1 1))
  | 1 => some (.vscat (field w 21 5) (field w 17 4) (field w 14 3) (field w 11 1) (field w 6 5) (field w 1 1))
  | _ => none

/-- Major 0x22, SPLD and SPST. -/
def major22 (w : Nat) : Option Instr :=
  match field w 2 4 with
  | 0 => some (.spld (field w 21 5) (field w 14 3) (field w 6 5) (field w 1 1))
  | 1 => some (.spst (field w 21 5) (field w 14 3) (field w 6 5) (field w 1 1))
  | _ => none

/-- Major 0x23, ATOM. -/
def major23 (w : Nat) : Option Instr :=
  match field w 7 4 with
  | 0 => some (.atomAld (field w 21 5) (field w 16 5) (field w 11 5) (field w 5 2) (field w 4 1) (field w 3 1) (field w 2 1) (field w 0 2))
  | 1 => some (.atomAadd (field w 21 5) (field w 16 5) (field w 11 5) (field w 5 2) (field w 4 1) (field w 3 1) (field w 2 1) (field w 0 2))
  | 2 => some (.atomAmin (field w 21 5) (field w 16 5) (field w 11 5) (field w 5 2) (field w 4 1) (field w 3 1) (field w 2 1) (field w 0 2))
  | 3 => some (.atomAmax (field w 21 5) (field w 16 5) (field w 11 5) (field w 5 2) (field w 4 1) (field w 3 1) (field w 2 1) (field w 0 2))
  | 4 => some (.atomAminZ (field w 21 5) (field w 16 5) (field w 11 5) (field w 5 2) (field w 4 1) (field w 3 1) (field w 2 1) (field w 0 2))
  | 5 => some (.atomAmaxZ (field w 21 5) (field w 16 5) (field w 11 5) (field w 5 2) (field w 4 1) (field w 3 1) (field w 2 1) (field w 0 2))
  | 6 => some (.atomAand (field w 21 5) (field w 16 5) (field w 11 5) (field w 5 2) (field w 4 1) (field w 3 1) (field w 2 1) (field w 0 2))
  | 7 => some (.atomAor (field w 21 5) (field w 16 5) (field w 11 5) (field w 5 2) (field w 4 1) (field w 3 1) (field w 2 1) (field w 0 2))
  | 8 => some (.atomAxor (field w 21 5) (field w 16 5) (field w 11 5) (field w 5 2) (field w 4 1) (field w 3 1) (field w 2 1) (field w 0 2))
  | 9 => some (.atomSwap (field w 21 5) (field w 16 5) (field w 11 5) (field w 5 2) (field w 4 1) (field w 3 1) (field w 2 1) (field w 0 2))
  | 10 => some (.atomCas (field w 21 5) (field w 16 5) (field w 11 5) (field w 5 2) (field w 4 1) (field w 3 1) (field w 2 1) (field w 0 2))
  | 11 => some (.atomFadd (field w 21 5) (field w 16 5) (field w 11 5) (field w 5 2) (field w 4 1) (field w 3 1) (field w 2 1) (field w 0 2))
  | 12 => some (.atomAst (field w 21 5) (field w 16 5) (field w 11 5) (field w 5 2) (field w 4 1) (field w 3 1) (field w 2 1) (field w 0 2))
  | _ => none

/-- Major 0x24, ORDER. -/
def major24 (w : Nat) : Option Instr :=
  match field w 2 9 with
  | 0 => some (.phase (field w 0 2))
  | 4 => some (.bar (field w 16 5) (field w 11 5) (field w 0 2))
  | 8 => some (.fenceAlias)
  | _ => none

/-- Major 0x25, PARCEL. -/
def major25 (w : Nat) : Option Instr :=
  match field w 0 11 with
  | 0 => some (.palloc (field w 21 5) (field w 16 5))
  | 1 => some (.pst (field w 16 5) (field w 11 5))
  | 2 => some (.pld (field w 21 5) (field w 16 5))
  | 3 => some (.post (field w 21 5) (field w 16 5) (field w 11 5))
  | 4 => some (.accept (field w 21 5))
  | 5 => some (.pfree (field w 16 5))
  | _ => none

/-- Major 0x26, MCFG. -/
def major26 (w : Nat) : Option Instr :=
  match field w 11 3 with
  | 0 => some (.mset (field w 21 5) (field w 14 5))
  | 1 => some (.mfmt (field w 6 5) (field w 4 2))
  | 2 => some (.mclaim (field w 21 5))
  | 3 => some (.mrel)
  | _ => none

/-- Major 0x27, MTILE. -/
def major27 (w : Nat) : Option Instr :=
  match field w 13 1 with
  | 0 => some (.wld (field w 14 5) (field w 8 5) (field w 7 1) (field w 2 5) (field w 1 1))
  | 1 => some (.wswap)
  | _ => none

/-- Major 0x28, MROW. -/
def major28 (w : Nat) : Option Instr :=
  match field w 12 2 with
  | 0 => some (.mrow (field w 21 5) (field w 19 2) (field w 14 5) (field w 11 1) (field w 9 2))
  | 1 => some (.azero (field w 19 2))
  | 2 => some (.ald (field w 19 2) (field w 14 5) (field w 7 5))
  | 3 => some (.ast (field w 19 2) (field w 14 5) (field w 7 5) (field w 3 4) (field w 2 1))
  | _ => none

/-- Major 0x29, COPY. -/
def major29 (w : Nat) : Option Instr :=
  match field w 2 9 with
  | 0 => some (.cpset (field w 16 5) (field w 0 2))
  | 1 => some (.cplaunch (field w 21 5) (field w 0 2))
  | 2 => some (.cpwait (field w 21 5) (field w 16 5) (field w 0 2))
  | 3 => some (.cpstat (field w 21 5) (field w 16 5) (field w 0 2))
  | _ => none

/-- Major 0x2A, ROUTE. -/
def major2A (w : Nat) : Option Instr :=
  match field w 0 11 with
  | 0 => some (.rtset (field w 16 5))
  | 1 => some (.rtgo (field w 21 5))
  | 2 => some (.rtcomb (field w 21 5))
  | 3 => some (.rtwait (field w 21 5))
  | 4 => some (.rtdrop (field w 21 5) (field w 16 5))
  | _ => none

/-- Major 0x2B, TASK. -/
def major2B (w : Nat) : Option Instr :=
  match field w 0 11 with
  | 0 => some (.taskadd (field w 21 5) (field w 16 5))
  | 1 => some (.taskget (field w 21 5) (field w 16 5))
  | 2 => some (.taskdone (field w 21 5) (field w 16 5) (field w 11 5))
  | 3 => some (.graphgo (field w 21 5) (field w 16 5))
  | _ => none

/-- Major 0x2C, QUEUE. -/
def major2C (w : Nat) : Option Instr :=
  match field w 0 11 with
  | 0 => some (.qpost (field w 21 5) (field w 16 5) (field w 11 5))
  | 1 => some (.qtake (field w 21 5) (field w 16 5) (field w 11 5))
  | _ => none

/-- Major 0x2D, NLINK. -/
def major2D (w : Nat) : Option Instr :=
  match field w 2 9 with
  | 0 => some (.nlsend (field w 21 5) (field w 16 5) (field w 11 5) (field w 0 2))
  | 1 => some (.nlrecv (field w 21 5) (field w 16 5) (field w 11 5) (field w 0 2))
  | _ => none

/-- Major 0x2E, EVENT. -/
def major2E (w : Nat) : Option Instr :=
  match field w 0 11 with
  | 0 => some (.wait (field w 21 5) (field w 16 5))
  | 1 => some (.notify (field w 21 5) (field w 16 5))
  | 2 => some (.nret)
  | 3 => some (.setdl (field w 21 5) (field w 16 5) (field w 11 5))
  | _ => none

/-- Major 0x2F, SYS. -/
def major2F (w : Nat) : Option Instr :=
  match field w 0 11 with
  | 0 => some (.ecall)
  | 1 => some (.ebreak)
  | 2 => some (.trapret)
  | 3 => some (.tlbinv (field w 16 5) (field w 11 5))
  | 4 => some (.halt)
  | 5 => some (.yield (field w 16 5))
  | 6 => some (.perf (field w 21 5) (field w 16 5))
  | 7 => some (.lanemap (field w 21 5) (field w 16 5) (field w 11 5))
  | _ => none

/-- The form that the major and function field of a word select (R123 to R129). -/
def candidate (w : Nat) : Option Instr :=
  match field w 26 6 with
  | 1 => major01 w
  | 2 => some (.addi (field w 21 5) (field w 16 5) (field w 0 16))
  | 3 => some (.andi (field w 21 5) (field w 16 5) (field w 0 16))
  | 4 => some (.ori (field w 21 5) (field w 16 5) (field w 0 16))
  | 5 => some (.xori (field w 21 5) (field w 16 5) (field w 0 16))
  | 6 => major06 w
  | 7 => some (.lui (field w 21 5) (field w 0 21))
  | 8 => some (.addpc (field w 21 5) (field w 0 21))
  | 9 => some (.slti (field w 21 5) (field w 16 5) (field w 0 16))
  | 10 => major0A w
  | 11 => major0B w
  | 12 => major0C w
  | 13 => some (.jal (field w 21 5) (field w 0 21))
  | 14 => some (.jalr (field w 21 5) (field w 16 5) (field w 0 16))
  | 15 => major0F w
  | 16 => major10 w
  | 17 => major11 w
  | 18 => major12 w
  | 19 => major13 w
  | 20 => major14 w
  | 21 => major15 w
  | 22 => major16 w
  | 23 => major17 w
  | 24 => major18 w
  | 25 => major19 w
  | 26 => major1A w
  | 27 => major1B w
  | 28 => major1C w
  | 29 => major1D w
  | 30 => major1E w
  | 31 => major1F w
  | 32 => major20 w
  | 33 => major21 w
  | 34 => major22 w
  | 35 => major23 w
  | 36 => major24 w
  | 37 => major25 w
  | 38 => major26 w
  | 39 => major27 w
  | 40 => major28 w
  | 41 => major29 w
  | 42 => major2A w
  | 43 => major2B w
  | 44 => major2C w
  | 45 => major2D w
  | 46 => major2E w
  | 47 => major2F w
  | _ => none

/-- The instruction of a word that is no OFS word, or why it is none (R132). -/
def decodeWord (w : Nat) : Except DecodeError Instr :=
  match candidate w with
  | none => .error .noForm
  | some i => if wellFormed i && encode i == w then .ok i else .error .badField

/-- Whether a word is an OFS word, the only form of two words (R117). -/
def isOfs (w : Nat) : Bool := field w 26 6 == 63

/-- The instruction at the start of two words, and its size in bytes (R117, R132). -/
def decodePair (w w2 : Nat) : Except DecodeError (Instr × Nat) :=
  if isOfs w then
    if pairLegal (field w 10 4) (field w 6 4) (field w 2 4) w2 then
      match decodeWord w2 with
      | .ok _ => .ok (.ofs (field w 22 4) (field w 18 4) (field w 14 4) (field w 10 4) (field w 6 4) (field w 2 4)
          (field w 0 2) w2, 8)
      | .error _ => .error .badPair
    else .error .badPair
  else (decodeWord w).map (fun i => (i, 4))

/-- A little-endian word of four bytes (R2). -/
def leWord : List Byte → Nat
  | a :: b :: c :: d :: _ => a.toNat + b.toNat * 256 + c.toNat * 65536 + d.toNat * 16777216
  | _ => 0

/-- Decoding is total on any bytes: the instruction at their start and its size, or why there is none. -/
def decode (bs : List Byte) : Except DecodeError (Instr × Nat) :=
  decodePair (leWord bs) (leWord (bs.drop 4))

/-- The words of an instruction: one, or two for an OFS pair (R117). -/
def encodeWords : Instr → List Nat
  | .ofs a b c d e f g w2 => [encode (.ofs a b c d e f g w2), w2]
  | i => [encode i]

/-- Four little-endian bytes of a word (R2). -/
def wordBytes (w : Nat) : List Byte :=
  [BitVec.ofNat 8 w, BitVec.ofNat 8 (w / 256), BitVec.ofNat 8 (w / 65536), BitVec.ofNat 8 (w / 16777216)]

/-- The bytes of an instruction as memory holds them. -/
def encodeBytes (i : Instr) : List Byte := (encodeWords i).flatMap wordBytes

/-- The instruction the decoder reads from bits `w`; bits above `nbits` are zero, and a second word is zero. -/
def decodeTableWord (nbits w : Nat) : Option Instr :=
  match decode (wordBytes (w % 2 ^ nbits) ++ wordBytes (w % 2 ^ nbits / 4294967296)) with
  | .ok (i, _) => some i
  | .error _ => none

end Sys2Proof
end

