-- ==== Sys2Proof/Machine/State.lean ====
section
/-!
DEFINITION. The state of one module as plain data: the hart that runs now and its core and die in fields of their own, the harts,
cores and dies elsewhere in lists, the module's memory, registers and engines. The machine right after module reset.
-/

namespace Sys2Proof.Machine

/-- A store of bytes by address in one canonical form: addresses strictly rising, no entry equal to 0, which is what an unlisted
address reads as (log 1). Generic memory is one, keyed by the 56-bit fabric physical address (R48). Brick registers are one, keyed by
8,192·n + 256·lane + byte (R9); scratchpad by 16,384·lane + offset (R46); accumulators by 16,384·n + 256·row + 4·column (R210). -/
abbrev Memory := List Host.Cell

/-- A table by index; an index not listed holds the table's reset value. -/
abbrev Table (α : Type) := List (Nat × α)

/-- An offset triple (R19, R20). -/
structure Triple where
  dx : Int
  dy : Int
  dz : Int
deriving DecidableEq, Repr

/-- What an instruction captures at issue and uses to its end (R81, R135, R153, R184, R321). -/
structure Captured where
  /-- BSHAPE -/
  bshape : Word
  /-- VTYPE -/
  vtype : Word
  /-- the RSEED it draws from -/
  rseed : Word
  /-- FPCTL, for the dynamic rounding mode and FTZ -/
  fpctl : Word
  /-- the offsets of vs1 and vs2 -/
  off1 : Triple
  off2 : Triple
  /-- the boundary override -/
  ovr : Nat
  /-- the governing mask -/
  mask : BitVec 8192
  /-- the adjacency table of the hart -/
  adj : Vector Word 192
  /-- the adjacency tables of the other harts of the core that its reads can use, by hart index -/
  nadj : List (Nat × Vector Word 192)
  /-- the stream registers of the hart -/
  streams : Vector (BitVec 512) 16
  /-- the scalar operands read at issue -/
  sc1 : Word
  sc2 : Word
  /-- whether it issued in a notification handler, whose bank its scalar result then goes to (R258) -/
  nh : Bool
deriving DecidableEq, Repr

/-- A recorded or resumed in-flight instruction (R39, R303, R321). -/
structure Entry where
  /-- PC of the instruction, of its frame word inside a LAP -/
  pc : Word
  /-- its word, and its second word for a pair -/
  w1 : Nat
  w2 : Nat
  pair : Bool
  cap : Captured
  /-- committed element groups of each lane group, or rows -/
  cnt : List Nat
  /-- completion bitmap by lane of the hart -/
  bmap : Nat
  /-- gather-start index -/
  gs : Nat
  /-- LAP position: replay and frame index -/
  lap : Option (Nat × Nat)
deriving DecidableEq, Repr

/-- The repeat frame that runs (R178 to R181). -/
structure Lap where
  /-- the frame words, each with the second word of a pair -/
  frame : List (Nat × Option Nat)
  /-- address of the first frame word -/
  base : Word
  count : Nat
  sd : Int
  s1 : Int
  s2 : Int
  /-- the next instance: replay and frame index -/
  k : Nat
  idx : Nat
deriving DecidableEq, Repr

/-- One bank of trap registers (R302 to R308). -/
structure TrapBank where
  cause : Word := 0
  elem : Word := 0
  addr : Word := 0
  rpc : Word := 0
  word : Word := 0
  inf : Word := 0
  sec : Word := 0
  bmap : Word := 0
  /-- the in-flight entries recorded, oldest first -/
  ents : List Entry := []
  /-- the LAP continuation moved here (R308) -/
  lap : Option Lap := none
deriving DecidableEq, Repr

/-- State of a copy channel (R230). -/
inductive ChanState where
  | idle | running | faulted
deriving DecidableEq, Repr

/-- A launched copy: its id and the descriptor it took (R233). -/
structure Copy where
  id : Nat
  desc : BitVec 1536
  /-- the view and the instruction it was launched by, and its first element -/
  priv : Bool
  pc : Word
  start : Nat
  /-- the deadline in force at the launch (R346) -/
  deadline : Word
deriving DecidableEq, Repr

/-- A copy channel (R230 to R238). -/
structure Channel where
  shadow : BitVec 1536 := 0
  next : Nat := 1
  w : Nat := 1
  st : ChanState := .idle
  /-- the fault of a FAULTED channel -/
  cause : Nat := 0
  sub : Nat := 0
  addr : Nat := 0
  acc : Nat := 0
  po : Bool := false
  reported : Bool := false
  /-- refusal status of the latest cplaunch: 0, 1 ACCEPTED, 2 OVERLAP -/
  refusal : Nat := 0
  /-- copies launched and not completed, oldest first -/
  queue : List Copy := []
  /-- ids with their status code of R238, latest first -/
  stats : List (Nat × Nat) := []
deriving DecidableEq, Repr

/-- State of a routing operation (R240, R241, R276). -/
inductive RouteState where
  | running | done | faulted
deriving DecidableEq, Repr

/-- A routing operation launched by the hart (R240 to R242). -/
structure RouteOp where
  num : Nat
  combine : Bool
  desc : BitVec 1024
  /-- the view and the instruction it was launched by -/
  priv : Bool
  pc : Word
  /-- the deadline in force at the launch (R346) -/
  deadline : Word := 0
  st : RouteState := .running
  cause : Nat := 0
  sub : Nat := 0
  acc : Nat := 0
  elem : Nat := 0
  addr : Nat := 0
  po : Bool := false
  reported : Bool := false
  /-- drop records written -/
  drops : Nat := 0
  /-- a remote write entered the error queue -/
  rerr : Bool := false
  /-- float flags of a combine, for the rtwait that joins it -/
  flags : Word := 0
deriving DecidableEq, Repr

/-- A fault of the oldest in-flight instruction, detected and not yet taken (R37): what its trap reports, and how many instructions
have issued behind it (log 3). The entry of the instruction, and those of the younger ones, are the in-flight entries of the hart. -/
structure Held where
  cause : Nat
  sub : Nat
  acc : Nat
  elem : Nat
  addr : Word
  po : Bool
  w1 : Nat
  w2 : Nat
  pair : Bool
  lg : Nat
  sec : Nat
  bmap : Nat
  behind : Nat
  /-- BSHAPE or VTYPE has changed since (R154) -/
  reshaped : Bool := false
deriving DecidableEq, Repr

/-- The notification slot (R258). -/
structure NotifySlot where
  armed : Bool := false
  kind : Nat := 0
  chan : Nat := 0
  value : Word := 0
  addr : Word := 0
  handler : Word := 0
deriving DecidableEq, Repr

/-- A byte the hart wrote, by location (R49): unpublished, or published in the open phase (R53, R54). -/
structure OwnByte where
  val : Byte
  /-- physical address of its home -/
  pa : Nat
  /-- published -/
  pub : Bool
  /-- already at its home by eviction -/
  home : Bool
deriving DecidableEq, Repr

/-- A byte that an engine of the hart has written, before the hart joins the engine (R67): the engine (channel 0 to 3, or 4 for
routing), the id, the location (R49), where the byte is. -/
structure EngineByte where
  eng : Nat
  id : Nat
  loc : Nat
  pa : Nat
deriving DecidableEq, Repr

/-- A scalar atomic that a hart has sent to its home in a packet and whose reply it awaits (R197, R346): the request id, the stamp that the
reply carries, and the form: operation, width, register, .acq bit, address. -/
structure Awaiting where
  id : Nat
  stamp : Nat
  op : Nat
  n : Nat
  d : Nat
  acq : Nat
  va : Nat
  pa : Nat
deriving DecidableEq, Repr

/-- An element of a vector atomic that a hart has sent to its home as a request of its own (R197, R357): the request id, the element, the physical
address, and what its home has answered, the old value or a cause and sub-cause. -/
structure ElemRequest where
  id : Nat
  elem : Nat
  pa : Nat
  old : Option Nat := none
  fail : Option (Nat × Nat) := none
deriving DecidableEq, Repr

/-- A barrier arrival that stands (R200, R201). -/
structure Arrival where
  scope : Nat
  inst : Nat
  id : Nat
  /-- the barrier instance has completed -/
  done : Bool
deriving DecidableEq, Repr

/-- Whether a hart is bound and fetches (R264, R340). -/
inductive Run where
  /-- no thread is bound -/
  | idle
  | running
  /-- stopped by halt until the management core restarts it -/
  | halted
  /-- being saved (R340, state 3); the flag says that halt had stopped it -/
  | saving (halted : Bool)
deriving DecidableEq, Repr

/-- A hart with the context bound to it (R9, R319, R320). -/
structure Hart where
  run : Run
  -- where it runs (R8, R10)
  cx : Nat
  cy : Nat
  psize : Nat
  lanes : Nat
  lbase : Nat
  idx : Nat
  -- the scalar side
  pc : Word
  x : Vector Word 32
  shadow : Vector Word 8
  -- bricks, masks, streams, offsets, adjacency
  bricks : Memory
  btag : Vector (Nat × Bool) 32
  stagDirty : BitVec 16
  stagValid : BitVec 16
  masks : Vector (BitVec 8192) 8
  streams : Vector (BitVec 512) 16
  offs : Vector (BitVec 12) 8
  adj : Vector Word 192
  bshape : Word
  vtype : Word
  scratch : Memory
  -- float control and counters
  fpctl : Word
  rseed : Word
  cycle : Word
  instret : Word
  perf : Vector Word 8
  -- traps and privilege
  priv : Bool
  depth : Nat
  nh : Bool
  /-- the frame a notification interrupted, with the PC after it -/
  nlap : Option (Lap × Word)
  tvec : Word
  tscr0 : Word
  tscr1 : Word
  ptroot : Word
  ctxid : BitVec 32
  bank0 : TrapBank
  bank1 : TrapBank
  bank2 : TrapBank
  swap : Bool
  /-- in-flight entries, oldest first: those that TRAPRET resumes, and those behind a held fault -/
  inflight : List Entry
  held : Option Held
  lap : Option Lap
  /-- the instruction now executing: its word, the second word of a pair, its address (the model's own latch, for TWORD and R361) -/
  ir1 : Nat
  ir2 : Nat
  irPair : Bool
  irPc : Word
  -- engines of the hart
  chan : Vector Channel 4
  rdesc : BitVec 1024
  rnext : Nat
  rop : Option RouteOp
  rdisp : Option RouteOp
  slotN : NotifySlot
  deadline : Word
  lateEn : Bool
  vlmax : Nat
  -- phases
  /-- by location: 2^55 · address space + virtual address (R49) -/
  own : Table OwnByte
  /-- the snapshot as far as the open phase has read it, by location (R54) -/
  snap : Table Byte
  stamp : Nat
  joins : List EngineByte
  arrival : Option Arrival
  /-- the atomic that the hart has sent, while it waits at it -/
  request : Option Awaiting
  /-- the elements of its oldest in-flight instruction that it has sent, and those whose replies have come -/
  elems : List ElemRequest
  /-- the LATE trap is due: a late packet of the context was served while it was saved (R348) -/
  lateDue : Bool
  /-- the home line, plus 1, that a publication of the hart waits at (R61) -/
  stalledPub : Option Nat
  pinned : Bool
  -- the bind record (R339)
  frame : Word
  tag : Word
  src : Nat
  /-- the frame last restored (R322) -/
  restored : Option Word
  /-- the hart waits at the form at its PC (R324) -/
  waiting : Bool
deriving DecidableEq, Repr

/-- An event record (R327), with the slot that stays as it is until the record is written (R342). -/
structure Notice where
  words : List Word
  frees : Option Nat := none
deriving DecidableEq, Repr

/-- A weight tile: element bits by 4·(64·k + j), scale bits by 4·(64·b + j), latched code and sparse flag (R210, R216). -/
structure Tile where
  wts : Memory := []
  scl : Memory := []
  code : Nat := 0
  sparse : Bool := false
deriving DecidableEq, Repr

/-- A row waiting in a neighbour-link channel (R254). -/
structure LinkRow where
  side : Nat
  idx : Nat
  bytes : List Byte
deriving DecidableEq, Repr

/-- A core: the matrix array (R210), the lane map (R267), the link channels (R254), the power cap (R343). -/
structure Core where
  /-- index of the hart that holds the array -/
  claimant : Option Nat := none
  /-- address space of the hart that last held it -/
  lastAsid : Option Nat := none
  mvl : Nat := 16
  afmt : Vector Nat 4 := .replicate 4 0
  w0 : Tile := {}
  w1 : Tile := {}
  acc : Memory := []
  lanemap : Vector (BitVec 8) 34 := #v[0, 1, 2, 3, 4, 5, 6, 7, 8, 9, 10, 11, 12, 13, 14, 15, 16, 17, 18, 19, 20, 21, 22, 23, 24, 25, 26, 27, 28, 29, 30, 31, 64, 64]
  links : List LinkRow := []
  /-- third-level traps since module reset (R309) -/
  crashes : Nat := 0
  vcap : Nat := 8192
  mcap : Nat := 2
  /-- scratchpad bytes with a lasting uncorrectable error, by 16,384·lane of the core + offset (R385) -/
  badScratch : List Nat := []
  /-- access counts not yet flushed, by 4·(physical address / 65,536) + counter (R317) -/
  hot : Table Nat := []
deriving DecidableEq, Repr

/-- A range task of a die queue (R243 to R245). -/
structure Task where
  tag : Word
  entry : Word
  arg : Word
  lo : Int
  hi : Int
  grain : Nat
  done : Word
  asid : Nat
deriving DecidableEq, Repr

/-- A graph that a die's scheduler runs (R247, R248). -/
structure Graph where
  id : Nat
  header : Nat
  ptroot : Word
  /-- the view it was launched in -/
  priv : Bool
  ctxid : BitVec 32
  deadline : Word
  /-- the node to perform next; none before the header is read -/
  node : Option Nat := none
  count : Nat := 0
  /-- address of the status word -/
  stat : Nat := 0
  /-- 0: the node is to be performed; 1: a kernel node's request waits for a free entry; 2: its thread has not ended -/
  stage : Nat := 0
  /-- the request of a kernel node, and the successor it leads to -/
  fields : List Nat := []
  next : Nat := 0
  /-- how the thread of the kernel node ended: 0 not yet, 1 with its end publication, 2 without it -/
  ended : Nat := 0
deriving DecidableEq, Repr

/-- A copy of a byte in a near cache, with the physical address it was fetched from (R49, R69). -/
structure NearCopy where
  pa : Nat
  val : Byte
deriving DecidableEq, Repr

/-- A die: the task queue, the graph scheduler, and the near cache, which is tagged by location and not coherent (R1, R49, R69). -/
structure Die where
  tasks : List Task := []
  graphs : List Graph := []
  near : Table NearCopy := []
deriving DecidableEq, Repr

/-- A gang that a doorbell posted: the records up to stream byte `upto` (R334). -/
structure Gang where
  upto : Nat
  gang : Nat
  place : Nat
  gid : Nat
deriving DecidableEq, Repr

/-- A host queue (R333 to R336). -/
structure HostQueue where
  desc : Word := 0
  pt : Word := 0
  enable : Bool := false
  stopped : Bool := false
  gangs : List Gang := []
  /-- records taken since the descriptor was written -/
  taken : Nat := 0
deriving DecidableEq, Repr

/-- A filled entry of the request area (R337). -/
structure Request where
  /-- the 16 decoded fields -/
  fields : List Nat
  pt : Word
  src : Nat
  gang : Nat
  place : Nat
  gid : Nat
  deadline : Word
deriving DecidableEq, Repr

/-- A bind record of a slot table (R339). -/
structure Slot where
  arg : Word := 0
  entry : Word := 0
  dl : Word := 0
  ptroot : Word := 0
  tag : Word := 0
  frame : Word := 0
  ctxid : BitVec 32 := 0
  src : Nat := 0
  late : Bool := false
  vlmax : Nat := 0
  result : Nat := 0
  /-- 0 free, 1 covered, 2 running, 3 saving -/
  st : Nat := 0
  psize : Nat := 0
deriving DecidableEq, Repr

/-- An arrival-queue register (R393). -/
structure ArrivalQueue where
  en : Bool := false
  asid : Nat := 0
deriving DecidableEq, Repr

/-- A parcel that stands ARRIVED in a queue, or that a receiver holds unconfirmed (R284, R285). -/
structure Arrived where
  handle : Nat
  queue : Nat
  /-- its memory in the parcel pool -/
  phys : Nat
  /-- size in 64 KiB units -/
  size : Nat
deriving DecidableEq, Repr

/-- A parcel in transit at its sender (R205, R284). -/
structure Transit where
  handle : Nat
  /-- window index -/
  win : Nat
  queue : Nat
  dest : Nat
  chan : Nat
  id : Nat
  /-- context that posted it -/
  ctxid : BitVec 32
deriving DecidableEq, Repr

/-- A barrier instance that is open (R200). -/
structure Barrier where
  scope : Nat
  inst : Nat
  id : Nat
  count : Nat
  /-- contexts that have arrived -/
  arrived : List (BitVec 32)
deriving DecidableEq, Repr

/-- A cached translation (R186, R263, R314, R315). -/
structure Cached where
  core : Nat
  asid : Nat
  glob : Bool
  /-- block of 512 MiB, else page of 64 KiB -/
  blk : Bool
  /-- virtual page or block number -/
  vpn : Nat
  /-- physical address of the page or block -/
  pa : Nat
  r : Bool
  w : Bool
  x : Bool
  u : Bool
  /-- D is set in the entry -/
  d : Bool
  /-- held by the pacer for a stream of a hart -/
  pacer : Option (Nat × Nat)
deriving DecidableEq, Repr

/-- An older version of a home line of 128 bytes (R60, R61, R328). -/
structure Shadow where
  line : Nat
  /-- stamp of the publication it precedes -/
  stamp : Nat
  /-- stamp of the publication that left it at the home -/
  born : Nat
  /-- which of its bytes are valid -/
  mask : BitVec 128
  bytes : List Byte
deriving DecidableEq, Repr

/-- What a queued packet asks of its home (R346 to R348, R357). -/
inductive PacketKind where
  | read (n : Nat)
  | write (bytes : List Byte)
  /-- an atomic by its number in R196, its width in bytes, its value and its compare value -/
  | atomic (op width value compare : Nat)
  /-- a posted parcel of the given size in 64 KiB units, for an arrival queue, with every byte that is not 0 (R282) -/
  | parcel (handle queue size asid : Nat) (image : Memory)
deriving DecidableEq, Repr

/-- A request packet that waits to be served (R346, R347, R374). -/
structure Packet where
  /-- source module, source port and sequence: 2^27·module + 2^20·port + sequence (R374) -/
  id : Nat
  /-- the queue that holds it: home slices 0 to 383, switch outputs 384 + port, die egress ports 512 + die, and from 1,024 on module
  place - 1,024 of the fabric -/
  place : Nat
  /-- the fabric port it leaves by, and the modules that its path still passes, its home the last (R355) -/
  port : Nat
  hops : List Nat
  kind : PacketKind
  addr : Nat
  /-- deadline stamp, TIME >> 8; of a packet that the fabric hands over, the slack (R346) -/
  stamp : Nat
  /-- virtual address and PC of the instruction that sent it, for a report of its failure (R361) -/
  va : Nat
  pc : Word
  /-- context that sent it and whether the stamp is its deadline -/
  ctxid : BitVec 32
  fromDeadline : Bool
  /-- its failure has been reported: a reply or a failure that comes later is discarded (R359) -/
  told : Bool := false
deriving DecidableEq, Repr

/-- A combining slot of a switch output (R357, R358). -/
structure Combine where
  slot : Nat
  addr : Nat
  width : Nat
  /-- the parts in arrival order -/
  parts : List Packet
  stamp : Nat
  /-- the id of the combined request, once it has been sent -/
  sent : Option Nat
deriving DecidableEq, Repr

/-- What became of a request of another module: the sub-cause of its failure, or 0 and the value that its reply carries; of a refused one, the
address where its source is to issue it again (R373, R374); the slack that stands for the request's stamp (R346). -/
structure Answer where
  sub : Nat := 0
  old : Nat := 0
  again : Option Nat := none
  slack : Int
deriving DecidableEq, Repr

/-- A reply that a home keeps for a request id, with the address it acted on (R374). -/
structure Reply where
  addr : Nat
  old : Nat
deriving DecidableEq, Repr

/-- A move slot (R372, R373): its fields, and the frames of the move that runs or forwards. -/
structure Move where
  old : Nat := 0
  new : Nat := 0
  status : Nat := 0
  /-- local address [43:16] of the frame that moves, and its new home (R373) -/
  source : Nat := 0
  target : Nat := 0
deriving DecidableEq, Repr

/-- A flit in a replay buffer: its sequence number and how often it has been sent (R364). -/
structure Flit where
  seq : Nat
  sent : Nat
deriving DecidableEq, Repr

/-- A fabric port (R362 to R371). -/
structure Port where
  /-- 0 DOWN, 1 LOCK, 2 TRAIN, 3 UP, 4 STOPPED -/
  state : Nat := 0
  peer : Nat := 0
  locked : BitVec 18 := 0
  trained : BitVec 18 := 0
  /-- wavelengths of the transmit fibres, and of the receive fibres, that are dark at their receiver -/
  dark : BitVec 18 := 0
  rxDark : BitVec 18 := 0
  sub : Nat := 0
  lmap : Word := 0x7654321076543210
  /-- the lane map in force, and that of the receive direction -/
  lanes : Word := 0x7654321076543210
  rxLanes : Word := 0x7654321076543210
  /-- the LMAP of the other end, and whether UP has been written and waits for it (R371) -/
  peerMap : Word := 0x7654321076543210
  upAsked : Bool := false
  txctr : Nat := 0
  /-- sequence number of the next new flit -/
  seq : Nat := 0
  keyIdx : Nat := 0
  txKey : Nat := 0
  rxKey : Nat := 0
  /-- key index the receiver takes flits under -/
  rxIdx : Nat := 0
  txPend : Option Nat := none
  rxPend : Option Nat := none
  /-- next sequence number expected, and the latest acknowledged -/
  expect : Nat := 0
  acked : Nat := 0
  replay : List Flit := []
  /-- the wavelengths being retrained, each with its lane and its failed attempts -/
  retrain : List (Nat × Nat × Nat) := []
deriving DecidableEq, Repr

/-- A laser-source module (R354, R368): which of its four lines are at power, and which have fallen below their threshold. -/
structure Laser where
  en : Bool := false
  power : BitVec 4 := 0
  lost : BitVec 4 := 0
deriving DecidableEq, Repr

/-- Tables of another module, as its management core placed them (R315 to R318). -/
structure Peer where
  fatb : Word := 0
  hotb : Word := 0
  winb : Word := 0
deriving DecidableEq, Repr

/-- A home line whose requests are served only after a time, as the outside world has it (R346 to R351, R359; log 83). -/
structure Delay where
  line : Nat
  /-- nanoseconds from issue to service, and from issue to acceptance (R351, R359) -/
  wait : Nat
  accept : Nat
  /-- whether an atomic waits in a queue for its service -/
  queued : Bool
  /-- whether a write that is given up acts at its home all the same (R359) -/
  acts : Bool
deriving DecidableEq, Repr

/-- A firmware image in the carrier's flash (R390): its SHA-256, and the SHA-256 of the public key it is signed under. The version in its
header comes with BOOT (log 100). -/
structure Image where
  digest : BitVec 256 := 0
  keyDigest : BitVec 256 := 0
deriving DecidableEq, Repr

/-- An error that the error-correcting code of an array finds (R383, R384). -/
inductive Defect where
  /-- gone on the re-read -/
  | transient
  /-- found again, and corrected -/
  | corrected
  | uncorrectable
deriving DecidableEq, Repr

/-- What comes from outside the module and has no row in the opcode table. -/
inductive Input where
  /-- a request that the fabric hands over, its stamp a slack (R346) -/
  | request (p : Packet)
  /-- a fabric request of this module loses its path before a reply (R374) -/
  | pathLost (id : Nat)
  /-- how long requests to home lines take from now on (log 83) -/
  | delays (ds : List Delay)
  /-- the tables that another module's management core has placed (R315 to R318) -/
  | tables (m : Nat) (p : Peer)
  /-- whether a module is there (R381) -/
  | lost (m : Nat) (gone : Bool)
  /-- the other end of a port holds a lane map (R371) -/
  | laneMap (port : Nat) (m : Word)
  /-- another module has moved a page from a frame of the fabric to a frame of this one, with its bytes, the times of its moves and its cached
  replies (R373, R374) -/
  | pageIn (old frame : Nat) (bytes : Memory) (times : List Word) (replies : Table Reply)
  /-- another module has released the frame of the fabric that a page was moved from (R373) -/
  | frameReleased (frame : Nat)
  /-- an error found in an HBM4E location (R384) -/
  | memoryError (addr : Nat) (d : Defect)
  /-- an error found in an array of a core, 1 home slice, 2 near cache, 3 brick file, 4 scratchpad, 5 matrix, in a logical lane at an
  offset (R384, R387) -/
  | arrayError (core array lane offset : Nat) (d : Defect)
  /-- readings of the power stage, the cold plate and a temperature sensor (R378) -/
  | powerReading (watts millivolts : Nat)
  | coolantReading (flow inlet : Nat)
  | sensor (t reading : Nat)
  /-- an image written to the carrier's flash (R390) -/
  | flash (i : Image)
  /-- the host or the management core reads a dword of the register window (R332) -/
  | readRegister (off : Nat)
deriving DecidableEq, Repr

/-- Whether the module has power, and whether its clocks run (R380, R388). -/
inductive Power where
  | off | frozen | up
deriving DecidableEq, Repr

/-- Whose step comes next (the model's own schedule, log 6). -/
inductive Turn where
  /-- the hart of the slot number 512·die + s -/
  | hart (h : Nat)
  /-- a row without a word: an act of the outside world or of an engine -/
  | event (i : Instr)
  /-- what comes from outside without a row -/
  | input (x : Input)
  /-- the first event that waits in the agenda -/
  | engine
deriving DecidableEq, Repr

/-- The module's registers outside the tables (R332, R342, R367, R378, R382, R389 to R392). -/
structure Regs where
  modid : Nat := 0
  evb : Word := 0
  evsz : Nat := 8
  evhead : Word := 0
  evtail : Word := 0
  fatb : Word := 0
  hotb : Word := 0
  winb : Word := 0
  ppool : Word := 0
  ppoolsz : Word := 0
  errb : Word := 0
  rthr : Word := 4096
  fpincnt : Word := 0
  plim : Nat := 9600
  pwr : Nat := 0
  vin : Nat := 0
  cool : Nat := 0
  throt : BitVec 24 := 0
  trans : Word := 0
  last : Word := 0
  lret : Nat := 0
  pret : Nat := 0
  temps : Vector Nat 42 := .replicate 42 0
  /-- mailbox nonce and the latest attestation report -/
  report : List Byte := []
  fwVersion : Nat := 0
  rollback : Nat := 0
  fwDigest : BitVec 256 := 0
  /-- the image in flash, and the fused digest of the public key (R390) -/
  flash : Image := {}
  fusedKey : BitVec 256 := 0
  /-- the boot ROM has refused the image (R390) -/
  bootFailed : Bool := false
  /-- the dword that the host or the management core last read (R332) -/
  readData : Word := 0
  serial : BitVec 48 := 0
  /-- retirement log: (0, core, physical lane) or (1, frame, 0) packed by the firmware -/
  rlog : List (BitVec 64) := []
  /-- the log as applied at boot -/
  rlogBoot : List (BitVec 64) := []
  booted : Bool := true
  tapIr : Nat := 255
  tapDr : List (BitVec 64) := []
deriving DecidableEq, Repr

/-- One module of the fabric. -/
structure State where
  hart : Hart
  core : Core
  die : Die
  others : List Hart
  otherCores : Table Core
  otherDies : Table Die
  memory : Memory
  time : Word
  regs : Regs
  membership : BitVec 4096
  hostq : Table HostQueue
  /-- the queue from which the host queue unit looks on -/
  hqTurn : Nat
  reqs : Table Request
  nextGang : Nat
  /-- records posted to a queue, by the physical address of its descriptor, with the tail and the record then left there (R250) -/
  posts : Table (Nat × Nat × Nat)
  slots : Table Slot
  arrq : Table ArrivalQueue
  arrived : List Arrived
  incoming : List Arrived
  transit : List Transit
  pool : List (Nat × Nat)
  barriers : List Barrier
  events : List Notice
  ringDropped : List Nat
  saved : List Hart
  tlb : List Cached
  pubs : Nat
  linePubs : Table Nat
  shadows : List Shadow
  /-- lines at which a write of an engine or of another module waits for a second shadow version (R61) -/
  stalls : List Nat
  /-- entries of the spill area in use; what they hold stands in memory (R318, R328) -/
  spill : List Nat
  /-- replies kept by request id (R374) -/
  replies : Table Reply
  /-- replies that have gone to requesters of other modules, by request id (R358, R374) -/
  answers : Table Answer
  /-- sequence of the next request id (R374) -/
  nextSeq : Nat
  moves : Table Move
  moved : List (Nat × Word)
  pins : Table Word
  forwards : Table Nat
  packets : List Packet
  combines : List Combine
  ports : Table Port
  lasers : Table Laser
  peers : Table Peer
  /-- modules that are not there, whatever the membership map says (R355, R381) -/
  lost : BitVec 4096
  delays : List Delay
  badBytes : List Nat
  /-- TIME at which a location's lasting error was last counted (R384) -/
  lasting : Table Word
  /-- TIME of the latest lasting error of a physical lane, by 64·core + lane; locations of a frame with lasting correctable errors (R386) -/
  laneErrors : Table Word
  frameErrors : Table (List Nat)
  power : Power
  turns : List Turn
  agenda : List Instr
  tick : Nat
deriving DecidableEq, Repr

/-- Why the machine stops. -/
inductive Fault where
  /-- step, when the module has no input power: it answers nothing until the host applies power (R380). Safe: the hardware does
  nothing either. -/
  | unpowered
  /-- step, when FREEZE has stopped every clock: the state holds until a power cycle (R388). Safe. -/
  | frozen
deriving DecidableEq, Repr

/-- Why an instruction is refused. -/
inductive Refusal where
  /-- exec, for a constructor that has no meaning yet. Safe. -/
  | notModelled (mnemonic : String)
deriving DecidableEq, Repr

/-- A hart slot to which no thread is bound, as module reset leaves it (R4; log 2 for the fields the manual gives no value). -/
def Hart.reset : Hart where
  run := .idle
  cx := 0
  cy := 0
  psize := 32
  lanes := 32
  lbase := 0
  idx := 0
  pc := 0
  x := .replicate 32 0
  shadow := .replicate 8 0
  bricks := []
  btag := .replicate 32 (0, false)
  stagDirty := 0
  stagValid := 0
  masks := .replicate 8 0
  streams := .replicate 16 0
  offs := .replicate 8 0
  adj := .replicate 192 0
  bshape := 0x100010020
  vtype := 10
  scratch := []
  fpctl := 0
  rseed := 0
  cycle := 0
  instret := 0
  perf := .replicate 8 0
  priv := false
  depth := 0
  nh := false
  nlap := none
  tvec := 0
  tscr0 := 0
  tscr1 := 0
  ptroot := 0
  ctxid := 0
  bank0 := {}
  bank1 := {}
  bank2 := {}
  swap := false
  inflight := []
  held := none
  lap := none
  ir1 := 0
  ir2 := 0
  irPair := false
  irPc := 0
  chan := .replicate 4 {}
  rdesc := 0
  rnext := 1
  rop := none
  rdisp := none
  slotN := {}
  deadline := 0
  lateEn := false
  vlmax := 8192
  own := []
  snap := []
  stamp := 0
  joins := []
  arrival := none
  request := none
  elems := []
  lateDue := false
  stalledPub := none
  pinned := false
  frame := 0
  tag := 0
  src := 0
  restored := none
  waiting := false

/-- The module right after reset (R4, R210, R342, R343, R367, R378; log 2). -/
def State.reset : State where
  hart := Hart.reset
  core := {}
  die := {}
  others := []
  otherCores := []
  otherDies := []
  memory := []
  time := 0
  regs := {}
  membership := 1
  hostq := []
  hqTurn := 0
  reqs := []
  nextGang := 1
  posts := []
  slots := []
  arrq := []
  arrived := []
  incoming := []
  transit := []
  pool := []
  barriers := []
  events := []
  ringDropped := []
  saved := []
  tlb := []
  pubs := 0
  linePubs := []
  shadows := []
  stalls := []
  spill := []
  replies := []
  answers := []
  nextSeq := 0
  moves := []
  moved := []
  pins := []
  forwards := []
  packets := []
  combines := []
  ports := []
  lasers := []
  peers := []
  lost := 0
  delays := []
  badBytes := []
  lasting := []
  laneErrors := []
  frameErrors := []
  power := .up
  turns := []
  agenda := []
  tick := 0

end Sys2Proof.Machine
end

