-- ==== Sys2Proof/Machine/Mem.lean ====
section
/-!
DEFINITION. Operations on byte stores in canonical form and on tables. A store lists the bytes that differ from 0, by rising
address; reading an address that is not listed gives 0 (log 1).
-/

namespace Sys2Proof.Machine

/-- The canonical form: addresses strictly rising, no byte equal to 0. -/
def Memory.wf : Memory → Bool
  | [] => true
  | [(_, b)] => b != 0
  | (a, b) :: (a', b') :: t => b != 0 && decide (a < a') && Memory.wf ((a', b') :: t)

/-- The byte at an address. -/
def mget : Memory → Nat → Byte
  | [], _ => 0
  | (k, b) :: t, a => if k = a then b else mget t a

/-- A store with one byte written. -/
def mput : Memory → Nat → Byte → Memory
  | [], a, b => if b = 0 then [] else [(a, b)]
  | (k, c) :: t, a, b =>
    if a < k then (if b = 0 then (k, c) :: t else (a, b) :: (k, c) :: t)
    else if a = k then (if b = 0 then t else (a, b) :: t)
    else (k, c) :: mput t a b

/-- The `n` bytes from an address up. -/
def mgets (m : Memory) (a : Nat) : Nat → List Byte
  | 0 => []
  | n + 1 => mget m a :: mgets m (a + 1) n

/-- A store with a byte string written from an address up. -/
def mputs (m : Memory) (a : Nat) : List Byte → Memory
  | [] => m
  | b :: bs => mputs (mput m a b) (a + 1) bs

/-- The little-endian value of `n` bytes, and its write. -/
def mgetN (m : Memory) (a n : Nat) : Nat := ofLe (mgets m a n)

def mputN (m : Memory) (a n v : Nat) : Memory := mputs m a (leBytes n v)

/-- A store with the bytes `a` to `a + n - 1` set to 0. -/
def mclear (m : Memory) (a n : Nat) : Memory := m.filter fun c => !(decide (a ≤ c.1) && decide (c.1 < a + n))

/-- The bytes `a` to `a + n - 1` as a store of their own, numbered from 0. -/
def mslice (m : Memory) (a n : Nat) : Memory :=
  (m.filter fun c => decide (a ≤ c.1) && decide (c.1 < a + n)).map fun c => (c.1 - a, c.2)

/-- A store with the listed bytes of another written from an address up. -/
def moverlay (m : Memory) (a : Nat) (cells : Memory) : Memory := cells.foldl (fun m c => mput m (a + c.1) c.2) m

/-- A store with bytes `a` to `a + n - 1` replaced by another store's bytes 0 to `n - 1`. -/
def mreplace (m : Memory) (a n : Nat) (cells : Memory) : Memory := moverlay (mclear m a n) a (mslice cells 0 n)

/-- The entry of a table, `d` where it lists none. -/
def tget {α : Type} (t : Table α) (i : Nat) (d : α) : α :=
  match t.find? (fun p => p.1 == i) with
  | some p => p.2
  | none => d

/-- The entry that a table lists for an index. -/
def tfind {α : Type} (t : Table α) (i : Nat) : Option α := (t.find? fun p => p.1 == i).map Prod.snd

/-- A table with one entry replaced. -/
def tset {α : Type} (t : Table α) (i : Nat) (x : α) : Table α := (i, x) :: t.filter (fun p => p.1 != i)

/-- A table without an entry. -/
def tdel {α : Type} (t : Table α) (i : Nat) : Table α := t.filter (fun p => p.1 != i)

end Sys2Proof.Machine
end

