-- ==== Sys2Proof/Machine/Num.lean ====
section
/-!
DEFINITION. Number formats and exact arithmetic (R73 to R95): decoding to exact values, rounding in every mode with flags,
conversions, and the exact sums, products and quotients the instructions round.
-/

namespace Sys2Proof.Machine

/-- An exact value: (-1)^neg · m · 2^e, an infinity, or a NaN. A loud NaN (signalling, or NaV) sets nv when it is read (R77, R78). -/
inductive Num where
  | fin (neg : Bool) (m : Nat) (e : Int)
  | inf (neg : Bool)
  | nan (loud : Bool)
deriving DecidableEq, Repr

/-- The exception flags as a number: nv 16, dz 8, of 4, uf 2, nx 1; FPCTL holds them from bit 8 up (R73). -/
def flNV : Nat := 16
def flDZ : Nat := 8
def flOF : Nat := 4
def flUF : Nat := 2
def flNX : Nat := 1

/-- Which encodings of a float format are special and how it overflows (R77, R85, R93). -/
inductive Special where
  /-- infinities and NaNs; overflow as R80 -/
  | ieee
  /-- infinities and NaNs; overflow saturates: e5m2 -/
  | saturating
  /-- one NaN magnitude, no infinity: e4m3 -/
  | oneNaN
  /-- every encoding finite -/
  | finite
deriving DecidableEq, Repr

/-- A binary float format (R76, R85): width, exponent bits, fraction bits, bias. -/
structure Fmt where
  w : Nat
  eb : Nat
  fb : Nat
  bias : Nat
  special : Special
deriving DecidableEq, Repr

def f64 : Fmt := ⟨64, 11, 52, 1023, .ieee⟩
def f32 : Fmt := ⟨32, 8, 23, 127, .ieee⟩
def f16 : Fmt := ⟨16, 5, 10, 15, .ieee⟩
def bf16 : Fmt := ⟨16, 8, 7, 127, .ieee⟩
def e4m3 : Fmt := ⟨8, 4, 3, 7, .oneNaN⟩
def e5m2 : Fmt := ⟨8, 5, 2, 15, .saturating⟩
def e2m3 : Fmt := ⟨6, 2, 3, 1, .finite⟩
def e3m2 : Fmt := ⟨6, 3, 2, 3, .finite⟩
def e2m1 : Fmt := ⟨4, 2, 1, 1, .finite⟩

/-- The largest finite magnitude as an encoding. -/
def Fmt.maxCode (f : Fmt) : Nat :=
  match f.special with
  | .ieee | .saturating => (2 ^ f.eb - 1) * 2 ^ f.fb - 1
  | .oneNaN => 2 ^ (f.eb + f.fb) - 2
  | .finite => 2 ^ (f.eb + f.fb) - 1

/-- The canonical NaN (R77, R85); +0 in a format without NaN (R93). -/
def Fmt.canonNaN (f : Fmt) : Nat :=
  match f.special with
  | .ieee | .saturating => (2 ^ f.eb - 1) * 2 ^ f.fb + 2 ^ (f.fb - 1)
  | .oneNaN => 2 ^ (f.eb + f.fb) - 1
  | .finite => 0

/-- Exponent of the last place of a subnormal. -/
def Fmt.qmin (f : Fmt) : Int := 1 - (f.bias : Int) - (f.fb : Int)

/-- The exact value of an encoding (R76, R77, R85). -/
def Fmt.decode (f : Fmt) (b : Nat) : Num :=
  let neg := b.testBit (f.w - 1)
  let E := field b f.fb f.eb
  let F := b % 2 ^ f.fb
  let value : Num := if E = 0 then .fin neg F f.qmin else .fin neg (2 ^ f.fb + F) (f.qmin + (E : Int) - 1)
  match f.special with
  | .ieee | .saturating =>
    if E = 2 ^ f.eb - 1 then (if F = 0 then .inf neg else .nan (!F.testBit (f.fb - 1))) else value
  | .oneNaN => if E = 2 ^ f.eb - 1 ∧ F = 2 ^ f.fb - 1 then .nan false else value
  | .finite => value

/-- Whether rounding delivers the larger of the two bracketing magnitudes (R74, R80, R82). The exact magnitude lies `rem/den` of
the way between them, or just above that when `sticky`; `odd` says that the smaller one has an odd encoding. Modes 0 rne, 1 rtz,
2 rup, 3 rdn, 4 rsto with the draw `u`. -/
def roundsUp (mode u : Nat) (neg : Bool) (rem den : Nat) (sticky odd : Bool) : Bool :=
  match mode with
  | 0 => decide (den < 2 * rem) || (decide (2 * rem = den) && (sticky || odd))
  | 1 => false
  | 2 => !neg
  | 3 => neg
  | _ => decide (u < rem * 2 ^ 32 / den)

/-- m · 2^e (just above it when `sticky`) rounded to a multiple of 2^q: the multiple, and whether it is inexact. -/
def roundAt (mode u : Nat) (neg : Bool) (m : Nat) (e : Int) (sticky : Bool) (q : Int) : Nat × Bool :=
  if q ≤ e then (m * 2 ^ (e - q).toNat, sticky)
  else
    let den := 2 ^ (q - e).toNat
    let k := m / den
    let rem := m % den
    let inexact := decide (rem ≠ 0) || sticky
    (if inexact && roundsUp mode u neg rem den sticky (decide (k % 2 = 1)) then k + 1 else k, inexact)

/-- Rounding into a float format (R78 to R80, R82, R93): the encoding and the flags. `sat` makes an IEEE overflow saturate (R225). -/
def Fmt.round (f : Fmt) (mode u : Nat) (ftz sat : Bool) (neg : Bool) (m : Nat) (e : Int) (sticky : Bool) : Nat × Nat :=
  let sign := if neg then 2 ^ (f.w - 1) else 0
  if m = 0 then (sign, 0)
  else
    let q := (m.log2 : Int) + e - (f.fb : Int)
    -- rounded as if the exponent range were unbounded
    let ku := roundAt mode u neg m e sticky q
    let codeU : Int := (q - f.qmin) * 2 ^ f.fb + (ku.1 : Int)
    if (f.maxCode : Int) < codeU then
      let toInf : Bool := match mode with
        | 0 => true
        | 1 => false
        | 2 => !neg
        | 3 => neg
        | _ => true
      (sign + (if f.special = .ieee ∧ sat = false ∧ toInf = true then f.maxCode + 1 else f.maxCode), flOF ||| flNX)
    else
      let q' := max q f.qmin
      let k := roundAt mode u neg m e sticky q'
      let code := ((q' - f.qmin) * 2 ^ f.fb + (k.1 : Int)).toNat
      let fl := if k.2 then (if codeU < 2 ^ f.fb then flNX ||| flUF else flNX) else 0
      if ftz && decide (f.special = .ieee) && decide (code ≠ 0) && decide (code < 2 ^ f.fb) then (sign, fl ||| flUF ||| flNX)
      else (sign + code, fl)

/-- Number of identical bits from the top of an `n`-bit field. -/
def runLength (n m : Nat) : Nat := if m.testBit (n - 1) then leadingZeros n (2 ^ n - 1 - m % 2 ^ n) else leadingZeros n m

/-- The magnitude of a tapered encoding of width `N` with `M` exponent bits: mantissa and exponent (R86). -/
def tapMag (N M m : Nat) : Nat × Int :=
  let n := N - 1
  let k := runLength n m
  let r : Int := if m.testBit (n - 1) then (k : Int) - 1 else -(k : Int)
  let left := n - k - 1
  let rest := m % 2 ^ left
  let nf := left - M
  let ex := if M ≤ left then rest / 2 ^ nf else rest * 2 ^ (M - left)
  (2 ^ nf + (if M ≤ left then rest % 2 ^ nf else 0), r * 2 ^ M + (ex : Int) - (nf : Int))

/-- The exact value of a tapered encoding (R86). -/
def tapDecode (N M b : Nat) : Num :=
  let m := b % 2 ^ (N - 1)
  let s := b.testBit (N - 1)
  if m = 0 then (if s then .nan true else .fin false 0 0)
  else .fin s (tapMag N M m).1 (tapMag N M m).2

/-- Two magnitudes brought to one exponent. -/
def align (m₁ : Nat) (e₁ : Int) (m₂ : Nat) (e₂ : Int) : Nat × Nat × Int :=
  let e := min e₁ e₂
  (m₁ * 2 ^ (e₁ - e).toNat, m₂ * 2 ^ (e₂ - e).toNat, e)

def magLe (m₁ : Nat) (e₁ : Int) (m₂ : Nat) (e₂ : Int) : Bool :=
  let a := align m₁ e₁ m₂ e₂
  decide (a.1 ≤ a.2.1)

/-- The magnitude of a tapered code, 0 for code 0. -/
def tapValue (N M c : Nat) : Nat × Int := if c = 0 then (0, 0) else tapMag N M c

/-- The largest code, bits `n - 1` down, whose magnitude does not exceed m · 2^e. -/
def tapBelow (N M m : Nat) (e : Int) : Nat → Nat → Nat
  | 0, c => c
  | n + 1, c =>
    let c' := c + 2 ^ n
    if magLe (tapValue N M c').1 (tapValue N M c').2 m e then tapBelow N M m e n c' else tapBelow N M m e n c

/-- Rounding into a tapered format, in the value domain (R89). -/
def tapRound (N M mode u : Nat) (neg : Bool) (m : Nat) (e : Int) : Nat × Nat :=
  let signed (c : Nat) := if c = 0 then 0 else if neg then 2 ^ (N - 1) + c else c
  if m = 0 then (0, 0)
  else
    let top := 2 ^ (N - 1) - 1
    let c := tapBelow N M m e (N - 1) 0
    let a := tapValue N M c
    if magLe m e a.1 a.2 then (signed c, 0)
    else if c = top then (signed top, flOF ||| flNX)
    else
      let b := tapValue N M (c + 1)
      -- the three magnitudes at one exponent
      let q := min (min a.2 b.2) e
      let an := a.1 * 2 ^ (a.2 - q).toNat
      let bn := b.1 * 2 ^ (b.2 - q).toNat
      let xn := m * 2 ^ (e - q).toNat
      let up := roundsUp mode u neg (xn - an) (bn - an) false (decide (c % 2 = 1))
      (signed (if up then c + 1 else c), if c = 0 then flUF ||| flNX else flNX)

/-- A format of one element: an integer, a float, a tapered format, or code 31 (R83, R85, R86, R88). -/
inductive Elem where
  | int (w : Nat) (sg : Bool)
  | flt (f : Fmt)
  | tap (N M : Nat)
  | tapAlt
deriving DecidableEq, Repr

def Elem.width : Elem → Nat
  | .int w _ => w
  | .flt f => f.w
  | .tap N _ => N
  | .tapAlt => 6

/-- An integer as an exact value, and a finite value negated. -/
def numOfInt (v : Int) : Num := .fin (decide (v < 0)) v.natAbs 0

def Num.neg : Num → Num
  | .fin s m e => .fin (!s) m e
  | .inf s => .inf (!s)
  | .nan l => .nan l

/-- The integer m · 2^e of a finite value whose exponent is at least `e`, scaled by 2^-e. -/
def scaled (s : Bool) (m : Nat) (x e : Int) : Int := if s then -((m * 2 ^ (x - e).toNat : Nat) : Int) else ((m * 2 ^ (x - e).toNat : Nat) : Int)

/-- The exact sum (R78, R80): the value and the flags; `rdn` is the mode in which an exact zero of operands with opposite
signs is -0. -/
def addNum (rdn : Bool) : Num → Num → Num × Nat
  | .nan l, .nan l' => (.nan false, if l || l' then flNV else 0)
  | .nan l, _ => (.nan false, if l then flNV else 0)
  | _, .nan l => (.nan false, if l then flNV else 0)
  | .inf s, .inf s' => if s = s' then (.inf s, 0) else (.nan false, flNV)
  | .inf s, _ => (.inf s, 0)
  | _, .inf s => (.inf s, 0)
  | .fin s m e, .fin s' m' e' =>
    let q := min e e'
    let v := scaled s m e q + scaled s' m' e' q
    if v = 0 then (.fin (if s = s' then s else rdn) 0 0, 0)
    else (.fin (decide (v < 0)) v.natAbs q, 0)

/-- The exact product (R78). -/
def mulNum : Num → Num → Num × Nat
  | .nan l, .nan l' => (.nan false, if l || l' then flNV else 0)
  | .nan l, _ => (.nan false, if l then flNV else 0)
  | _, .nan l => (.nan false, if l then flNV else 0)
  | .inf s, .inf s' => (.inf (s != s'), 0)
  | .inf s, .fin s' m _ => if m = 0 then (.nan false, flNV) else (.inf (s != s'), 0)
  | .fin s m _, .inf s' => if m = 0 then (.nan false, flNV) else (.inf (s != s'), 0)
  | .fin s m e, .fin s' m' e' => (.fin (s != s') (m * m') (e + e'), 0)

/-- The value as an encoding of a format, rounded in the mode (R80, R89, R93, R95): bits and flags. A conversion to an integer that delivers a
bound sets nv alone, as R95 says; whether it is also a conversion that saturates and sets of (R78) is left open (DESIGN CHOICE, log 93). -/
def Elem.ofNum (d : Elem) (mode u : Nat) (ftz sat : Bool) (v : Num) : Nat × Nat :=
  match d, v with
  | .int _ _, .nan _ => (0, flNV)
  | .int w sg, .inf s =>
    (if s then (if sg then 2 ^ (w - 1) else 0) else (if sg then 2 ^ (w - 1) - 1 else 2 ^ w - 1), flNV)
  | .int w sg, .fin s m e =>
    let k := roundAt mode u s m e false 0
    let x : Int := if s then -(k.1 : Int) else k.1
    let lo : Int := if sg then -2 ^ (w - 1) else 0
    let hi : Int := if sg then 2 ^ (w - 1) - 1 else 2 ^ w - 1
    if x < lo then (wrapTo w lo, flNV) else if hi < x then (wrapTo w hi, flNV)
    else (wrapTo w x, if k.2 then flNX else 0)
  | .flt f, .nan l =>
    (f.canonNaN, if f.special = .finite then flNV else if l then flNV else 0)
  | .flt f, .inf s =>
    let sign := if s then 2 ^ (f.w - 1) else 0
    if f.special = .ieee then (sign + f.maxCode + 1, 0) else (sign + f.maxCode, flOF)
  | .flt f, .fin s m e => f.round mode u ftz sat s m e false
  | .tap N _, .nan _ => (2 ^ (N - 1), flNV)
  | .tap N _, .inf s => (if s then 2 ^ N - 1 else 2 ^ (N - 1) - 1, flOF)
  | .tap N M, .fin s m e => tapRound N M mode u s m e
  | .tapAlt, .nan _ => (32, flNV)
  | .tapAlt, .inf s => (if s then 63 else 31, flOF)
  | .tapAlt, .fin s m e =>
    match (addNum false (.fin s m e) (.fin true 1 0)).1 with
    | .fin s' m' e' => tapRound 6 1 mode u s' m' e'
    | _ => (0, 0)

/-- The exact value of an encoding (R76, R83, R85, R86, R88). -/
def Elem.decode (d : Elem) (b : Nat) : Num :=
  match d with
  | .int w sg => numOfInt (if sg then signed w b else ((b % 2 ^ w : Nat) : Int))
  | .flt f => f.decode b
  | .tap N M => tapDecode N M b
  | .tapAlt =>
    match tapDecode 6 1 b with
    | .nan l => .nan l
    | v => (addNum false v (.fin false 1 0)).1

/-- A subnormal operand of an IEEE or bf16 format read as zero of its sign under FTZ (R79). -/
def flushNum (d : Elem) (ftz : Bool) (v : Num) : Num :=
  match d, v with
  | .flt f, .fin s m e =>
    if ftz && decide (f.special = .ieee) && decide (m < 2 ^ f.fb) && decide (e = f.qmin) then .fin s 0 0 else .fin s m e
  | _, v => v

/-- A conversion (R95): the encoding and the flags. `sat` clamps integer to integer, and makes an IEEE overflow saturate (R225). FTZ applies to
IEEE and bf16 operands and results of every conversion, those from and to OCP and tapered formats among them, and keeps OCP subnormals: R79
leaves open whether these are conversions between float types (DESIGN CHOICE, log 94). -/
def convert (src dst : Elem) (mode u : Nat) (ftz sat : Bool) (b : Nat) : Nat × Nat :=
  match src, dst with
  | .int w sg, .int w' sg' =>
    let v : Int := if sg then signed w b else ((b % 2 ^ w : Nat) : Int)
    let lo : Int := if sg' then -2 ^ (w' - 1) else 0
    let hi : Int := if sg' then 2 ^ (w' - 1) - 1 else 2 ^ w' - 1
    (wrapTo w' (if sat then max lo (min hi v) else v), 0)
  | _, .int _ _ => dst.ofNum mode u ftz sat (src.decode b)
  | _, _ => dst.ofNum mode u ftz sat (flushNum src ftz (src.decode b))

/-- Whether a format holds every value of another, so that a conversion performs no rounding (R74). -/
def holdsAll (src dst : Elem) : Bool :=
  src == dst ||
  match src, dst with
  | .int _ _, .int _ _ => true
  | .int w sg, .flt f => decide ((if sg then w - 1 else w) ≤ f.fb + 1) && decide (f.special = .ieee) && decide (w ≤ f.bias)
  | .flt s, .flt d =>
    decide (d.special = .ieee) && decide (s.fb ≤ d.fb) && decide (s.bias ≤ d.bias) && decide (d.qmin ≤ s.qmin)
  | .tap N M, .flt f =>
    decide (f.special = .ieee) && decide ((N - 2) * 2 ^ M ≤ f.bias) && decide (N - 3 - M ≤ f.fb) &&
      decide (f.qmin ≤ -(((N - 2) * 2 ^ M : Nat) : Int))
  | .tapAlt, .flt f => decide (f.special = .ieee) && decide (9 ≤ f.fb + 1)
  | _, _ => false

/-- Order of two values that are no NaN: whether a < b, and a = b (R165: -0 equals +0). -/
def numLt : Num → Num → Bool
  | .inf s, .inf s' => s && !s'
  | .inf s, .fin _ _ _ => s
  | .fin _ _ _, .inf s => !s
  | .fin s m e, .fin s' m' e' =>
    let q := min e e'
    decide (scaled s m e q < scaled s' m' e' q)
  | _, _ => false

def numEq : Num → Num → Bool
  | .inf s, .inf s' => s == s'
  | .fin s m e, .fin s' m' e' =>
    let q := min e e'
    decide (scaled s m e q = scaled s' m' e' q)
  | _, _ => false

def Num.isNaN : Num → Bool
  | .nan _ => true
  | _ => false

def Num.loud : Num → Bool
  | .nan l => l
  | _ => false

def Num.isNeg : Num → Bool
  | .fin s _ _ => s
  | .inf s => s
  | .nan _ => false

/-- The smaller (or with `mx` the larger) of two values that are no NaN, -0 less than +0 (R162). -/
def pickNum (mx : Bool) (a b : Num) : Num :=
  let aLess := numLt a b || (numEq a b && a.isNeg)
  if mx then (if aLess then b else a) else (if aLess then a else b)

/-- minimumNumber and maximumNumber, or with `prop` the NaN-propagating maximum (R162). -/
def minMaxNum (mx prop : Bool) (a b : Num) : Num × Nat :=
  let fl := if a.loud || b.loud then flNV else 0
  if a.isNaN then (if b.isNaN || prop then (.nan false, fl) else (b, fl))
  else if b.isNaN then (if prop then (.nan false, fl) else (a, fl))
  else (pickNum mx a b, fl)

/-- round(a / b) (R78, R161). -/
def divRound (f : Fmt) (mode u : Nat) (ftz : Bool) (a b : Num) : Nat × Nat :=
  let out (v : Num) (fl : Nat) := ((Elem.ofNum (.flt f) mode u ftz false v).1, fl)
  match a, b with
  | .nan l, .nan l' => out (.nan false) (if l || l' then flNV else 0)
  | .nan l, _ => out (.nan false) (if l then flNV else 0)
  | _, .nan l => out (.nan false) (if l then flNV else 0)
  | .inf _, .inf _ => out (.nan false) flNV
  | .inf s, .fin s' _ _ => out (.inf (s != s')) 0
  | .fin s _ _, .inf s' => out (.fin (s != s') 0 0) 0
  | .fin s m e, .fin s' m' e' =>
    if m' = 0 then (if m = 0 then out (.nan false) flNV else out (.inf (s != s')) flDZ)
    else if m = 0 then out (.fin (s != s') 0 0) 0
    else
      let sh := f.fb + 40 + (m'.log2 - m.log2)
      let q := m * 2 ^ sh / m'
      f.round mode u ftz false (s != s') q (e - e' - (sh : Int)) (decide (m * 2 ^ sh % m' ≠ 0))

/-- The integer square root, bit `n - 1` down. -/
def isqrt (v : Nat) : Nat → Nat → Nat
  | 0, r => r
  | n + 1, r => if (r + 2 ^ n) * (r + 2 ^ n) ≤ v then isqrt v n (r + 2 ^ n) else isqrt v n r

/-- round(√a) (R161). -/
def sqrtRound (f : Fmt) (mode u : Nat) (ftz : Bool) (a : Num) : Nat × Nat :=
  match a with
  | .nan l => (f.canonNaN, if l then flNV else 0)
  | .inf s => if s then (f.canonNaN, flNV) else (f.maxCode + 1, 0)
  | .fin s m e =>
    if m = 0 then (if s then 2 ^ (f.w - 1) else 0, 0)
    else if s then (f.canonNaN, flNV)
    else
      let sh := 2 * f.fb + 80 + (if (e % 2 = 0) then 0 else 1)
      let v := m * 2 ^ sh
      let r := isqrt v (v.log2 / 2 + 1) 0
      f.round mode u ftz false false r ((e - (sh : Int)) / 2) (decide (r * r ≠ v))

/-- The draw of element `e` (R81). -/
def drawU (seed : Word) (e : Nat) : Nat :=
  let z := seed + BitVec.ofNat 64 ((e + 1) * 0x9E3779B97F4A7C15)
  let z := (z ^^^ (z >>> 30)) * 0xBF58476D1CE4E5B9#64
  let z := (z ^^^ (z >>> 27)) * 0x94D049BB133111EB#64
  let z := z ^^^ (z >>> 31)
  z.toNat / 2 ^ 32

/-- Element types of R13: size in bytes, class and format. -/
def etypeSize (t : Nat) : Nat :=
  match t with
  | 0 | 4 => 1
  | 1 | 5 | 8 | 9 => 2
  | 2 | 6 | 10 => 4
  | _ => 8

def isFloatType (t : Nat) : Bool := decide (8 ≤ t)

def isSignedType (t : Nat) : Bool := decide (t < 4)

def etypeFmt (t : Nat) : Fmt :=
  match t with
  | 8 => f16
  | 9 => bf16
  | 10 => f32
  | _ => f64

def etypeElem (t : Nat) : Elem :=
  if isFloatType t then .flt (etypeFmt t) else .int (8 * etypeSize t) (isSignedType t)

/-- The element format of a matrix format code (R94). -/
def codeElem (c : Nat) : Elem :=
  match c with
  | 0 => .flt f32
  | 1 => .flt f16
  | 2 => .flt bf16
  | 3 | 16 => .flt e4m3
  | 4 | 17 => .flt e5m2
  | 5 | 18 | 25 => .flt e2m3
  | 6 | 19 | 26 => .flt e3m2
  | 7 | 20 | 24 => .flt e2m1
  | 8 | 21 | 29 => .int 8 true
  | 9 => .int 8 false
  | 10 | 30 => .int 4 true
  | 11 => .int 4 false
  | 12 => .tap 8 0
  | 13 | 22 | 28 => .tap 8 1
  | 14 => .tap 8 2
  | 15 => .tap 6 0
  | 23 | 27 => .tap 6 1
  | _ => .tapAlt

/-- Block length of a code's scale: 0 unscaled, 32 E8M0, 16 e4m3, 64 f32 (R91, R94). -/
def codeBlock (c : Nat) : Nat :=
  if c < 16 then 0 else if c < 24 then 32 else if c < 29 then 16 else if c < 31 then 64 else 0

/-- Width in bits of a scale (R91). -/
def scaleBits (c : Nat) : Nat := if codeBlock c = 64 then 32 else 8

/-- The value of a scale encoding (R91); 1 for an unscaled code. -/
def scaleNum (c q : Nat) : Num :=
  match codeBlock c with
  | 32 => if q = 255 then .nan false else .fin false 1 ((q : Int) - 127)
  | 16 => e4m3.decode q
  | 64 => f32.decode q
  | _ => .fin false 1 0

end Sys2Proof.Machine
end

