-- ==== Sys2Proof/Machine/Regs.lean ====
section
/-!
DEFINITION. Which hart, core and die the state has in hand; scalar registers (R9, R258), the program counter and completion
(R117, R150, R180); derived registers (R10, R11); event records (R327, R342); local physical addresses (R48).
-/

namespace Sys2Proof.Machine

/-- The state with the hart in hand changed, and with its core, die and module registers changed. -/
def withHart (s : State) (f : Hart → Hart) : State := { s with hart := f s.hart }

def withCore (s : State) (f : Core → Core) : State := { s with core := f s.core }

def withDie (s : State) (f : Die → Die) : State := { s with die := f s.die }

def withRegs (s : State) (f : Regs → Regs) : State := { s with regs := f s.regs }

/-- Number of a core, of its die, and of a slot of the module: 512·die + 8·c + lbase/4 (R40, R339). -/
def coreNo (cx cy : Nat) : Nat := cx + 48 * cy

def dieNo (cx cy : Nat) : Nat := cx / 8 + 6 * (cy / 8)

def slotNo (cx cy lbase : Nat) : Nat := 512 * dieNo cx cy + 8 * (cx % 8 + 8 * (cy % 8)) + lbase / 4

/-- Grid place of a slot number. -/
def slotCx (n : Nat) : Nat := 8 * (n / 512 % 6) + n % 512 / 8 % 8

def slotCy (n : Nat) : Nat := 8 * (n / 512 / 6) + n % 512 / 64

def slotLbase (n : Nat) : Nat := 4 * (n % 8)

def Hart.slot (h : Hart) : Nat := slotNo h.cx h.cy h.lbase

def Hart.coreNo (h : Hart) : Nat := Machine.coreNo h.cx h.cy

def Hart.dieNo (h : Hart) : Nat := Machine.dieNo h.cx h.cy

/-- Whether a thread is bound to the hart. -/
def Hart.bound (h : Hart) : Bool := h.run != .idle

/-- Every hart, the one in hand first; those with a thread; those of the core in hand. -/
def allHarts (s : State) : List Hart := s.hart :: s.others

def boundHarts (s : State) : List Hart := (allHarts s).filter Hart.bound

def coreHarts (s : State) (c : Nat) : List Hart := (boundHarts s).filter fun h => h.coreNo == c

/-- Address-space id of a PTROOT value (R311). -/
def asidOf (ptroot : Word) : Nat := bitsOf ptroot 0 16

/-- The state with core `c` and die `d` in hand in place of those of the hart in hand. -/
def bringCore (s : State) (c d : Nat) : State :=
  let c0 := s.hart.coreNo
  let d0 := s.hart.dieNo
  let s := if c = c0 then s else { s with otherCores := tset s.otherCores c0 s.core, core := tget s.otherCores c {} }
  if d = d0 then s else { s with otherDies := tset s.otherDies d0 s.die, die := tget s.otherDies d {} }

/-- The state with the hart of a slot in hand; unchanged where no hart stands there. -/
def focus (s : State) (n : Nat) : State :=
  if s.hart.slot = n then s
  else match s.others.find? (fun h => h.slot == n) with
    | none => s
    | some h =>
      let s := bringCore s h.coreNo h.dieNo
      { s with hart := h, others := s.hart :: s.others.filter (fun h => h.slot != n) }

/-- Whether a hart with a thread stands at a slot. -/
def hartAt (s : State) (n : Nat) : Option Hart := (boundHarts s).find? (fun h => h.slot == n)

/-- An act on the hart of a slot, with the hart in hand afterwards the one that was in hand; nothing where no thread is bound there. -/
def onSlot (s : State) (n : Nat) (f : State → State) : State :=
  match hartAt s n with
  | none => s
  | some _ => focus (f (focus s n)) s.hart.slot

/-- A core by number, and an act on it. -/
def coreAt (s : State) (c : Nat) : Core := if c = s.hart.coreNo then s.core else tget s.otherCores c {}

def onCore (s : State) (c : Nat) (f : Core → Core) : State :=
  if c = s.hart.coreNo then withCore s f else { s with otherCores := tset s.otherCores c (f (coreAt s c)) }

def dieAt (s : State) (d : Nat) : Die := if d = s.hart.dieNo then s.die else tget s.otherDies d {}

def onDie (s : State) (d : Nat) (f : Die → Die) : State :=
  if d = s.hart.dieNo then withDie s f else { s with otherDies := tset s.otherDies d (f (dieAt s d)) }

/-- `X[r]` (R9): X0 reads zero; while a NOTIFY handler runs, X24 to X31 are those of the shadow bank (R258). -/
def rx (s : State) (r : Nat) : Word :=
  if r = 0 then 0 else if s.hart.nh ∧ 24 ≤ r then vget s.hart.shadow (r - 24) 0 else vget s.hart.x r 0

/-- `X[r] ← v` in the bank of a handler or in the main bank (R258): a write to X0 is discarded (R9). -/
def wxIn (s : State) (handler : Bool) (r : Nat) (v : Word) : State :=
  if r = 0 then s
  else if handler ∧ 24 ≤ r then withHart s fun h => { h with shadow := vset h.shadow (r - 24) v }
  else withHart s fun h => { h with x := vset h.x r v }

/-- `X[r] ← v` in the bank that is active. -/
def wx (s : State) (r : Nat) (v : Word) : State := wxIn s s.hart.nh r v

/-- The program counter always holds a multiple of 4 (R117). -/
def alignPc (v : Word) : Word := v &&& ~~~3#64

def setPc (s : State) (v : Word) : State := withHart s fun h => { h with pc := alignPc v }

/-- The next position of a frame: the next instruction of it, then the first of the next replay; none after the last (R180). -/
def Lap.next (l : Lap) : Option Lap :=
  if l.idx + 1 < l.frame.length then some { l with idx := l.idx + 1 }
  else if l.k + 1 < l.count then some { l with idx := 0, k := l.k + 1 }
  else none

/-- The instruction of `n` bytes has issued: the program counter, or the position inside a frame, moves past it (R136, R180). -/
def advance (s : State) (n : Nat) : State :=
  withHart s fun h =>
    match h.lap with
    | some l => { h with lap := l.next }
    | none => { h with pc := h.pc + toWord n }

/-- The instruction has completed (R150). -/
def complete (s : State) : State := withHart s fun h => { h with instret := h.instret + 1, waiting := false }

/-- Issue and completion of an instruction of `n` bytes. -/
def retire (s : State) (n : Nat) : State := complete (advance s n)

/-- Completion of an instruction that names the next program counter. -/
def retireTo (s : State) (pc : Word) : State :=
  withHart s fun h => { h with instret := h.instret + 1, waiting := false, pc := alignPc pc }

/-- A form that waits stays at its program counter and is tried again (R324). Each try fetches its word anew, so a word that changes
meanwhile runs in its place: R394 leaves open which value a fetch returns (DESIGN CHOICE, log 96). -/
def stall (s : State) : State := withHart s fun h => { h with waiting := true }

/-- Element size of the current VTYPE; capacity in elements (R11, R13). -/
def Hart.etype (h : Hart) : Nat := bitsOf h.vtype 0 4

def Hart.maxvl (h : Hart) : Nat := 256 * h.lanes / etypeSize h.etype

/-! Reserved bits, which are ignored when written and read 0 (R4). -/

/-- A value without its bits from `lo` to `hi`, for each pair of a list. -/
def withoutBits {n : Nat} (v : BitVec n) (res : List (Nat × Nat)) : BitVec n :=
  res.foldl (fun v r => v &&& ~~~(BitVec.ofNat n ((2 ^ (r.1 + 1 - r.2) - 1) * 2 ^ r.2))) v

/-- The bits of BSHAPE that hold extents, of FPCTL that are writable besides rm, of an adjacency entry, of TCAUSE and of TINF that hold fields
(R12, R21, R73, R305, R306). -/
def shapeMask : Word := 0x3FFF3FFF3FFF

def flagMask : Word := 0x1F08

def adjMask : Word := 0x1FF3FFF0FFF

def causeMask : Word := 0x1C0FFFF

def infMask : Word := 0x7FFF

/-- The fields of a stream register, of a copy descriptor, of a routing descriptor (R182, R231, R268). -/
def streamFields (r : BitVec 512) : BitVec 512 := withoutBits r [(63, 55), (359, 354), (383, 364), (511, 480)]

def copyFields (r : BitVec 1536) : BitVec 1536 :=
  withoutBits r [(63, 55), (127, 119), (1027, 1026), (1031, 1030), (1087, 1033), (1151, 1143), (1535, 1216)]

def routeFields (r : BitVec 1024) : BitVec 1024 :=
  withoutBits r [(63, 55), (127, 119), (191, 183), (255, 247), (319, 311), (383, 375), (447, 439), (671, 657), (679, 676), (683, 682), (687, 686),
    (703, 690), (767, 736), (1023, 832)]

/-- A change of BSHAPE and VTYPE, noted where an older instruction holds a fault (R154). -/
def reshape (h : Hart) (b t : Word) : Hart :=
  { h with bshape := b, vtype := t, held := h.held.map fun f => { f with reshaped := f.reshaped || b != h.bshape || t != h.vtype } }

/-- Extents of a BSHAPE value (R12). -/
def shapeX (b : Word) : Nat := bitsOf b 0 14

def shapeY (b : Word) : Nat := bitsOf b 16 14

def shapeZ (b : Word) : Nat := bitsOf b 32 14

def shapeN (b : Word) : Nat := shapeX b * shapeY b * shapeZ b

/-- Own module id. -/
def ownModule (s : State) : Nat := s.regs.modid % 4096

/-- A local physical address of this module as a fabric physical address (R48). -/
def localPA (s : State) (a : Nat) : Nat := s.regs.modid % 4096 * 2 ^ 44 + a % 2 ^ 44

/-- Where the bytes of a physical address stand now: at the new home when the page has moved (R373). -/
def homeAddr (s : State) (pa : Nat) : Nat :=
  match s.forwards.find? (fun p => p.1 == pa / 65536) with
  | some p => p.2 * 65536 + pa % 65536
  | none => pa

/-! Near caches (R49, R69, R70). -/

/-- The key of a location: a virtual address in an address space (R49). -/
def locOf (asid va : Nat) : Nat := asid * 2 ^ 55 + va

/-- A change of the near cache of every die. -/
def onNear (s : State) (f : Table NearCopy → Table NearCopy) : State :=
  { s with
    die := { s.die with near := f s.die.near }
    otherDies := s.otherDies.map fun p => (p.1, { p.2 with near := f p.2.near }) }

/-- The copies of `n` bytes of a location given up in every near cache: a write through that location reaches its readers. -/
def dropNearLoc (s : State) (loc n : Nat) : State := onNear s fun t => t.filter fun c => !(decide (loc ≤ c.1) && decide (c.1 < loc + n))

/-- The copies of `n` home bytes given up under every location. -/
def dropNearPA (s : State) (pa n : Nat) : State :=
  onNear s fun t => t.filter fun c => !(decide (pa ≤ c.2.pa) && decide (c.2.pa < pa + n))

/-- Bytes that the device or the outside world writes at a home, by physical address: no near cache keeps an older copy. -/
def homeWrite (s : State) (pa : Nat) (bs : List Byte) : State :=
  dropNearPA { s with memory := mputs s.memory (homeAddr s pa) bs } (homeAddr s pa) bs.length

/-- Module and local part of a physical address. -/
def paModule (pa : Nat) : Nat := pa / 2 ^ 44 % 4096

def paLocal (pa : Nat) : Nat := pa % 2 ^ 44

/-- Home slice of a local address (R48). -/
def homeSlice (pa : Nat) : Nat := paLocal pa / 4096 % 384

/-- Whether an entry of the retirement log names a lane, and the local frame that another one names (R386). -/
def logIsLane (e : BitVec 64) : Bool := !e.getLsbD 63

def logFrame (e : BitVec 64) : Nat := bitsOf e 0 32

/-- The local frames that are retired. -/
def retiredFrames (s : State) : List Nat := (s.regs.rlog.filter fun e => !logIsLane e).map logFrame

/-- HLOC (R10, R151). -/
def hloc (s : State) : Word :=
  let h := s.hart
  toWord (s.regs.modid % 4096 * 2 ^ 44 + h.cx % 64 * 2 ^ 33 + h.cy % 32 * 2 ^ 28 + h.psize % 64 * 2 ^ 22 +
    h.lanes % 64 * 2 ^ 16 + h.lbase % 32 * 2 ^ 11 + h.idx % 8)

/-- PSTAT (R304). -/
def pstat (h : Hart) : Word := toWord (h.depth * 16 + bit h.nh * 8)

/-- A count of a performance counter (R266). -/
def addPerf (s : State) (i : Nat) (v : Word) : State :=
  withHart s fun h => { h with perf := vset h.perf i (vget h.perf i 0 + v) }

/-- Whether stamp `a` is earlier than stamp `b`: a signed difference of 32-bit values (R346). -/
def stampBefore (a b : Nat) : Bool := decide (signed 32 (a + 2 ^ 32 - b % 2 ^ 32) < 0)

/-- A TIME as a stamp (R346). -/
def stampAt (t : Word) : Nat := t.toNat / 256 % 2 ^ 32

/-- A sum held at 2^64 - 1. -/
def heldSum (a b : Word) : Word := if 2 ^ 64 ≤ a.toNat + b.toNat then -1 else a + b

/-- Whether a temperature reading makes the power stage remove power (R379): 115 °C, in 1/16 °C. -/
def trips (reading : Nat) : Bool := decide (1840 ≤ signed 16 reading)

/-- An event record about a hart (R327); it waits until the row EVENT_RECORD_WRITE writes it into the ring (R342). -/
def emitWith (s : State) (typ : Nat) (die core hart : Nat) (ctxid : BitVec 32) (asid : Nat) (p0 p1 : Word) (frees : Option Nat) : State :=
  let d0 := toWord (typ + die * 2 ^ 8 + core * 2 ^ 16 + hart * 2 ^ 32)
  let d1 := toWord (ctxid.toNat + asid * 2 ^ 32)
  { s with events := s.events ++ [⟨[d0, d1, p0, p1], frees⟩], agenda := s.agenda ++ [.eventRecordWrite] }

/-- An event record about the hart in hand. -/
def emitHart (s : State) (typ : Nat) (p0 p1 : Word) (frees : Option Nat) : State :=
  emitWith s typ s.hart.dieNo s.hart.coreNo s.hart.idx s.hart.ctxid (asidOf s.hart.ptroot) p0 p1 frees

/-- An event record about the module. -/
def emitModule (s : State) (typ : Nat) (p0 p1 : Word) : State := emitWith s typ 0 0 0 0 0 p0 p1 none

/-- An act of an engine put at the end of the agenda. -/
def schedule (s : State) (i : Instr) : State := { s with agenda := s.agenda ++ [i] }

end Sys2Proof.Machine
end

