-- ==== Sys2Proof/Machine/Retire.lean ====
section
/-!
DEFINITION. Lane maps (R43, R267), lasting errors (R384, R387), retirement of lanes and frames (R43, R44, R378, R386, R387): the retirement log,
what it takes out of use, and when.
-/

namespace Sys2Proof.Machine

def laneState (e : BitVec 8) : Nat := field e.toNat 6 2

def laneNo (e : BitVec 8) : Nat := field e.toNat 0 6

/-- The logical lane an active entry gives. -/
def activeLane (e : BitVec 8) : Option Nat := if laneState e = 0 then some (laneNo e) else none

/-- Whether a lane lies in a partition of a core that a thread is bound to. -/
def laneBound (s : State) (core : Nat) (lane : Nat) : Bool :=
  (coreHarts s core).any fun h => decide (h.lbase ≤ lane) && decide (lane < h.lbase + h.psize)

/-- The effective lane count of a partition (R43): its logical lanes that an active physical lane gives. -/
def effectiveLanes (c : Core) (lbase psize : Nat) : Nat :=
  ((List.range psize).filter fun i => c.lanemap.toList.any fun e => activeLane e == some (lbase + i)).length

/-- The logical lane of a partition's effective lane `i`: its remaining lanes in ascending order (R43). -/
def logicalLane (c : Core) (lbase psize i : Nat) : Nat :=
  (((List.range psize).map (lbase + ·)).filter fun l => c.lanemap.toList.any fun e => activeLane e == some l).getD i (lbase + i)

/-- The physical lane of a core that gives a logical lane. -/
def physicalLane (c : Core) (lane : Nat) : Option Nat := firstIndex (fun p => activeLane (vget c.lanemap p 0) == some lane) 34 0

/-- An entry of the retirement log, a physical lane of a core, or a frame (R386), as the firmware packs it. -/
def logCore (e : BitVec 64) : Nat := bitsOf e 8 16

def logLane (e : BitVec 64) : Nat := bitsOf e 0 8

def laneEntry (core p : Nat) : BitVec 64 := toWord (256 * core + p)

def frameEntry (f : Nat) : BitVec 64 := toWord (2 ^ 63 + f)

/-- A physical lane mapped out (R43, R386): its logical lane moves to a spare lane of the core, or is retired. -/
def mapOut (p : Nat) (m : Vector (BitVec 8) 34) : Vector (BitVec 8) 34 :=
  let e := vget m p 0
  if laneState e ≠ 0 then vset m p (0x80#8)
  else
    match firstIndex (fun q => q != p && laneState (vget m q 0) == 1) 34 0 with
    | some q => vset (vset m q e) p (0x80#8)
    | none => vset m p (0x80#8)

/-- The retirement log applied to the cores (R386). -/
def applyLog (s : State) (log : List (BitVec 64)) : State :=
  (log.filter logIsLane).foldl (fun s e => onCore s (logCore e) fun c => { c with lanemap := mapOut (logLane e) c.lanemap }) s

/-- Logical lanes that no active lane of a core gives. -/
def lanesLost (c : Core) : Nat := 32 - effectiveLanes c 0 32

/-- Lanes retired on the module (R378, R386). -/
def lanesRetired (s : State) (log : List (BitVec 64)) : Nat :=
  ((((log.filter logIsLane).map logCore).dedup).map fun c => lanesLost (coreAt s c)).foldl (· + ·) 0

/-- Whether an entry of the log has taken effect, and whether it may (R44, R386): no thread is bound to the partition that holds the lane. -/
def laneOut (s : State) (e : BitVec 64) : Bool := laneState (vget (coreAt s (logCore e)).lanemap (logLane e) 0) == 2

def laneFree (s : State) (e : BitVec 64) : Bool :=
  match activeLane (vget (coreAt s (logCore e)).lanemap (logLane e) 0) with
  | some l => !laneBound s (logCore e) l
  | none => true

/-- A lane of the log taken out of use: LRET and the event that says so (R386, R387). -/
def retireLane (s : State) (e : BitVec 64) : State :=
  let s := onCore s (logCore e) fun c => { c with lanemap := mapOut (logLane e) c.lanemap }
  emitModule (withRegs s fun r => { r with lret := lanesRetired s r.rlog }) 15 (toWord (logCore e)) (toWord (logLane e + 2 ^ 8))

/-- The lanes of the log that have waited for their partition to be free. -/
def settleLanes (s : State) : State :=
  (s.regs.rlog.filter logIsLane).foldl (fun s e => if !laneOut s e && laneFree s e then retireLane s e else s) s

/-- An entry for the log, which holds at most 256 (R386); nothing where it is listed. -/
def logged (s : State) (e : BitVec 64) : Option State :=
  if s.regs.rlog.contains e || decide (256 ≤ s.regs.rlog.length) then none else some (withRegs s fun r => { r with rlog := r.rlog ++ [e] })

/-- A lane added to the log: the event without effect, and the effect when its partition is free (R386, R387). -/
def logLaneError (s : State) (core p : Nat) : State :=
  match logged s (laneEntry core p) with
  | none => s
  | some s => settleLanes (emitModule s 15 (toWord core) (toWord p))

/-- A frame added to the log: out of the parcel pool, PRET, the event (R386, R387). -/
def retireFrame (s : State) (f : Nat) : State :=
  match logged s (frameEntry f) with
  | none => s
  | some s =>
    let s := withRegs s fun r => { r with pret := r.pret + 1 }
    emitModule s 16 (toWord (65536 * f)) (toWord s.regs.pret)

/-! Lasting errors (R384, R387). -/

/-- Whether a lasting error of a location counts: it does at most once in any 1 ms (R384). -/
def countsLasting (s : State) (key : Nat) : Bool := !(s.lasting.any fun p => p.1 == key && decide ((s.time - p.2).toNat < 1000000))

/-- A lasting error of a location counted and reported. -/
def countLasting (s : State) (key : Nat) (p0 p1 : Word) : State :=
  if countsLasting s key then
    emitModule (withRegs { s with lasting := tset s.lasting key s.time } fun r => { r with last := r.last + 1 }) 14 p0 p1
  else s

/-- What a type-14 event names (R387): the core, or the physical address of a home slice or near cache. -/
def arrayPlace (core array offset : Nat) : Word := if array ≤ 2 then toWord offset else toWord core

/-- The location of an array, for the window of R384, that of a core's lane by its physical lane; apart from every memory address. -/
def arrayKey (core array lane offset : Nat) : Nat := 2 ^ 56 * (1 + 8 * core + array) + 2 ^ 48 * lane + offset % 2 ^ 48

/-- 24 hours in nanoseconds (R386). -/
def day : Nat := 86400000000000

/-- A lasting error of a physical lane's SRAM (R386): a second one within 24 hours puts the lane into the log. -/
def laneError (s : State) (core p : Nat) : State :=
  let k := 64 * core + p
  let again := s.laneErrors.any fun e => e.1 == k && decide ((s.time - e.2).toNat < day)
  let s := { s with laneErrors := tset s.laneErrors k s.time }
  if again then logLaneError s core p else s

/-- A lasting error of an array of a core, in a physical lane where it is a brick file or a scratchpad (R384, R386, R387): one that counts is
reported, and is one of the lane's. -/
def arrayLasting (s : State) (core array lane offset : Nat) (bad : Bool) : State :=
  let key := arrayKey core array lane offset
  if countsLasting s key then
    let s := countLasting s key (arrayPlace core array offset) (toWord (array + bit bad * 2 ^ 8))
    if array = 3 ∨ array = 4 then laneError s core lane else s
  else s

end Sys2Proof.Machine
end

