-- ==== Sys2Proof/Machine/Fabric.lean ====
section
/-!
DEFINITION. The fabric: ports and their lanes (R352, R353, R363, R368), the paths between modules (R355), flits sent (R362, R364 to R366),
how long requests take (R346, R351, R359).
-/

namespace Sys2Proof.Machine

/-! Ports. -/

def portOf (s : State) (p : Nat) : Port := tget s.ports p {}

def onPort (s : State) (p : Nat) (f : Port → Port) : State := { s with ports := tset s.ports p (f (portOf s p)) }

/-- Lane `w` of a lane map: its wavelength on fibre w / 8, or 15 (R368). -/
def laneCode (m : Word) (w : Nat) : Nat := bitsOf m (4 * w) 4

def setLane (m : Word) (w code : Nat) : Word := toWord (setField m.toNat (4 * w) 4 code)

/-- Whether wavelength 9·f + λ of a port can carry a lane: locked, trained, not dark (R369, R371). -/
def Port.lit (p : Port) (wl : Nat) : Bool := p.locked.getLsbD wl && p.trained.getLsbD wl && !p.dark.getLsbD wl

/-- The wavelength 9·f + λ that a lane map gives a lane; none for a dropped lane. -/
def laneWave (m : Word) (w : Nat) : Option Nat := if laneCode m w ≤ 8 then some (9 * (w / 8) + laneCode m w) else none

/-- Whether a lane is active: carried by a wavelength that can carry it. -/
def laneActive (p : Port) (w : Nat) : Bool := (laneWave p.lanes w).any p.lit

/-- Number of active lanes (R363, R368). -/
def activeLanes (p : Port) : Nat := ((List.range 16).filter (laneActive p)).length

/-- A link event (R367): kinds 1 laser lost, 2 restriped, 3 retrain begun, 4 done, 5 failed, 6 stopped, 7 relaned. -/
def linkEvent (s : State) (port kind laser : Nat) : State := emitModule s 9 (toWord (port + kind * 2 ^ 8 + laser * 2 ^ 16)) (portOf s port).lmap

/-- A port stops (R366): the state and the event; what waits at its output fails when it is served next. -/
def haltPort (s : State) (p sub : Nat) : State :=
  schedule (linkEvent (onPort s p fun x => { x with state := 4, sub := sub }) p 6 0) (.packetService (384 + p))

/-- Whether a port is UP. -/
def portUp (s : State) (p : Nat) : Bool := (portOf s p).state == 3

/-! Paths (R352, R353, R355). -/

/-- Coordinate `d` of a module id, and the id with that coordinate replaced (R352). -/
def coordOf (m d : Nat) : Nat := m / 8 ^ d % 8

def withCoordOf (m d v : Nat) : Nat := setField m (3 * d) 3 v

/-- The neighbour that a fabric port of a module joins, ports 0 to 111 (R352). -/
def portNeighbour (m p : Nat) : Nat := withCoordOf m (p / 28) ((coordOf m (p / 28) + 1 + p % 28 / 4) % 8)

/-- The first hop of the minimal path between two modules: the lowest dimension in which they differ (R355). -/
def nextHop (src dst : Nat) : Nat :=
  match firstIndex (fun d => coordOf src d != coordOf dst d) 4 0 with
  | some d => withCoordOf src d (coordOf dst d)
  | none => dst

/-- The modules of the minimal path after its source, at most `n` hops. -/
def minimalPath (src dst : Nat) : Nat → List Nat
  | 0 => []
  | n + 1 => if src = dst then [] else nextHop src dst :: minimalPath (nextHop src dst) dst n

/-- Bytes of data that a request carries. -/
def PacketKind.data : PacketKind → Nat
  | .read _ => 0
  | .write bs => bs.length
  | .atomic _ w _ _ => w
  | .parcel _ _ size _ _ => 65536 * size

/-- Flits of one packet with `data` bytes, at most 512, behind a header of 16 bytes; those of as many packets as `data` bytes take (R362). -/
def packetFlits (data : Nat) : Nat := ceilDiv (16 + data) 112

def flitsOf (data : Nat) : Nat :=
  data / 512 * packetFlits 512 + if data % 512 = 0 ∧ data ≠ 0 then 0 else packetFlits (data % 512)

/-- Flits that wait for their first transmission at a port (R355). -/
def waitingFlits (s : State) (p : Nat) : Nat :=
  ((s.packets.filter fun x => x.place == 384 + p).map fun x => flitsOf x.kind.data).foldl (· + ·) 0

/-- The least-loaded of some ports, the lowest of equals. -/
def leastLoaded (s : State) (ps : List Nat) : Option Nat :=
  ps.foldl (fun best p =>
    match best with
    | some b => if waitingFlits s p < waitingFlits s b then some p else some b
    | none => some p) none

/-- The ports that join a neighbour and are UP, and the free ports that are bound to a module and UP (R352, R353). -/
def portsTo (s : State) (m : Nat) : List Nat := (List.range 112).filter fun p => portNeighbour (ownModule s) p == m && portUp s p

def freePorts (s : State) (m : Nat) : List Nat := ((List.range 16).map (112 + ·)).filter fun p => (portOf s p).peer == m && portUp s p

/-- The intermediate module of a non-minimal path: drawn among the modules of the membership map (R355; FREE VALUE, log 84). -/
def intermediate (s : State) (dst : Nat) : Option Nat :=
  let ms := (List.range 4096).filter fun m => s.membership.getLsbD m && m != ownModule s && m != dst
  ms[Config.viaModule s.tick dst % ms.length]?

/-- A path: the port it leaves by and the modules it passes, its end the last. -/
structure Path where
  port : Nat
  hops : List Nat
deriving DecidableEq, Repr

/-- A path by the least-loaded port of its first hop that is UP; none where no such port is UP. -/
def pathBy (s : State) (hops : List Nat) : Option Path :=
  match hops with
  | [] => none
  | m :: _ => (leastLoaded s (portsTo s m)).map fun p => ⟨p, hops⟩

/-- The load of a path for a packet of `f` flits: (q + f)·h (R355). -/
def Path.load (s : State) (f : Nat) (p : Path) : Nat := (waitingFlits s p.port + f) * p.hops.length

/-- The path of a packet of `f` flits to another module (R353, R355): a free port that is bound to it; else the minimal path when its load is no
greater than that of the non-minimal one. That a free port goes first is a DESIGN CHOICE (log 78), and so is that a path whose first hop has no
port UP gives way to the other one, and that a request fails with sub-cause 3 when neither has one (log 102). -/
def pathTo (s : State) (dst f : Nat) : Option Path :=
  match leastLoaded s (freePorts s dst) with
  | some p => some ⟨p, [dst]⟩
  | none =>
    let a := pathBy s (minimalPath (ownModule s) dst 4)
    let b := (intermediate s dst).bind fun i => pathBy s (minimalPath (ownModule s) i 4 ++ minimalPath i dst 4)
    match a, b with
    | some x, some y => if x.load s f ≤ y.load s f then some x else some y
    | some x, none => some x
    | none, y => y

/-- The sender's counter after `n` more flits; none where its next value would be 2^96 - 1 and no pending key is installed (R366). -/
def countFlits (p : Port) (n : Nat) : Option Port :=
  if 2 ^ 96 - 1 ≤ p.txctr + n ∧ p.txPend.isNone then none else some { p with txctr := p.txctr + n }

/-- Whether the fabric reaches a module with a request of `f` flits: none, or the sub-cause of the failure: absent from the membership map, no
port UP for a first hop, a module of the path that is not there, a spent counter (R301, R312, R355, R359, R366, R381). -/
def unreachableFor (s : State) (pa f : Nat) : Option Nat :=
  let m := paModule pa
  if m = ownModule s then none
  else if !s.membership.getLsbD m then some 4
  else
    match pathTo s m f with
    | none => some 3
    | some p =>
      if p.hops.any fun x => s.lost.getLsbD x then some 1
      else if (countFlits (portOf s p.port) f).isNone then some 3
      else none


/-! Flits (R362 to R366). -/

/-- `n` new flits sent by a port: those of the last packet stand in the replay buffer, those of the packets before it have been acknowledged
(R364). -/
def bufferFlits (p : Port) (n : Nat) : Port :=
  let k := min n (packetFlits 512)
  { p with seq := (p.seq + n) % 4096, replay := p.replay ++ (List.range k).map fun i => ⟨(p.seq + (n - k) + i) % 4096, 1⟩ }

/-- Whether a port takes `n` new flits: it is UP and its replay buffer of 2,048 flits has room for a packet of them (R364). -/
def portTakes (s : State) (p n : Nat) : Bool := portUp s p && decide ((portOf s p).replay.length + min n (packetFlits 512) ≤ 2048)

/-- New flits sent by a port, kept until they are acknowledged (R364, R365); a spent counter stops the port (R366). -/
def sendFlits (s : State) (p n : Nat) : State :=
  match countFlits (portOf s p) n with
  | none => haltPort s p 3
  | some x => onPort s p fun _ => bufferFlits x n

/-- Whether a request with `data` bytes waits at this module: its port has no room in its replay buffer (R364). -/
def portFull (s : State) (pa data : Nat) : Bool :=
  paModule pa != ownModule s &&
    match pathTo s (paModule pa) (flitsOf data) with
    | some p => !portTakes s p.port (flitsOf data)
    | none => false

/-- The flits of a packet that leaves at once, with `data` bytes: sent and acknowledged within the step (R365; log 65). -/
def sent (s : State) (pa data : Nat) : State :=
  if paModule pa = ownModule s then s
  else
    match pathTo s (paModule pa) (flitsOf data) with
    | none => s
    | some p =>
      match countFlits (portOf s p.port) (flitsOf data) with
      | none => haltPort s p.port 3
      | some x => onPort s p.port fun _ => { x with seq := (x.seq + flitsOf data) % 4096 }

/-! Service times (R346 to R351, R359; log 83). -/

/-- The delay that a request to an address meets, and the delivery promise for it (R1, R346). -/
def delayOf (s : State) (pa : Nat) : Option Delay := s.delays.find? fun d => d.line == pa / 128

def promise (s : State) (pa : Nat) : Nat := if paModule pa = ownModule s then 8000 else 50000

/-- Whether a request that the model performs at once is given up on the delivery promise, which counts from its acceptance (R351, R359). -/
def overdue (s : State) (pa : Nat) : Bool :=
  match delayOf s pa with
  | some d => !d.queued && decide (promise s pa + d.accept < d.wait)
  | none => false

/-- Whether an atomic to an address waits in queues for its service (log 65). -/
def queuesAt (s : State) (pa : Nat) : Bool :=
  match delayOf s pa with
  | some d => d.queued
  | none => false

/-- Why the home of an address answers no request of `f` flits: unreachable, or not within the promise (R301). -/
def homeFailsFor (s : State) (pa f : Nat) : Option Nat :=
  match unreachableFor s pa f with
  | some sub => some sub
  | none => if overdue s pa then some 1 else none

/-- The same for a request of one flit. -/
def homeFails (s : State) (pa : Nat) : Option Nat := homeFailsFor s pa 1

/-- A request of `f` flits that meets a spent counter stops its port (R366). -/
def stopSpent (s : State) (pa f : Nat) : State :=
  if paModule pa = ownModule s then s
  else
    match pathTo s (paModule pa) f with
    | some p => if (countFlits (portOf s p.port) f).isNone then haltPort s p.port 3 else s
    | none => s

/-- Whether the page of an address is being moved, so that writes to it are refused and tried again (R373). -/
def moving (s : State) (pa : Nat) : Bool :=
  decide (paModule pa = ownModule s) && s.moves.any fun m => m.2.status == 1 && m.2.source == paLocal pa / 65536

end Sys2Proof.Machine
end

