-- ==== Sys2Proof/Machine/Translate.lean ====
section
/-!
DEFINITION. Translation of virtual addresses (R310 to R316, R332).
-/

namespace Sys2Proof.Machine

/-- Why an access fails: cause and sub-cause (R300, R301), and whether the walk ended at a paged-out entry (R326). -/
structure AccFault where
  cause : Nat
  sub : Nat := 0
  po : Bool := false
  /-- the walk passed, and the home of the data itself failed -/
  data : Bool := false
deriving DecidableEq, Repr

/-- Whose access it is: page tables and address space, core, view. -/
structure View where
  ptroot : Word
  core : Nat
  priv : Bool
deriving DecidableEq, Repr

/-- The view of the hart in hand. -/
def hartView (s : State) : View := ⟨s.hart.ptroot, s.hart.coreNo, s.hart.priv⟩

/-- A table entry, read at its home on the current version (R314). -/
def readEntry (s : State) (pa : Nat) : Nat := mgetN s.memory (homeAddr s pa) 8

/-- What R312 makes of an entry at a level: a fault, or the entry. -/
def checkEntry (level e : Nat) : Except AccFault Nat :=
  let leaf := e.testBit 1
  if !e.testBit 0 then .error { cause := 6, po := e.testBit 10 }
  else if field e 13 3 ≠ 0 ∨ e.testBit 11 then .error { cause := 6 }
  else if (level = 1 ∧ leaf) ∨ (level = 3 ∧ !leaf) then .error { cause := 6 }
  else if e.testBit 3 ∧ !e.testBit 2 then .error { cause := 6 }
  else if level ≠ 3 ∧ e.testBit 8 then .error { cause := 6 }
  else if level = 2 ∧ leaf ∧ field e 16 13 ≠ 0 then .error { cause := 6 }
  else .ok e

/-- Physical address bits [55:16] of an entry. -/
def entryPA (e : Nat) : Nat := field e 16 40 * 65536

/-- One entry of a walk. -/
def walkStep (s : State) (level table index : Nat) : Except AccFault (Nat × Nat) :=
  let pa := table + 8 * index
  match homeFails s pa with
  | some sub => .error { cause := 11, sub }
  | none =>
    match checkEntry level (readEntry s pa) with
    | .error f => .error f
    | .ok e => .ok (pa, e)

/-- The walk of a canonical address (R310): address of the leaf entry, the entry, whether it maps a block. -/
def walk (s : State) (ptroot : Word) (va : Nat) : Except AccFault (Nat × Nat × Bool) :=
  match walkStep s 1 (bitsOf ptroot 16 40 * 65536) (field va 42 13) with
  | .error f => .error f
  | .ok (_, e1) =>
    match walkStep s 2 (entryPA e1) (field va 29 13) with
    | .error f => .error f
    | .ok (pa2, e2) =>
      if e2.testBit 1 then .ok (pa2, e2, true)
      else
        match walkStep s 3 (entryPA e2) (field va 16 13) with
        | .error f => .error f
        | .ok (pa3, e3) => .ok (pa3, e3, false)

/-- Whether the 32 entries of a contiguous group fit together as R313 asks of software. -/
def groupAgrees (s : State) (first e0 : Nat) : Nat → Bool
  | 0 => true
  | n + 1 =>
    let e := readEntry s (first + 8 * n)
    e.testBit 0 && decide (field e 2 4 = field e0 2 4) && decide (field e 8 8 = field e0 8 8) &&
      decide (entryPA e = entryPA e0 + 65536 * n) && groupAgrees s first e0 n

/-- Whether all 32 entries carry the contiguous hint. -/
def groupMarked (s : State) (first : Nat) : Nat → Bool
  | 0 => true
  | n + 1 => (readEntry s (first + 8 * n)).testBit 8 && groupMarked s first n

/-- The entry that translates an address: its own, or entry 0 of a group whose entries disagree, which the device may use instead
(R313; FREE VALUE, log 10). The result has the physical address of the page in place. -/
def groupEntry (s : State) (va leafPA e : Nat) : Nat :=
  let first := leafPA - 8 * (va / 65536 % 32)
  if e.testBit 8 && groupMarked s first 32 then
    let e0 := readEntry s first
    if groupAgrees s first e0 32 then e
    else if Config.groupFromFirst s.tick va then
      match checkEntry 3 e0 with
      | .ok _ => setField e0 16 40 (field e0 16 40 / 32 * 32 + va / 65536 % 32)
      | .error _ => e
    else e
  else e

/-- The frame attribute table, the hotness table and the window table of a module; 0 names none (R315 to R318, log 13). -/
def tablesOf (s : State) (m : Nat) : Peer := if m = ownModule s then ⟨s.regs.fatb, s.regs.hotb, s.regs.winb⟩ else tget s.peers m {}

/-- Whether the layout tag of every frame a leaf maps equals its LA bit (R315). -/
def tagsAgree (s : State) (pa : Nat) (blk la : Bool) : Bool :=
  let fatb := (tablesOf s (paModule pa)).fatb
  if fatb = 0 then !la
  else
    let f := paLocal pa / 65536
    let at_ := fatb.toNat + f / 8
    if blk then (mgets s.memory at_ 1024).all fun b => b == (if la then 255 else 0)
    else (mget s.memory at_).getLsbD (f % 8) == la

/-- Whether a translation allows an access: 0 read or atomic load, 1 write, 2 fetch, 3 other atomics (R312). -/
def allowed (acc : Nat) (priv r w x u : Bool) : Bool :=
  (match acc with
    | 0 => r
    | 2 => x
    | _ => w) && (u || priv)

/-- The module registers, which no hart reaches (R332). -/
def inRegisters (pa : Nat) : Bool := decide (0xF0000000000 ≤ paLocal pa) && decide (paLocal pa < 0xF0040000000)

/-- A window entry of the table at WINB (R316). -/
structure Window where
  w : Nat
  base : Nat
  phys : Nat
  limit : Nat
  state : Nat
  psize : Nat
  gen : Nat
  asid : Nat
deriving DecidableEq, Repr

/-- Address of window entry `w`. -/
def windowAddr (s : State) (w : Nat) : Nat := s.regs.winb.toNat + 32 * w

def readWindow (s : State) (w : Nat) : Window :=
  let a := windowAddr s w
  let d0 := mgetN s.memory a 8
  let d1 := mgetN s.memory (a + 8) 8
  { w, gen := field d0 24 40, asid := field d0 0 16, limit := field d1 32 15, state := field d1 16 3, psize := field d1 0 15
    phys := field (mgetN s.memory (a + 16) 8) 0 56, base := field (mgetN s.memory (a + 24) 8) 0 55 }

/-- A window entry written, its reserved bits 0. -/
def writeWindow (s : State) (x : Window) : State :=
  let a := windowAddr s x.w
  dropNearPA { s with memory := mputN (mputN (mputN (mputN s.memory a 8 (x.gen % 2 ^ 40 * 2 ^ 24 + x.asid % 2 ^ 16))
      (a + 8) 8 (x.limit % 2 ^ 15 * 2 ^ 32 + x.state % 8 * 2 ^ 16 + x.psize % 2 ^ 15))
      (a + 16) 8 (x.phys % 2 ^ 56)) (a + 24) 8 (x.base % 2 ^ 55) } a 32

/-- The listed windows, by rising index. A table address of 0 names no table (log 13). -/
def windows (s : State) : List Window :=
  if s.regs.winb = 0 then []
  else ((mslice s.memory s.regs.winb.toNat 131072).map (fun c => c.1 / 32)).dedup.map (readWindow s)

/-- The window of an address space that an address falls in (R316). -/
def windowOf (s : State) (asid va : Nat) : Option Window :=
  let ws := (windows s).filter fun x => x.asid == asid && decide (x.base ≤ va) && decide (va < x.base + x.limit * 65536)
  match ws.find? (fun x => decide (1 ≤ x.state) && decide (x.state ≤ 5)) with
  | some x => some x
  | none => ws.head?

/-- An access through a window (R316): readable and writable, not executable, in both views. -/
def windowAccess (x : Window) (acc va : Nat) : Except AccFault Nat :=
  if x.state = 0 ∨ x.state = 6 ∨ x.state = 7 ∨ x.base + x.psize * 65536 ≤ va then .error { cause := 6 }
  else if acc = 2 then .error { cause := 8 }
  else if x.state = 2 ∨ x.state = 3 then .error { cause := 9 }
  else .ok (x.phys + (va - x.base))

/-- A cached translation for an access, if one serves it (R314). One that the pacer made serves no access, which walks and sets A
itself (R186). -/
def cachedFor (s : State) (v : View) (acc va : Nat) : Option Cached :=
  s.tlb.find? fun c =>
    c.core == v.core && (c.glob || c.asid == asidOf v.ptroot) && c.vpn == (if c.blk then va / 2 ^ 29 else va / 65536) &&
      (c.d || acc == 0 || acc == 2) && c.pacer.isNone

/-- Whether an address of another module lies in a parcel that is sealed or in transit there (R283). -/
def remoteTransit (s : State) (pa : Nat) : Bool :=
  let winb := (tablesOf s (paModule pa)).winb
  paModule pa != ownModule s && winb != 0 &&
    ((mslice s.memory winb.toNat 131072).map fun c => c.1 / 32).dedup.any fun w =>
      let a := winb.toNat + 32 * w
      let d1 := mgetN s.memory (a + 8) 8
      let phys := field (mgetN s.memory (a + 16) 8) 0 56
      (field d1 16 3 == 2 || field d1 16 3 == 3) && decide (phys ≤ pa) && decide (pa < phys + 65536 * field d1 0 15)

/-- Whether an address of this module lies in a parcel that is sealed or in transit here (R208, R283, R286). -/
def ownTransit (s : State) (pa : Nat) : Bool :=
  (windows s).any fun x => (x.state == 2 || x.state == 3) && decide (x.phys ≤ pa) && decide (pa < x.phys + 65536 * x.psize)

/-- What the home of a translated address says to an access: the home is the one where its page stands now (R373). A home that fails (R301,
R360), and a sealed parcel of another module (R283), are faults of the data. -/
def meetHome (s : State) (pa : Nat) : Except AccFault Nat :=
  match homeFails s (homeAddr s pa) with
  | some sub => .error { cause := 11, sub, data := true }
  | none => if remoteTransit s (homeAddr s pa) then .error { cause := 11, sub := 2, data := true } else .ok pa

/-- What is checked of a translated address at its source: no access reaches the module registers (R332), nor a parcel that is sealed or in
transit here, by whatever mapping (R208, R283, R286). A local address beyond the 1,536 GiB of HBM4E (R1) and outside the module registers is
ordinary memory: DESIGN CHOICE, log 85. -/
def checkPlace (s : State) (pa : Nat) : Except AccFault Nat :=
  if inRegisters pa then .error { cause := 8 } else if ownTransit s (homeAddr s pa) then .error { cause := 9 } else .ok pa

/-- What a walk's leaf gives an access (R312, R313, R315): the entry that translates and the physical address, or the fault. -/
def checkLeaf (s : State) (v : View) (acc va leafPA e : Nat) (blk : Bool) : Except AccFault (Nat × Nat) :=
  let g := if blk then e else groupEntry s va leafPA e
  let pa := if blk then entryPA g + va % 2 ^ 29 else entryPA g + va % 65536
  if !tagsAgree s (entryPA g) blk (g.testBit 9) then .error { cause := 7 }
  else if !allowed acc v.priv (g.testBit 2) (g.testBit 3) (g.testBit 4) (g.testBit 5) then .error { cause := 8 }
  else
    match checkPlace s pa with
    | .error f => .error f
    | .ok pa => .ok (g, pa)

/-- The cached form of an entry (R314, R315). -/
def cacheOf (v : View) (va g : Nat) (blk d : Bool) (pacer : Option (Nat × Nat)) : Cached where
  core := v.core
  asid := asidOf v.ptroot
  glob := g.testBit 12
  blk := blk
  vpn := if blk then va / 2 ^ 29 else va / 65536
  pa := entryPA g
  r := g.testBit 2
  w := g.testBit 3
  x := g.testBit 4
  u := g.testBit 5
  d := d
  pacer := pacer

/-- A leaf with A set, and D for a write or an atomic other than ald (R314). -/
def markLeaf (acc e : Nat) : Nat := if acc = 1 ∨ acc = 3 then e ||| 0xC0 else e ||| 0x40

/-- A walk's leaf used for an access: A and D set, the translation cached (R314, R315). -/
def fill (s : State) (v : View) (acc va leafPA e : Nat) (blk : Bool) : State × Except AccFault Nat :=
  match checkLeaf s v acc va leafPA e blk with
  | .error f => (s, .error f)
  | .ok (g, pa) =>
    ({ homeWrite s leafPA (leBytes 8 (markLeaf acc e)) with
        tlb := cacheOf v va g blk ((markLeaf acc e).testBit 7) none :: s.tlb },
      .ok pa)

/-- The physical address of an access at a virtual address (R310 to R316): kinds 0 read or atomic load, 1 write, 2 fetch, 3 other atomics. -/
def locate (v : View) (acc va : Nat) (s : State) : State × Except AccFault Nat :=
  if 2 ^ 55 ≤ va then (s, .error { cause := 5 })
  else
    match windowOf s (asidOf v.ptroot) va with
    | some x =>
      match windowAccess x acc va with
      | .error f => (s, .error f)
      | .ok pa => (s, checkPlace s pa)
    | none =>
      match cachedFor s v acc va with
      | some c =>
        let pa := if c.blk then c.pa + va % 2 ^ 29 else c.pa + va % 65536
        if allowed acc v.priv c.r c.w c.x c.u then (s, checkPlace s pa) else (s, .error { cause := 8 })
      | none =>
        match walk s v.ptroot va with
        | .error f => (s, .error f)
        | .ok (leafPA, e, blk) => fill s v acc va leafPA e blk

/-- A request of one flit as far as its home, which may fail it. A spent counter stops the port it would leave by (R366). -/
def reachHome (s : State) (pa : Nat) : State × Except AccFault Nat := (stopSpent s (homeAddr s pa) 1, meetHome s pa)

/-- An access as far as its home. -/
def translate (v : View) (acc va : Nat) (s : State) : State × Except AccFault Nat :=
  match locate v acc va s with
  | (s, .error f) => (s, .error f)
  | (s, .ok pa) => reachHome s pa

end Sys2Proof.Machine
end

