-- ==== Sys2Proof/Machine/Access.lean ====
section
/-!
DEFINITION. Generic memory as a hart and its engines see it: own writes, snapshots, publication, phases (R48 to R61, R66 to R70),
uncorrectable bytes (R209), the error queue (R360, R361).
-/

namespace Sys2Proof.Machine

/-- A home byte, and `n` of them as a number. -/
def homeByte (s : State) (pa : Nat) : Byte := mget s.memory (homeAddr s pa)

def homeRead (s : State) (pa n : Nat) : Nat := mgetN s.memory (homeAddr s pa) n

/-! Writes of software (R3). -/

/-- Bits of byte `o` of a window entry that software does not change: gen, phys, psize, reserved fields (R316). -/
def windowFixed (o : Nat) : Byte :=
  match o with
  | 0 | 1 | 12 | 24 | 25 | 26 | 27 | 28 | 29 => 0
  | 10 => 0xF8
  | 13 | 30 => 0x80
  | _ => 0xFF

/-- Bits of a home byte that software does not change: read-only and reserved fields of the window table (R316), the entries and the last
header dword of error rings (R361). -/
def fixedBits (s : State) (pa : Nat) : Byte :=
  let w := s.regs.winb.toNat
  let e := localPA s s.regs.errb.toNat
  if w ≠ 0 ∧ w ≤ pa ∧ pa < w + 131072 then windowFixed ((pa - w) % 32)
  else if s.regs.errb ≠ 0 ∧ e ≤ pa ∧ pa < e + 2 ^ 27 ∧ 24 ≤ (pa - e) % 2048 then 0xFF
  else 0

/-- A byte as software leaves it at a home: read-only bits keep their values (R3). -/
def softByte (s : State) (m : Memory) (pa : Nat) (b : Byte) : Byte := (mget m pa &&& fixedBits s pa) ||| (b &&& ~~~fixedBits s pa)

/-- Bytes that software writes, from an address up. -/
def softPuts (s : State) (m : Memory) (pa : Nat) : List Byte → Memory
  | [] => m
  | b :: bs => softPuts s (mput m pa (softByte s m pa b)) (pa + 1) bs

/-! Versions of home lines (R60, R61, R328). -/

/-- Address of entry `i` of the spill area (R318, R328). -/
def spillAddr (s : State) (i : Nat) : Nat := localPA s (0x17FF4000000 + 192 * i)

/-- The bytes of an entry: the version, its mask, its line address, the stamp it precedes (R328), then what the model puts into the bytes
left (log 86). -/
def spillBytes (x : Shadow) : List Byte :=
  ((List.range 128).map fun i => x.bytes.getD i 0) ++ leBytes 16 x.mask.toNat ++ leBytes 8 (128 * x.line) ++ leBytes 8 x.stamp ++
    leBytes 8 x.born ++ leBytes 24 0

def readSpill (s : State) (i : Nat) : Shadow :=
  let a := spillAddr s i
  { bytes := mgets s.memory a 128, mask := BitVec.ofNat 128 (mgetN s.memory (a + 128) 16), line := mgetN s.memory (a + 144) 8 / 128
    stamp := mgetN s.memory (a + 152) 8, born := mgetN s.memory (a + 160) 8 }

/-- The versions kept, at the homes and in the spill area. -/
def versions (s : State) : List Shadow := s.shadows ++ s.spill.map (readSpill s)

/-- The version that a fetch is served with in a phase that began at a stamp: the one older than the phase that a later publication of the line
replaced (R60); none when it gets the current version. -/
def versionFor (s : State) (stamp pa : Nat) : Option Shadow :=
  (versions s).find? fun v =>
    v.line == homeAddr s pa / 128 && decide (v.born ≤ stamp) && decide (stamp < v.stamp) && v.mask.getLsbD (homeAddr s pa % 128)

/-- A byte fetched from its home in the open phase, and whether it is the current version. -/
def fetchByte (s : State) (pa : Nat) : Byte × Bool :=
  match versionFor s s.hart.stamp pa with
  | some v => (v.bytes.getD (homeAddr s pa % 128) 0, false)
  | none => (homeByte s pa, true)

/-- Stamps of the phases that are open, of bound harts and of saved contexts (R60, R328). -/
def openStamps (s : State) : List Nat := (boundHarts s).map (·.stamp) ++ s.saved.map (·.stamp)

/-- Versions of lines that an open phase still needs (R60, R328). -/
def dropShadows (s : State) : State :=
  let st := openStamps s
  { s with
    shadows := s.shadows.filter fun x => st.any fun t => decide (t < tget s.linePubs x.line 0)
    spill := s.spill.filter fun i => st.any fun t => decide (t < (readSpill s i).stamp) }

/-- Whether a publication that changes a line must keep the value before it as a shadow (R60). -/
def needsShadow (s : State) (line : Nat) : Bool := (openStamps s).any fun t => decide (t < tget s.linePubs line 0)

/-- Whether a publication of a line waits for a second shadow version (R61). -/
def shadowBlocks (s : State) (line : Nat) : Bool := needsShadow s line && s.shadows.any fun x => x.line == line

/-- The value of a line kept as its shadow, for the phases that still read it (R60). -/
def shadowOf (s : State) (line stamp : Nat) : Shadow :=
  ⟨line, stamp, tget s.linePubs line 0, BitVec.allOnes 128, mgets s.memory (line * 128) 128⟩

/-- A publication is about to change a home line (R60): its value is kept where an open phase may still read it, and nothing waits there any
more. -/
def stampLine (s : State) (line : Nat) : State :=
  let stamp := s.pubs + 1
  { s with
    shadows := if needsShadow s line then shadowOf s line stamp :: s.shadows else s.shadows
    pubs := stamp, linePubs := tset s.linePubs line stamp, stalls := s.stalls.filter fun l => l != line }

/-- The home lines of `n` bytes. -/
def linesAt (s : State) (pa n : Nat) : List Nat := ((List.range n).map fun i => (homeAddr s pa + i) / 128).dedup

/-- The same for several lines, each once. -/
def stampLines (s : State) (lines : List Nat) : State := lines.dedup.foldl stampLine s

/-- The stall at a line ends by its time-out (R61), unless that already waits its turn. -/
def stallEnds (s : State) (line : Nat) : State :=
  if !shadowBlocks s line || s.agenda.contains (.shadowStallTimeout line) then s else schedule s (.shadowStallTimeout line)

/-- A write of an engine or of another module waits for a second shadow version at some of its lines (R61). -/
def waitAt (s : State) (lines : List Nat) : State :=
  (lines.filter (shadowBlocks s)).foldl stallEnds { s with stalls := (lines.filter (shadowBlocks s) ++ s.stalls).dedup }

/-- Versions of a line without the bytes that something other than a publication has replaced: no phase is served with what stood there before. -/
def unmask (pa n : Nat) (x : Shadow) : Shadow :=
  { x with mask := (List.range 128).foldl (fun m i => if pa ≤ 128 * x.line + i ∧ 128 * x.line + i < pa + n then m &&& ~~~(1#128 <<< i) else m) x.mask }

def dropVersions (s : State) (pa n : Nat) : State :=
  { s with
    shadows := s.shadows.map (unmask pa n)
    memory := s.spill.foldl (fun m i => mputN m (spillAddr s i + 128) 16 (unmask pa n (readSpill s i)).mask.toNat) s.memory }

/-! Service (R317, R346, R348). -/

/-- The stamp that a request carries: a deadline in force, else TIME and the promise (R346). -/
def requestStamp (s : State) (deadline : Word) (pa : Nat) : Nat :=
  if deadline ≠ 0 then stampAt deadline else stampAt (heldSum s.time (toWord (promise s pa)))

/-- Whether a request stamped from a deadline is served after it (R348). -/
def servedLate (s : State) (deadline : Word) (pa : Nat) : Bool :=
  match delayOf s pa with
  | some d => deadline != 0 && stampBefore (requestStamp s deadline pa) (stampAt (heldSum s.time (toWord d.wait)))
  | none => false

/-- A request with `data` bytes that is performed at once, under the deadline of its instruction or of the launch of its engine (R346): its flits
(R365), and the note that it is served late (R348). -/
def request (deadline : Word) (s : State) (pa data : Nat) : State :=
  let s' := sent s (homeAddr s pa) data
  if servedLate s deadline (homeAddr s pa) then schedule s' (.late s.hart.slot) else s'

/-- `n` committed elements counted for the frame that holds them: counter 0 unit-stride, 1 strided, 2 indexed (R317). -/
def touchN (s : State) (pa kind n : Nat) : State :=
  withCore s fun c => { c with hot := tset c.hot (4 * (pa / 65536) + kind) (tget c.hot (4 * (pa / 65536) + kind) 0 + n) }

def touch (s : State) (pa kind : Nat) : State := touchN s pa kind 1

/-- The counts as they stood in an earlier state: an access that faults after some of its reads has committed none of them (R317). -/
def uncounted (old s : State) : State := withCore s fun c => { c with hot := old.core.hot }

/-! Writes at homes. -/

/-- Bytes that a hart or an engine writes at a home through a location: near caches give up their copies of it (R49, R69). -/
def locWrite (s : State) (loc pa : Nat) (bs : List Byte) : State :=
  dropNearLoc { s with memory := softPuts s s.memory (homeAddr s pa) bs } loc bs.length

/-- Bytes that software outside the cores writes at a home, by physical address. -/
def outsideWrite (s : State) (pa : Nat) (bs : List Byte) : State :=
  dropNearPA { s with memory := softPuts s s.memory (homeAddr s pa) bs } (homeAddr s pa) bs.length

/-! What a hart reads (R54). -/

/-- The location of a virtual address for the hart in hand, and for a view. -/
def hartLoc (s : State) (va : Nat) : Nat := locOf (asidOf s.hart.ptroot) va

def View.loc (v : View) (va : Nat) : Nat := locOf (asidOf v.ptroot) va

/-- The hart's own write of a location, if case 1 of R54 holds. -/
def ownByte (h : Hart) (loc : Nat) : Option OwnByte := tfind h.own loc

/-- The copy of a location in the near cache of the die in hand, if it is of the page that is mapped now. -/
def nearCopy (s : State) (loc pa : Nat) : Option Byte :=
  match tfind s.die.near loc with
  | some c => if c.pa = homeAddr s pa then some c.val else none
  | none => none

/-- The same, where the near cache holds the whole of the aligned 8 bytes around it, so that no element is put together from a copy and a
fetch (R51). -/
def nearHit (s : State) (loc pa : Nat) : Option Byte :=
  if (List.range 8).all fun i => (nearCopy s (loc / 8 * 8 + i) (pa / 8 * 8 + i)).isSome then nearCopy s loc pa else none

/-- The snapshot value of a location (case 2 of R54): as the open phase has read it before, else as the near cache holds it, else as a fetch
gives it. -/
def snapByte (s : State) (loc pa : Nat) : Byte :=
  match tfind s.hart.snap loc, nearHit s loc pa with
  | some b, _ => b
  | none, some b => b
  | none, none => (fetchByte s pa).1

/-- The snapshot with the copy of a location that the near cache holds. -/
def keepNear (s : State) (loc pa : Nat) : State :=
  match tfind s.hart.snap loc, nearHit s loc pa with
  | none, some b => withHart s fun h => { h with snap := tset h.snap loc b }
  | _, _ => s

/-- Whether one of `n` home bytes cannot be corrected (R209, R385). -/
def uncorrectable (s : State) (pa n : Nat) : Bool := s.badBytes.any fun b => decide (homeAddr s pa ≤ b) && decide (b < homeAddr s pa + n)

/-- The snapshot with the value of a location in it, fetched where nothing holds it. -/
def keepSnap (s : State) (loc pa : Nat) : State :=
  match tfind s.hart.snap loc with
  | some _ => s
  | none =>
    if (nearHit s loc pa).isNone && uncorrectable s pa 1 then s
    else withHart s fun h => { h with snap := tset h.snap loc (snapByte s loc pa) }

/-- A byte as the hart in hand reads it in its phase (R54): its own write, else the snapshot. -/
def hartByte (s : State) (va pa : Nat) : Byte :=
  match ownByte s.hart (hartLoc s va) with
  | some o => o.val
  | none => snapByte s (hartLoc s va) pa

/-- What a read of a byte leaves, by one of the two ways to keep it. -/
def keepByte (keep : State → Nat → Nat → State) (s : State) (va pa : Nat) : State :=
  match ownByte s.hart (hartLoc s va) with
  | some _ => s
  | none => keep s (hartLoc s va) pa

/-- A byte as an engine of the hart in hand reads it (R66): the hart's own write, else the current version at the home. -/
def engineByte (s : State) (v : View) (va pa : Nat) : Byte :=
  match ownByte s.hart (v.loc va) with
  | some o => o.val
  | none => homeByte s pa

def hartBytes (s : State) (va pa : Nat) : Nat → List Byte
  | 0 => []
  | n + 1 => hartByte s va pa :: hartBytes s (va + 1) (pa + 1) n

def keepBytes (keep : State → Nat → Nat → State) (s : State) (va pa : Nat) : Nat → State
  | 0 => s
  | n + 1 => keepBytes keep (keepByte keep s va pa) (va + 1) (pa + 1) n

/-- What a read of an element leaves: the aligned 8 bytes around it come into the snapshot together, so that no later read of the phase mixes
them with later ones (R51, R52, R68). -/
def keepElem (keep : State → Nat → Nat → State) (s : State) (va pa : Nat) : State := keepBytes keep s (va / 8 * 8) (pa / 8 * 8) 8

def engineBytes (s : State) (v : View) (va pa : Nat) : Nat → List Byte
  | 0 => []
  | n + 1 => engineByte s v va pa :: engineBytes s v (va + 1) (pa + 1) n

/-- A plain write of the hart in hand (R54): unpublished until a publication sends it. -/
def hartWrite (s : State) (va pa : Nat) : List Byte → State
  | [] => s
  | b :: bs =>
    hartWrite (withHart s fun h => { h with own := tset h.own (hartLoc s va) ⟨b, pa, false, false⟩ }) (va + 1) (pa + 1) bs

/-! Data that cannot be corrected (R209, R385). -/

/-- The fault of data that cannot be corrected, from another module a remote-load failure (R209, R301, R360). -/
def badData (s : State) (pa : Nat) : AccFault :=
  if paModule pa = ownModule s then { cause := 12, sub := 6, data := true } else { cause := 11, sub := 6, data := true }

/-- A read that meets an uncorrectable byte. -/
def checkData (s : State) (pa n : Nat) : Except AccFault Unit := if uncorrectable s pa n then .error (badData s pa) else .ok ()

/-- Whether a read of the hart in hand has its byte without going to the home. -/
def atHand (s : State) (va pa : Nat) : Bool :=
  (ownByte s.hart (hartLoc s va)).isSome || (tfind s.hart.snap (hartLoc s va)).isSome || (nearHit s (hartLoc s va) pa).isSome

/-- The lowest byte of a plain read that its home cannot give, and of a read of an engine. -/
def badRead (s : State) (va pa n : Nat) : Option Nat :=
  (List.range n).find? fun i => !atHand s (va + i) (pa + i) && uncorrectable s (pa + i) 1

def badEngineRead (s : State) (v : View) (va pa n : Nat) : Option Nat :=
  (List.range n).find? fun i => (ownByte s.hart (v.loc (va + i))).isNone && uncorrectable s (pa + i) 1

/-- A lasting uncorrectable error of memory counted and reported, at most once for a location in any 1 ms (R384, R387). -/
def lastingError (s : State) (pa n : Nat) : State :=
  match s.badBytes.find? fun b => decide (homeAddr s pa ≤ b) && decide (b < homeAddr s pa + n) with
  | none => s
  | some b => if paModule b = ownModule s then countLasting s b (toWord b) 0x100 else s

/-- The copies that a fetch of the aligned 8 bytes around an element leaves in the near cache, as `s` finds them: bytes that were not at hand and whose
current version the home gives (R60, R69). -/
def cacheElem (s : State) (va pa : Nat) (t : State) : State :=
  (List.range 8).foldl (fun t i =>
    let a := va / 8 * 8 + i
    let p := pa / 8 * 8 + i
    if !atHand s a p && !uncorrectable s p 1 && (fetchByte s p).2 then
      withDie t fun d => { d with near := tset d.near (hartLoc s a) ⟨homeAddr s p, homeByte s p⟩ }
    else t) t

/-- Whether a byte of an access is fetched from its home. -/
def fetches (s : State) (va pa n : Nat) : Bool := (List.range n).any fun i => !atHand s (va + i) (pa + i)

/-- A near-cache miss that sends no request, counted or not (R266, index 3; FREE VALUE, log 7). -/
def missAnyway (s : State) (va : Nat) : State := if Config.missesAnyway s.tick va then addPerf s 3 1 else s

/-- An aligned plain read of `n` bytes by the hart in hand, counted under `kind`: the state with the translation made and the snapshot kept, and
the value. Only a read that is fetched sends a request, which its home may fail or serve late. -/
def load (va n kind : Nat) (s : State) : State × Except AccFault Nat :=
  match locate (hartView s) 0 va s with
  | (s, .error f) => (s, .error f)
  | (s, .ok pa) =>
    if fetches s va pa n then
      match reachHome s pa with
      | (s, .error f) => (s, .error f)
      | (s, .ok _) =>
        match badRead s va pa n with
        | some i => (lastingError s (pa + i) 1, .error (badData s pa))
        | none =>
          (touch (cacheElem s va pa (keepElem keepSnap (request s.hart.deadline (addPerf s 3 1) pa 0) va pa)) pa kind, .ok (ofLe (hartBytes s va pa n)))
    else (touch (keepElem keepNear (missAnyway s va) va pa) pa kind, .ok (ofLe (hartBytes s va pa n)))

/-- Physical address of an error ring (R361). -/
def ringAddr (s : State) (ctxid : BitVec 32) : Nat := localPA s (s.regs.errb.toNat + 2048 * (ctxid.toNat % 65536))

/-- An entry put into the error queue of a context (R361). -/
def errorEntry (s : State) (ctxid : BitVec 32) (kind cause sub len : Nat) (addr : Nat) (peer info : Nat) : State :=
  let ring := ringAddr s ctxid
  let tail := homeRead s ring 8
  let head := homeRead s (ring + 8) 8
  if (tail + 2 ^ 64 - head) % 2 ^ 64 = 63 then
    let lost := homeRead s (ring + 16) 8
    let s' := homeWrite s (ring + 16) (leBytes 8 (lost + 1))
    if s.ringDropped.contains ctxid.toNat then s'
    else emitModule { s' with ringDropped := ctxid.toNat :: s.ringDropped } 10 (toWord ctxid.toNat) s.time
  else
    let a := ring + 32 + 32 * (tail % 63)
    let d1 := len % 256 + cause % 256 * 2 ^ 8 + sub % 256 * 2 ^ 16 + kind % 256 * 2 ^ 24 + peer % 4096 * 2 ^ 32
    let s' := homeWrite s a (leBytes 8 addr ++ leBytes 8 d1 ++ leBytes 8 s.time.toNat ++ leBytes 8 info)
    { homeWrite s' ring (leBytes 8 (tail + 1)) with ringDropped := s.ringDropped.filter (fun c => c != ctxid.toNat) }

/-- A write of the hart in hand or of an engine of it that fails at its home enters the error queue (R360): 1 store, 2 atomic without
return, 3 engine write; `pc` is that of the instruction that issued it. -/
def writeFailed (s : State) (kind va pa n : Nat) (f : AccFault) (pc : Word) : State :=
  errorEntry s s.hart.ctxid kind f.cause f.sub n va (paModule pa) pc.toNat

/-- The same for the instruction at the program counter. -/
def storeFailed (s : State) (kind va pa n : Nat) (f : AccFault) : State := writeFailed s kind va pa n f s.hart.irPc

/-- Whether a write that its home fails acts there all the same: one given up on its deadline may (R359). -/
def actsAnyway (s : State) (pa : Nat) (f : AccFault) : Bool :=
  f.sub == 1 && overdue s pa && match delayOf s pa with
    | some d => d.acts
    | none => false

/-- An aligned plain write by the hart in hand, counted under `kind`: the state after it, or the fault. A home that fails enters the
error queue. -/
def store (va : Nat) (bs : List Byte) (kind : Nat) (s : State) : State × Except AccFault Unit :=
  match locate (hartView s) 1 va s with
  | (s, .error f) => (s, .error f)
  | (s, .ok pa) =>
    match reachHome s pa with
    | (s, .error f) => (storeFailed (if actsAnyway s pa f then hartWrite s va pa bs else s) 1 va pa bs.length f, .ok ())
    | (s, .ok _) => (touch (hartWrite s va pa bs) pa kind, .ok ())

/-- Whether a publication of a line must wait: for a second shadow version (R61), for the page to finish moving (R373), for room at its port
(R364). -/
def lineWaits (s : State) (line : Nat) : Bool := shadowBlocks s line || moving s (line * 128) || portFull s (line * 128) 128

/-- Whether an access of an engine of the hart in hand that writes, at a physical address, waits: its page is being moved (R373), its line waits for
a second shadow version (R61), a request of the hart to the line is not acknowledged (R356), its port has no room (R364). -/
def engineWaits (s : State) (pa n : Nat) : Bool :=
  moving s pa || (linesAt s pa n).any (shadowBlocks s) || s.hart.request.any (fun r => homeAddr s r.pa / 128 == homeAddr s pa / 128) ||
    portFull s (homeAddr s pa) n

/-- Unpublished bytes that have not reached their home, as (virtual address, byte). -/
def unsent (h : Hart) : Table OwnByte := h.own.filter fun p => !p.2.pub && !p.2.home

/-- Home lines that the bytes of a list lie in. -/
def linesOf (s : State) (bs : Table OwnByte) : List Nat := (bs.map fun p => homeAddr s p.2.pa / 128).dedup

/-- The bytes of a list written at their homes, through their locations (R59). Of two bytes of one publication that reach one home byte by two
locations, the one written to the location that the list names later stays: DESIGN CHOICE, log 103. -/
def putOwn (s : State) (bs : Table OwnByte) : State :=
  onNear { s with memory := bs.foldl (fun m p => mput m (homeAddr s p.2.pa) (softByte s m (homeAddr s p.2.pa) p.2.val)) s.memory }
    fun t => t.filter fun c => !bs.any fun p => p.1 == c.1

/-- A write-back that its home does not take: an entry of kind 4 and a machine check (R360, R385). -/
def writeBackFailed (s : State) (addr cause sub len : Nat) : State :=
  emitModule (errorEntry s s.hart.ctxid 4 cause sub len (2 ^ 63 + addr) (paModule addr) 0) 11 (toWord addr) (toWord sub)

/-- The bytes of a list that lie in a home line. -/
def inLine (s : State) (line : Nat) (bs : Table OwnByte) : Table OwnByte := bs.filter fun p => homeAddr s p.2.pa / 128 == line

/-- Why bytes of a line cannot be written at its home (R283, R360, R385): the home fails, a parcel there is sealed, or one of the locations does
not hold data any more. -/
def lineFault (s : State) (line : Nat) (mine : Table OwnByte) : Option AccFault :=
  match homeFailsFor s (line * 128) (flitsOf mine.length) with
  | some sub => some { cause := 11, sub }
  | none =>
    if remoteTransit s (line * 128) then some { cause := 11, sub := 2 }
    else if mine.any fun p => s.badBytes.contains (homeAddr s p.2.pa) then some { cause := 12, sub := 6 } else none

/-- The report of bytes of a line that cannot be written, as one entry of kind 4 for their lowest address (R360). A spent counter stops the
port (R366). -/
def lineFailed (s : State) (line : Nat) (mine : Table OwnByte) (f : AccFault) : State :=
  writeBackFailed (stopSpent s (line * 128) (flitsOf mine.length)) ((mine.map fun p => homeAddr s p.2.pa).foldl min (line * 128 + 127))
    f.cause f.sub mine.length

/-- The masked bytes of one line applied at its home, with the shadow kept (R58 to R60); a home that fails reports the line as one entry of
kind 4 (R360). Its request carries the deadline in force (R260, R346). -/
def publishLine (s : State) (line : Nat) (bs : Table OwnByte) : State :=
  let mine := inLine s line bs
  match lineFault s line mine with
  | some f => lineFailed s line mine f
  | none => request s.hart.deadline (putOwn (stampLine s line) mine) (line * 128) mine.length

/-- One attempt to publish the writes of the hart in hand (R55): lines that must wait stay unpublished, and the result says whether
the publication is complete. The hart's bytes stay under case 1 of R54 until a phase begins. -/
def publish (s : State) : State × Bool :=
  let bs := unsent s.hart
  let lines := linesOf s bs
  let go := lines.filter fun l => !lineWaits s l
  let wait := lines.filter fun l => lineWaits s l
  let s' := go.foldl (fun t l => publishLine t l bs) s
  let s' := withHart s' fun h =>
    { h with
      own := h.own.map fun p => (p.1, { p.2 with pub := p.2.pub || p.2.home || !(wait.contains (homeAddr s p.2.pa / 128)) })
      stalledPub := (wait.head?).map (· + 1) }
  (wait.foldl stallEnds s', wait.isEmpty)

/-- The next phase of the hart in hand begins (R53, R55): its published writes are part of memory, the snapshot is discarded. Near caches
keep their copies (R69), so a read of an alias may return any value that R54 allows for it: here the copy of the die, or where there is none
the home's byte when the phase first reads it (DESIGN CHOICE, log 92). -/
def newPhase (s : State) : State :=
  dropShadows (withHart s fun h => { h with own := h.own.filter (fun p => !p.2.pub), snap := [], stamp := s.pubs })

/-- The next phase after an alias fence: every line it reads is fetched from its home (R70). -/
def aliasPhase (s : State) : State := newPhase (withDie s fun d => { d with near := [] })

/-- Bytes an engine of the hart in hand writes: at their homes now, and in the hart's view once it joins (R67, R68). A write of the hart that is
still unpublished comes before the engine's and is not sent after it. `deadline` is that of the launch. The caller stamps their lines. -/
def engineWrite (deadline : Word) (s : State) (v : View) (eng id va pa : Nat) (bs : List Byte) : State :=
  let loc := v.loc va
  let s := request deadline (locWrite s loc pa bs) pa bs.length
  withHart s fun h =>
    { h with
      own := h.own.map fun p => if loc ≤ p.1 ∧ p.1 < loc + bs.length then (p.1, { p.2 with home := true }) else p
      joins := h.joins ++ (List.range bs.length).map fun i => ⟨eng, id, loc + i, pa + i⟩ }

/-- The hart in hand joins an engine up to an id (R67): each byte the engine wrote reads as its home holds it now, in place of an
earlier write of the hart; of a write it made meanwhile, R68 leaves either. -/
def joinEngine (s : State) (eng upto : Nat) : State :=
  let mine := s.hart.joins.filter fun j => j.eng == eng && decide (j.id ≤ upto)
  withHart s fun h =>
    { h with
      own := mine.foldl (fun o j => tset o j.loc ⟨homeByte s j.pa, j.pa, true, true⟩) h.own
      joins := h.joins.filter fun j => !(j.eng == eng && decide (j.id ≤ upto)) }

/-! Ranges that change hands (R202, R206, R207, R284). -/

/-- `n` bytes at a virtual address of an address space, in memory at a physical address. -/
structure Range where
  asid : Nat
  va : Nat
  pa : Nat
  n : Nat
deriving DecidableEq, Repr

/-- Whether a location lies in a range, and whether a home byte does. -/
def Range.holdsLoc (r : Range) (loc : Nat) : Bool := decide (locOf r.asid r.va ≤ loc) && decide (loc < locOf r.asid r.va + r.n)

def Range.holdsPA (r : Range) (pa : Nat) : Bool := decide (r.pa ≤ pa) && decide (pa < r.pa + r.n)

/-- Whether a home line lies in a range. -/
def Range.holdsLine (r : Range) (line : Nat) : Bool := r.holdsPA (128 * line)

/-- A hart without its writes to a range and without what it has read there. -/
def Range.forget (r : Range) (h : Hart) : Hart :=
  { h with
    own := h.own.filter fun p => !(r.holdsLoc p.1 || r.holdsPA p.2.pa)
    snap := h.snap.filter fun p => !r.holdsLoc p.1
    joins := h.joins.filter fun j => !(r.holdsLoc j.loc || r.holdsPA j.pa) }

/-- The views of a range given up by every hart and near cache of the module, and the older versions of its lines: unpublished bytes are
discarded (R207), and what is mapped there next reads the home (R202, R206, R284). -/
def dropRange (s : State) (r : Range) : State :=
  onNear { s with
    hart := r.forget s.hart, others := s.others.map r.forget, saved := s.saved.map r.forget
    shadows := s.shadows.filter fun v => !r.holdsLine v.line
    spill := s.spill.filter fun i => !r.holdsLine (readSpill s i).line }
    fun t => t.filter fun c => !(r.holdsLoc c.1 || r.holdsPA c.2.pa)

/-- The range of a window's parcel. -/
def Window.range (x : Window) : Range := ⟨x.asid, x.base, x.phys, 65536 * x.psize⟩

end Sys2Proof.Machine
end

