-- ==== Sys2Proof/Machine/Frame.lean ====
section
/-!
DEFINITION. The context frame in memory (R319 to R323): what a save writes and what a restore reads. Where the manual gives a part of
the frame no layout, the layout is the model's (log 14), and what it gives no place at all the model keeps beside the frame.
-/

namespace Sys2Proof.Machine

/-- Numbers of width `w` packed as one bit stream, and the number at a position (R84). -/
def packBits (w : Nat) : List Nat → Nat
  | [] => 0
  | v :: vs => v % 2 ^ w + 2 ^ w * packBits w vs

def streamField (w i v : Nat) : Nat := field v (w * i) w

/-- Four 16-bit counters of an entry as TCNT holds them, and back (R303). -/
def packCnt (cnt : List Nat) : Nat := packBits 16 (cnt.take 4)

def unpackCnt (v : Nat) : List Nat := (List.range 4).map fun g => streamField 16 g v

/-- TLAP of an entry (R303). -/
def tlapOf (e : Entry) : Nat :=
  match e.lap with
  | some (k, i) => 2 ^ 31 + i % 16 * 2 ^ 16 + k % 65536
  | none => 0

/-- The trap-record register 0x900 + `i` of a bank (R303). -/
def bankReg (b : TrapBank) (i : Nat) : Word :=
  match i with
  | 0 => b.cause
  | 1 => b.elem
  | 2 => b.addr
  | 3 => b.rpc
  | 4 => b.word
  | 5 => b.inf
  | 6 => b.sec
  | 7 => b.bmap
  | _ =>
    match b.ents[(i - 16) / 8]? with
    | none => 0
    | some e =>
      match i % 8 with
      | 0 => e.pc
      | 1 => toWord (packCnt e.cnt)
      | 2 => toWord e.gs
      | 3 => toWord (tlapOf e)
      | _ => 0

/-- Numbers of the trap-record registers that exist, less 0x900. -/
def bankRegs : List Nat := [0, 1, 2, 3, 4, 5, 6, 7, 16, 17, 18, 19, 24, 25, 26, 27, 32, 33, 34, 35, 40, 41, 42, 43]

/-- A LAP state as dwords from an offset (log 14). -/
def lapDwords (base : Nat) : Option Lap → List (Nat × Nat)
  | none => [(base, 0)]
  | some l =>
    let pairs := packBits 1 (l.frame.map fun w => bit w.2.isSome)
    [(base, l.count % 2 ^ 17 + l.frame.length % 32 * 2 ^ 32 + pairs % 2 ^ 16 * 2 ^ 40 + 2 ^ 63),
     (base + 8, wrapTo 5 l.sd + wrapTo 5 l.s1 * 2 ^ 8 + wrapTo 5 l.s2 * 2 ^ 16),
     (base + 16, l.k % 2 ^ 17 + l.idx % 16 * 2 ^ 32), (base + 24, l.base.toNat)] ++
    (List.range l.frame.length).map fun i =>
      let w := l.frame.getD i (0, none)
      (base + 32 + 8 * i, w.1 % 2 ^ 32 + w.2.getD 0 % 2 ^ 32 * 2 ^ 32)

def lapOf (rd : Nat → Nat) (base : Nat) : Option Lap :=
  let d := rd base
  if !d.testBit 63 then none
  else
    some { count := field d 0 17, base := toWord (rd (base + 24)), sd := signed 5 (rd (base + 8)), s1 := signed 5 (field (rd (base + 8)) 8 5)
           s2 := signed 5 (field (rd (base + 8)) 16 5), k := field (rd (base + 16)) 0 17, idx := field (rd (base + 16)) 32 4
           frame := (List.range (field d 32 5)).map fun i =>
             let w := rd (base + 32 + 8 * i)
             (field w 0 32, if d.testBit (40 + i) then some (field w 32 32) else none) }

/-- An offset triple in the layout of R20, and back. -/
def tripleBits (t : Triple) : Nat := wrapTo 4 t.dx + wrapTo 4 t.dy * 16 + wrapTo 4 t.dz * 256

def tripleOf (v : Nat) : Triple := ⟨signed 4 v, signed 4 (field v 4 4), signed 4 (field v 8 4)⟩

/-- Adjacency entries and streams as dwords. -/
def adjDwords (base : Nat) (a : Vector Word 192) : List (Nat × Nat) :=
  (List.range 192).map fun i => (base + 8 * i, (vget a i 0).toNat)

def streamDwords (base : Nat) (st : Vector (BitVec 512) 16) : List (Nat × Nat) :=
  (List.range 128).map fun i => (base + 8 * i, field (vget st (i / 8) 0).toNat (64 * (i % 8)) 64)

def maskDwords (base : Nat) (m : BitVec 8192) : List (Nat × Nat) :=
  (List.range 128).map fun i => (base + 8 * i, field m.toNat (64 * i) 64)

/-- A value of `n` dwords read back. -/
def rdWide (rd : Nat → Nat) (base : Nat) : Nat → Nat
  | 0 => 0
  | n + 1 => rd base + 2 ^ 64 * rdWide rd (base + 8) n

/-- The captured state of an entry (R321). -/
def capturedDwords (base : Nat) (e : Entry) : List (Nat × Nat) :=
  let c := e.cap
  [(base, c.bshape.toNat), (base + 8, c.vtype.toNat), (base + 16, c.rseed.toNat),
   (base + 24, tripleBits c.off1 + tripleBits c.off2 * 2 ^ 12 + c.ovr % 4 * 2 ^ 24),
   (base + 0x640, e.w1 % 2 ^ 32 + e.w2 % 2 ^ 32 * 2 ^ 32), (base + 0x648, bit e.pair + bit c.nh * 2), (base + 0x650, c.fpctl.toNat),
   (base + 0x658, c.sc1.toNat), (base + 0x660, c.sc2.toNat)] ++
  adjDwords (base + 0x40) c.adj ++ streamDwords (base + 0x800) c.streams ++ maskDwords (base + 0xC00) c.mask

def capturedOf (rd : Nat → Nat) (base : Nat) : Captured where
  bshape := toWord (rd base)
  vtype := toWord (rd (base + 8))
  rseed := toWord (rd (base + 16))
  fpctl := toWord (rd (base + 0x650))
  off1 := tripleOf (rd (base + 24))
  off2 := tripleOf (field (rd (base + 24)) 12 12)
  ovr := field (rd (base + 24)) 24 2
  mask := BitVec.ofNat 8192 (rdWide rd (base + 0xC00) 128)
  adj := .ofFn fun i => toWord (rd (base + 0x40 + 8 * i.val))
  nadj := []
  streams := .ofFn fun i => BitVec.ofNat 512 (rdWide rd (base + 0x800 + 64 * i.val) 8)
  sc1 := toWord (rd (base + 0x658))
  sc2 := toWord (rd (base + 0x660))
  nh := (rd (base + 0x648)).testBit 1

/-- A trap bank as dwords (R319). -/
def bankDwords (base : Nat) (b : TrapBank) : List (Nat × Nat) :=
  (bankRegs.map fun i => (base + 8 * i, (bankReg b i).toNat)) ++ lapDwords (base + 0x200) b.lap ++
    (List.range b.ents.length).flatMap fun n =>
      match b.ents[n]? with
      | some e => capturedDwords (base + 0x1000 + 4096 * n) e
      | none => []

def entryOf (rd : Nat → Nat) (base n : Nat) : Entry :=
  let reg (i : Nat) := rd (base + 8 * i)
  let c := base + 0x1000 + 4096 * n
  { pc := toWord (reg (16 + 8 * n)), cnt := unpackCnt (reg (17 + 8 * n)), gs := reg (18 + 8 * n)
    lap := let t := reg (19 + 8 * n); if t.testBit 31 then some (field t 0 16, field t 16 4) else none
    bmap := if n = 0 then reg 7 else 0
    w1 := field (rd (c + 0x640)) 0 32, w2 := field (rd (c + 0x640)) 32 32, pair := (rd (c + 0x648)).testBit 0
    cap := capturedOf rd c }

/-- The tables of other harts an entry captured, for which the frame has no place (log 14). -/
def keepTables (e : Entry) (old : Option Entry) : Entry :=
  match old with
  | some o => { e with cap := { e.cap with nadj := o.cap.nadj } }
  | none => e

def bankOf (rd : Nat → Nat) (base : Nat) (old : TrapBank) : TrapBank :=
  let reg (i : Nat) := toWord (rd (base + 8 * i))
  { cause := reg 0 &&& causeMask, elem := reg 1, addr := reg 2, rpc := reg 3, word := reg 4, inf := reg 5 &&& infMask, sec := reg 6, bmap := reg 7
    ents := (List.range (min 4 (bitsOf (reg 5) 0 3))).map fun n => keepTables (entryOf rd base n) old.ents[n]?
    lap := lapOf rd (base + 0x200) }

/-- A weight as its `w` low bits, a scale as its bits. -/
def Tile.wt (t : Tile) (k j : Nat) : Nat := mgetN t.wts (4 * (64 * k + j)) 4

def Tile.sc (t : Tile) (b j : Nat) : Nat := mgetN t.scl (4 * (64 * b + j)) 4

/-- The rows of a tile as a dense image with pitch rb, then its scales (R216, R319). -/
def tileImage (t : Tile) : List Byte :=
  let w := (codeElem t.code).width
  let n := codeBlock t.code
  ((List.range 64).flatMap fun k => leBytes (8 * w) (packBits w ((List.range 64).map (t.wt k)))) ++
    (if n = 0 then []
     else (List.range (64 / n)).flatMap fun b => (List.range 64).flatMap fun j => leBytes (scaleBits t.code / 8) (t.sc b j))

/-- A tile built from its weights and scales by index. -/
def buildTile (code : Nat) (sparse : Bool) (wt sc : Nat → Nat → Nat) : Tile :=
  let n := codeBlock code
  { code, sparse
    wts := ((List.range 4096).foldl (fun m i => mputN m (4 * i) 4 (wt (i / 64) (i % 64))) [])
    scl := if n = 0 then [] else (List.range (64 * (64 / n))).foldl (fun m i => mputN m (4 * i) 4 (sc (i / 64) (i % 64))) [] }

def tileOfImage (code : Nat) (sparse : Bool) (byte : Nat → Byte) : Tile :=
  let w := (codeElem code).width
  let ss := scaleBits code / 8
  let row (k : Nat) := ofLe ((List.range (8 * w)).map fun i => byte (8 * w * k + i))
  buildTile code sparse (fun k j => streamField w j (row k))
    (fun b j => ofLe ((List.range ss).map fun i => byte (512 * w + (64 * b + j) * ss + i)))

/-! Copy channels and the latest routing operation (R319, R320; the places inside their areas: log 14). -/

/-- Codes of the states of a channel and of a routing operation, and back. -/
def ChanState.code : ChanState → Nat
  | .idle => 0
  | .running => 1
  | .faulted => 2

def chanStateOf : Nat → ChanState
  | 1 => .running
  | 2 => .faulted
  | _ => .idle

def RouteState.code : RouteState → Nat
  | .running => 0
  | .done => 1
  | .faulted => 2

def routeStateOf : Nat → RouteState
  | 1 => .done
  | 2 => .faulted
  | _ => .running

/-- How many statuses of a channel its area has room for. -/
def statusRoom : Nat := 224

/-- A channel as dwords from the start of its area: shadow set, next id, W, state with the refusal status and what a fault reports, the
faulting address, the statuses by id. -/
def channelDwords (base : Nat) (c : Channel) : List (Nat × Nat) :=
  ((List.range 24).map fun i => (base + 8 * i, field c.shadow.toNat (64 * i) 64)) ++
  [(base + 0xC0, c.next), (base + 0xC8, c.w),
   (base + 0xD0, c.refusal % 2 ^ 8 + c.st.code * 2 ^ 8 + bit c.reported * 2 ^ 10 + bit c.po * 2 ^ 11 + c.acc % 4 * 2 ^ 12 +
      c.cause % 2 ^ 8 * 2 ^ 16 + c.sub % 2 ^ 8 * 2 ^ 24), (base + 0xD8, c.addr)] ++
  (List.range statusRoom).map fun i =>
    (base + 0x100 + 8 * i, match c.stats[i]? with
      | some p => p.1 % 2 ^ 56 * 2 ^ 8 + p.2 % 2 ^ 8
      | none => 0)

/-- A channel read back; the descriptors of its copies, for which the area has no place, are those kept beside (log 14). -/
def channelOf (rd : Nat → Nat) (base : Nat) (old : Channel) : Channel :=
  let d := rd (base + 0xD0)
  { shadow := copyFields (BitVec.ofNat 1536 (rdWide rd base 24)), next := rd (base + 0xC0), w := rd (base + 0xC8), refusal := field d 0 8
    st := chanStateOf (field d 8 2), reported := d.testBit 10, po := d.testBit 11, acc := field d 12 2, cause := field d 16 8
    sub := field d 24 8, addr := rd (base + 0xD8), queue := old.queue
    stats := (((List.range statusRoom).map fun i => rd (base + 0x100 + 8 * i)).filterMap fun v =>
      if v % 256 = 0 then none else some (v / 256, v % 256)) ++ old.stats.drop statusRoom }

/-- The state of the latest routing operation from 0x488; bit 0 says that there is one. -/
def routeDwords : Option RouteOp → List (Nat × Nat)
  | none => [(0x488, 0)]
  | some r =>
    [(0x488, 1 + bit r.combine * 2 + r.st.code * 2 ^ 2 + bit r.reported * 2 ^ 4 + bit r.po * 2 ^ 5 + bit r.rerr * 2 ^ 6 + bit r.priv * 2 ^ 7 +
        r.cause % 2 ^ 8 * 2 ^ 8 + r.sub % 2 ^ 8 * 2 ^ 16 + r.acc % 4 * 2 ^ 24 + r.flags.toNat / 2 ^ 8 % 2 ^ 8 * 2 ^ 32),
     (0x490, r.num), (0x498, r.elem), (0x4A0, r.addr), (0x4A8, r.drops), (0x4B0, r.pc.toNat), (0x4B8, r.deadline.toNat)]

/-- The state of the latest routing operation read back; the descriptor it captured is kept beside (log 14). -/
def routeOf (rd : Nat → Nat) (old : Option RouteOp) : Option RouteOp :=
  let d := rd 0x488
  if !d.testBit 0 then none
  else
    some { num := rd 0x490, combine := d.testBit 1, desc := old.elim 0 RouteOp.desc, priv := d.testBit 7, pc := toWord (rd 0x4B0), deadline := toWord (rd 0x4B8)
           st := routeStateOf (field d 2 2), cause := field d 8 8, sub := field d 16 8, acc := field d 24 2, elem := rd 0x498
           addr := rd 0x4A0, po := d.testBit 5, reported := d.testBit 4, drops := rd 0x4A8, rerr := d.testBit 6
           flags := toWord (field d 32 8 * 2 ^ 8) }

/-- The deadline with the LATE enable as dword 0x020 holds them: [62:0] of the deadline, [63] the enable; bit 63 of the deadline stands at bit
40 of dword 0 (log 14). -/
def deadlineDword (h : Hart) : Nat := h.deadline.toNat % 2 ^ 63 + bit h.lateEn * 2 ^ 63

/-- The control section and the tables of the frame (R319, R320), as dwords by offset. Its tags say that nothing is dirty since this save
(R322). -/
def controlDwords (s : State) : List (Nat × Nat) :=
  let h := s.hart
  let claimed := decide (s.core.claimant = some h.idx)
  [(0x000, 1 + h.lanes % 64 * 2 ^ 16 + h.psize % 64 * 2 ^ 22 + h.depth % 4 * 2 ^ 28 + bit claimed * 2 ^ 32 + bit h.pinned * 2 ^ 33 +
      bit h.nh * 2 ^ 34 + bit h.swap * 2 ^ 35 + bit h.waiting * 2 ^ 36 + h.deadline.toNat / 2 ^ 63 * 2 ^ 40),
   (0x008, h.ptroot.toNat), (0x010, h.pc.toNat), (0x018, h.ctxid.toNat), (0x020, deadlineDword h), (0x028, h.stamp),
   (0x030, h.slot), (0x038, h.tvec.toNat),
   (0x180, h.fpctl.toNat), (0x188, h.rseed.toNat), (0x190, h.bshape.toNat), (0x198, h.vtype.toNat), (0x1A0, h.cycle.toNat),
   (0x1A8, h.instret.toNat), (0x1B0, h.tscr0.toNat), (0x1B8, h.tscr1.toNat),
   (0x300, h.stagValid.toNat * 2 ^ 16),
   (0x308, s.core.mvl + vget s.core.afmt 0 0 * 2 ^ 8 + vget s.core.afmt 1 0 * 2 ^ 16 + vget s.core.afmt 2 0 * 2 ^ 24 +
      vget s.core.afmt 3 0 * 2 ^ 32 + s.core.w0.code * 2 ^ 40 + bit s.core.w0.sparse * 2 ^ 47 + s.core.w1.code * 2 ^ 48 +
      bit s.core.w1.sparse * 2 ^ 55),
   (0x480, h.rnext), (0x4C0, h.slotN.kind + h.slotN.chan * 2 ^ 8), (0x4C8, h.slotN.value.toNat), (0x4D0, h.slotN.addr.toNat),
   (0x4D8, h.slotN.handler.toNat), (0x4E0, bit h.slotN.armed),
   (0x500, match h.arrival with
      | none => 0
      | some a => 1 + bit a.done * 2 + a.scope * 2 ^ 2 + a.id * 2 ^ 8 + a.inst * 2 ^ 16)] ++
  ((List.range 31).map fun i => (0x048 + 8 * i, (vget h.x (i + 1) 0).toNat)) ++
  ((List.range 8).map fun i => (0x140 + 8 * i, (vget h.shadow i 0).toNat)) ++
  ((List.range 8).map fun i => (0x1C0 + 8 * i, (vget h.perf i 0).toNat)) ++
  ((List.range 32).map fun i => (0x200 + 8 * i, (vget h.btag i (0, false)).1)) ++
  lapDwords 0x340 h.lap ++
  ((List.range 16).map fun i => (0x400 + 8 * i, field h.rdesc.toNat (64 * i) 64)) ++
  ((List.range 7).flatMap fun i => maskDwords (0x1000 + 1024 * i) (vget h.masks (i + 1) 0)) ++
  ((List.range 7).map fun i => (0x3000 + 8 * i, (vget h.offs (i + 1) 0).toNat)) ++
  adjDwords 0x3040 h.adj ++ streamDwords 0x3800 h.streams ++ bankDwords 0x4000 h.bank0 ++ bankDwords 0x9000 h.bank1 ++
  routeDwords h.rop ++ ((List.range 351).map fun i => (0x508 + 8 * i, 0)) ++
  ((List.range 4).flatMap fun c => channelDwords (0xE000 + 2048 * c) (vget h.chan c {}))

/-- The bricks a save writes (R322): of each register the bytes below its tag's vlen, when it is dirty or the frame is not the one
last restored. `at_` gives the place of a byte of the frame. -/
def saveBricks (h : Hart) (at_ : Nat → Nat) (m : Memory) : Memory :=
  (List.range 32).foldl (fun m n =>
    let t := vget h.btag n (0, false)
    if t.2 || h.restored != some h.frame then
      (List.range h.lanes).foldl (fun m l =>
        mreplace m (at_ (0x40000 + 8192 * n + 256 * l)) t.1 (mslice h.bricks (8192 * n + 256 * l) t.1)) m
    else m) m

def saveScratch (h : Hart) (at_ : Nat → Nat) (m : Memory) : Memory :=
  (List.range 16).foldl (fun m b =>
    if h.stagValid.getLsbD b && (h.stagDirty.getLsbD b || h.restored != some h.frame) then
      (List.range h.lanes).foldl (fun m l =>
        mreplace m (at_ (0x80000 + 16384 * l + 1024 * b)) 1024 (mslice h.scratch (16384 * l + 1024 * b) 1024)) m
    else m) m

/-- Place of a byte of a frame, which the save and the restore engine reach by physical address (R319). -/
def framePlace (s : State) (f o : Nat) : Nat := homeAddr s (f + o)

/-- Memory with the frame of the hart in hand written (R319 to R322). -/
def frameImage (s : State) : Memory :=
  let h := s.hart
  let at_ := framePlace s h.frame.toNat
  let m := (controlDwords s).foldl (fun m d => mputN m (at_ d.1) 8 d.2) s.memory
  let m := saveScratch h at_ (saveBricks h at_ m)
  if s.core.claimant = some h.idx then
    let m := mputs (mputs m (at_ 0x10000) (tileImage s.core.w0)) (at_ 0x18000) (tileImage s.core.w1)
    mreplace m (at_ 0x20000) 65536 s.core.acc
  else m

/-- The frame of the hart in hand written; no near cache keeps an older copy. -/
def saveFrame (s : State) : State :=
  (List.range 16).foldl (fun t i => dropNearPA t (framePlace s s.hart.frame.toNat (65536 * i)) 65536) { s with memory := frameImage s }

/-- The matrix state a frame holds, loaded into a core (R325). -/
def restoreMatrix (rd : Nat → Nat) (m : Memory) (at_ : Nat → Nat) (asid idx : Nat) (c : Core) : Core :=
  let d := rd 0x308
  { c with
    claimant := some idx, lastAsid := some asid, mvl := field d 0 8
    afmt := #v[field d 8 8, field d 16 8, field d 24 8, field d 32 8]
    w0 := tileOfImage (field d 40 5) (d.testBit 47) (fun i => mget m (at_ (0x10000 + i)))
    w1 := tileOfImage (field d 48 5) (d.testBit 55) (fun i => mget m (at_ (0x18000 + i)))
    acc := mslice m (at_ 0x20000) 65536 }

/-- The hart that a frame describes (R319 to R323), on the place and with the registers `at_` holds besides; `place` gives the place of a
byte of the frame. A hart inside a trap handler is in the privileged view (R304). Reserved bits of the registers stay 0 (R4). -/
def hartOfFrame (m : Memory) (place : Nat → Nat) (at_ : Hart) : Hart :=
  let rd (o : Nat) := mgetN m (place o) 8
  let w (o : Nat) := toWord (rd o)
  let d := rd 0
  let lanes := at_.lanes
  let btag : Vector (Nat × Bool) 32 := .ofFn fun i => (min 256 (field (rd (0x200 + 8 * i.val)) 0 9), (rd (0x200 + 8 * i.val)).testBit 63)
  let valid := BitVec.ofNat 16 (rd 0x300 / 2 ^ 16)
  let arr := rd 0x500
  { at_ with
    run := .running, depth := field d 28 2, priv := field d 28 2 != 0, pinned := d.testBit 33, nh := d.testBit 34, swap := false
    waiting := d.testBit 36, lateEn := (rd 0x020).testBit 63, ptroot := w 0x008 &&& 0x00FFFFFFFFFFFFFF, pc := alignPc (w 0x010)
    ctxid := BitVec.ofNat 32 (rd 0x018), deadline := toWord (rd 0x020 % 2 ^ 63 + field d 40 1 * 2 ^ 63)
    stamp := rd 0x028, tvec := alignPc (w 0x038)
    x := .ofFn fun i => if i.val = 0 then 0 else w (0x040 + 8 * i.val)
    shadow := .ofFn fun i => w (0x140 + 8 * i.val)
    fpctl := w 0x180 &&& (flagMask ||| 7), rseed := w 0x188, bshape := w 0x190 &&& shapeMask, vtype := w 0x198 &&& 15, cycle := w 0x1A0, instret := w 0x1A8
    tscr0 := w 0x1B0, tscr1 := w 0x1B8, perf := .ofFn fun i => w (0x1C0 + 8 * i.val)
    btag, stagDirty := BitVec.ofNat 16 (rd 0x300), stagValid := valid
    lap := lapOf rd 0x340
    rdesc := routeFields (BitVec.ofNat 1024 (rdWide rd 0x400 16)), rnext := rd 0x480, rop := routeOf rd at_.rop
    slotN := { armed := (rd 0x4E0).testBit 0, kind := field (rd 0x4C0) 0 8, chan := field (rd 0x4C0) 8 8, value := w 0x4C8
               addr := w 0x4D0, handler := w 0x4D8 }
    arrival := if arr.testBit 0 then some ⟨field arr 2 2, field arr 16 24, field arr 8 8, arr.testBit 1⟩ else none
    masks := .ofFn fun i => if i.val = 0 then 0 else BitVec.ofNat 8192 (rdWide rd (0x1000 + 1024 * (i.val - 1)) 128)
    offs := .ofFn fun i => if i.val = 0 then 0 else BitVec.ofNat 12 (rd (0x3000 + 8 * (i.val - 1)))
    adj := .ofFn fun i => w (0x3040 + 8 * i.val) &&& adjMask
    streams := .ofFn fun i => streamFields (BitVec.ofNat 512 (rdWide rd (0x3800 + 64 * i.val) 8))
    bank0 := bankOf rd 0x4000 at_.bank0, bank1 := bankOf rd 0x9000 at_.bank1
    chan := .ofFn fun c => channelOf rd (0xE000 + 2048 * c.val) (vget at_.chan c.val {})
    bricks := (List.range 32).foldl (fun b n => (List.range lanes).foldl (fun b l =>
        moverlay b (8192 * n + 256 * l) (mslice m (place (0x40000 + 8192 * n + 256 * l)) (vget btag n (0, false)).1)) b) []
    scratch := (List.range 16).foldl (fun b k =>
        if valid.getLsbD k then (List.range lanes).foldl (fun b l =>
          moverlay b (16384 * l + 1024 * k) (mslice m (place (0x80000 + 16384 * l + 1024 * k)) 1024)) b
        else b) []
    restored := some at_.frame }

end Sys2Proof.Machine
end

