-- ==== Sys2Proof/Machine/Ops.lean ====
section
/-!
DEFINITION. The shared operations of instructions: taking a trap and returning from one (R302 to R309), the page-fault swap (R326),
the end of a thread, saving and freeing a slot (R265, R324, R340), the checks every form shares (R118).
-/

namespace Sys2Proof.Machine

/-- What a meaning answers. -/
abbrev Result := Host.Outcome State Fault Refusal

/-- A trap about to be taken: cause, what it reports, where it resumes, what was in flight (R302 to R306). -/
structure Trap where
  cause : Nat
  sub : Nat := 0
  acc : Nat := 0
  fetch : Bool := false
  elem : Nat := 0
  addr : Word := 0
  /-- the walk ended at a paged-out entry (R326) -/
  po : Bool := false
  rpc : Word
  w1 : Nat
  w2 : Nat := 0
  pair : Bool := false
  ents : List Entry := []
  lg : Nat := 0
  sec : Nat := 0
  bmap : Nat := 0
deriving DecidableEq, Repr

/-- Bank `d` of the hart in hand: 0 and 1 are the trap registers, 2 holds the record of a swap at depth 2 (log 12). -/
def Hart.bank (h : Hart) (d : Nat) : TrapBank :=
  match d with
  | 0 => h.bank0
  | 1 => h.bank1
  | _ => h.bank2

def Hart.setBank (h : Hart) (d : Nat) (b : TrapBank) : Hart :=
  match d with
  | 0 => { h with bank0 := b }
  | 1 => { h with bank1 := b }
  | _ => { h with bank2 := b }

/-- TCAUSE (R305). -/
def tcauseOf (t : Trap) : Nat := t.cause % 256 + t.sub % 256 * 2 ^ 8 + t.acc % 4 * 2 ^ 22 + bit t.fetch * 2 ^ 24

/-- TINF (R306). -/
def tinfOf (h : Hart) (t : Trap) : Nat :=
  t.ents.length % 8 + bit t.pair * 2 ^ 3 + bit h.priv * 2 ^ 8 + ceilDiv h.lanes 8 % 8 * 2 ^ 9 + t.lg % 8 * 2 ^ 12

/-- The record of a trap, with the LAP continuation of a frame it was taken in (R302, R303, R308). -/
def recordOf (h : Hart) (t : Trap) : TrapBank where
  cause := toWord (tcauseOf t)
  elem := toWord t.elem
  addr := t.addr
  rpc := t.rpc
  word := toWord (t.w1 % 2 ^ 32 + (if t.pair then t.w2 % 2 ^ 32 * 2 ^ 32 else 0))
  inf := toWord (tinfOf h t)
  sec := toWord t.sec
  bmap := toWord t.bmap
  ents := t.ents
  lap := h.lap

/-- The slot with a number, and a change of it. -/
def slotAt (s : State) (n : Nat) : Slot := tget s.slots n {}

def onSlotEntry (s : State) (n : Nat) (f : Slot → Slot) : State := { s with slots := tset s.slots n (f (slotAt s n)) }

/-- Slot states of a bind of `psize` lanes: the slot itself, and the slots it covers (R339, R340). -/
def markSlots (s : State) (n psize own covered : Nat) : State :=
  (List.range (psize / 4)).foldl (fun s i => onSlotEntry s (n + i) fun x => { x with st := if i = 0 then own else covered }) s

/-- How many slots a bind at a slot covers besides it: those after it that stand covered (R339). The register field psize may have been
written again since the bind. -/
def coveredBy (s : State) (n : Nat) : Nat := ((List.range 7).takeWhile fun i => (slotAt s (n + 1 + i)).st == 1).length

/-- The slot and its covered slots become free (R340). -/
def freeSlot (s : State) (n : Nat) : State := markSlots s n (4 * (coveredBy s n + 1)) 0 0

/-- The array left without a claimant, its state unchanged (R211, R215). -/
def releaseArray (c : Core) (idx : Nat) : Core := if c.claimant = some idx then { c with claimant := none } else c

/-- How the thread of a graph's kernel node ended: 1 with its end publication, 2 without (R248, R345). -/
def noteGraphEnd (s : State) (src how : Nat) : State :=
  if src < 0x100 then s
  else
    let d := (src - 0x100) / 16
    let g := (src - 0x100) % 16
    schedule (onDie s d fun x => { x with graphs := x.graphs.map fun y => if y.id = g then { y with ended := how } else y }) (.graphNode d g)

/-- The thread of the hart in hand ends: the array is released, its slot is freed when the thread-end record is written (R265, R309,
R340, R342). `flags` are the low bits of p1; `how` as for a graph. -/
def endThread (s : State) (flags how : Nat) : State :=
  let h := s.hart
  let s := withCore s fun c => releaseArray c h.idx
  let s := emitHart s 4 h.tag (toWord (flags + h.slot * 2 ^ 32)) (some h.slot)
  let s := noteGraphEnd s h.src how
  dropShadows (withHart s fun h =>
    { h with
      run := .idle, own := [], snap := [], joins := [], inflight := [], held := none, lap := none, arrival := none, request := none, elems := []
      lateDue := false, waiting := false })

/-- A core as its reset leaves it: the array at its reset state and unclaimed, the lane map and the caps kept (R309). -/
def resetCore (c : Core) (crashes : Nat) : Core :=
  { claimant := none, lastAsid := none, lanemap := c.lanemap, vcap := c.vcap, mcap := c.mcap, hot := c.hot, badScratch := c.badScratch, crashes }

/-- One level of a crash record: a trap's registers (R309). -/
def crashLevel (b : TrapBank) : List Word :=
  [b.cause, b.elem, b.addr, b.rpc, b.word, bankReg b 16, bankReg b 17, b.inf]

/-- The crash record of a third-level trap (R309). -/
def crashRecord (s : State) (third : TrapBank) : List Word :=
  let h := s.hart
  [toWord (s.core.crashes + 1), s.time, toWord (h.cx + h.cy * 2 ^ 8 + h.idx % 8 * 2 ^ 16 + h.ctxid.toNat * 2 ^ 32), pstat h] ++
    crashLevel h.bank0 ++ crashLevel h.bank1 ++ crashLevel third ++ List.replicate 36 0

/-- Address of the crash record of the core in hand. -/
def crashAddr (s : State) : Nat := localPA s (0x17FF0000000 + 512 * s.hart.coreNo)

/-- A third-level trap crashes the core (R309): record, core-reset event, core reset, one thread-end event for each context. -/
def crashCore (s : State) (third : TrapBank) : State :=
  let a := crashAddr s
  let c := s.hart.coreNo
  let here := s.hart.slot
  let s := homeWrite s a ((crashRecord s third).flatMap fun w => leBytes 8 w.toNat)
  let s := emitHart s 2 (toWord a) s.time none
  let s := withCore s fun x => resetCore x (x.crashes + 1)
  let ends := (coreHarts s c).map Hart.slot
  let s := ends.foldl (fun s n => onSlot s n fun s => withHart (endThread s 1 2) fun h => { h with scratch := [] }) s
  focus s here

/-- The swap of a paged-out page (R326): the record goes into bank depth, the depth stays, and the context is saved from step 3 of
R324 on. -/
def beginSwap (s : State) (t : Trap) : State :=
  let s := withHart s fun h =>
    { h.setBank h.depth (recordOf h t) with lap := none, inflight := [], held := none, swap := true, run := .saving (h.run == .saving true) }
  schedule (onSlotEntry s s.hart.slot fun x => { x with st := 3 }) (.contextSaved s.hart.dieNo (s.hart.slot % 512))

/-- The trap of a held fault (R37): its instruction is entry 0 and the younger in-flight ones follow; the resume PC is the oldest
instruction that has not issued (R136), inside a repeat frame the one after the frame, whose position the LAP continuation holds (DEDUCED,
log 97). -/
def heldTrap (h : Hart) (f : Held) : Trap :=
  { cause := f.cause, sub := f.sub, acc := f.acc, elem := f.elem, addr := f.addr, po := f.po, rpc := h.pc, w1 := f.w1, w2 := f.w2
    pair := f.pair, ents := h.inflight, lg := f.lg, sec := f.sec, bmap := f.bmap }

/-- ENTERING A TRAP (R302): the page-fault swap for a paged-out page (R326), the crash of a third-level trap (R309), else the record
into bank depth, depth + 1, the privileged view, and the next fetch at TVEC. -/
def enterTrap (s : State) (t : Trap) : State :=
  if t.cause = 6 ∧ t.po then beginSwap s t
  else if 2 ≤ s.hart.depth then crashCore s (recordOf s.hart t)
  else
    withHart s fun h =>
      { h.setBank h.depth (recordOf h t) with
        lap := none, inflight := [], held := none, depth := h.depth + 1, priv := true, pc := alignPc h.tvec, waiting := false }

/-- TAKING A TRAP: when an older instruction has faulted, its fault is reported in place of the trap (R133, R305). -/
def takeTrap (s : State) (t : Trap) : State :=
  match s.hart.held with
  | some f => enterTrap s (heldTrap s.hart f)
  | none => enterTrap s t

/-- A held fault strikes: its trap is taken (R37). -/
def strike (s : State) : State :=
  match s.hart.held with
  | some f => enterTrap s (heldTrap s.hart f)
  | none => s

/-- A trap of the instruction at the program counter that takes no in-flight slot (R305). For an instance of a repeat frame TRPC is the PC
after the frame, and the LAP continuation holds the instance (DEDUCED, log 97). -/
def trapSelf (s : State) (cause sub acc elem : Nat) (addr : Word) : State :=
  takeTrap s { cause, sub, acc, elem, addr, rpc := s.hart.pc, w1 := s.hart.ir1, w2 := s.hart.ir2, pair := s.hart.irPair }

/-- The trap of an access that failed (R38, R305, R326). -/
def trapAccess (s : State) (f : AccFault) (acc elem : Nat) (va : Nat) : State :=
  takeTrap s { cause := f.cause, sub := f.sub, acc, elem, addr := toWord va, po := f.po, rpc := s.hart.pc, w1 := s.hart.ir1
               w2 := s.hart.ir2, pair := s.hart.irPair }

/-- The illegal-operand and illegal-instruction traps of the instruction at the program counter (R118, R132). -/
def illegalOperand (s : State) : State := trapSelf s 2 0 0 0 0

def illegalInstr (s : State) : State := trapSelf s 1 0 0 0 0

/-- A privileged form acts in the privileged view and raises the illegal-instruction trap in the other (R118, R129). -/
def privileged (s : State) (act : State → State) : State := if s.hart.priv then act s else illegalInstr s

/-- The entries of a bank that a return resumes, oldest first; entry 0 keeps its completion bitmap (R307). An entry that is skipped is dropped: it
counts in INSTRET no more, and RSEED does not advance for it (DESIGN CHOICE, log 105). -/
def resumedEntries (b : TrapBank) : List Entry :=
  ((List.range b.ents.length).filter fun n => !(bitsOf b.inf (4 + n) 1 == 1)).filterMap fun n => b.ents[n]?

/-- Resuming from bank `d` (R307, R308): its entries, its view, its LAP continuation, its resume PC. -/
def resumeBank (s : State) (d : Nat) : State :=
  withHart s fun h =>
    let b := h.bank d
    { h.setBank d { b with lap := none } with
      inflight := resumedEntries b, lap := b.lap, priv := bitsOf b.inf 8 1 == 1, pc := alignPc b.rpc }

/-- RETURN FROM A TRAP (R262, R307). -/
def returnFromTrap (s : State) : State :=
  if s.hart.depth = 0 then illegalOperand s
  else
    let d := s.hart.depth - 1
    resumeBank (withHart s fun h => { h with depth := d, instret := h.instret + 1, waiting := false }) d

/-- Whether the engines of the hart in hand have nothing left to do: every copy completed or faulted, every parcel it posted
confirmed or returned, no routing operation in flight (R230, R324). A faulted copy, with the copies that wait behind it, holds up neither the
save (R230) nor the end of the thread by yield, for which the spec does not say so: DESIGN CHOICE, log 104. -/
def enginesQuiet (s : State) : Bool :=
  s.hart.chan.toList.all (fun c => c.queue.isEmpty || c.st == .faulted) &&
    s.transit.all (fun t => t.ctxid != s.hart.ctxid) &&
    (match s.hart.rop with
      | some r => r.st != .running
      | none => true)

/-- The evicted bytes of one line written at their home, by a request under the deadline in force (R346); a home that fails reports them as one
entry of kind 4 (R53, R360). -/
def evictLine (s : State) (line : Nat) (bs : Table OwnByte) : State :=
  let mine := inLine s line bs
  match lineFault s line mine with
  | some f => lineFailed s line mine f
  | none => request s.hart.deadline (putOwn s mine) (line * 128) mine.length

/-- Unpublished bytes of the hart in hand sent home as evictions, not as a publication (R53, R324). -/
def evict (s : State) (which : OwnByte → Bool) : State :=
  let bs := (unsent s.hart).filter fun p => which p.2
  withHart ((linesOf s bs).foldl (fun t l => evictLine t l bs) s) fun h =>
    { h with own := h.own.map fun p => (p.1, { p.2 with home := p.2.home || (!p.2.pub && which p.2) }) }

/-- The save of the hart in hand (R324 steps 3 and 4): its bytes go home as evictions, the frame is written, the array and the slot
become free once the record is written (R342). -/
def saveContext (s : State) : State :=
  let s := evict s fun _ => true
  let h := s.hart
  let s := { saveFrame s with saved := h :: s.saved.filter (fun x => x.ctxid != h.ctxid) }
  let s := withCore s fun c => releaseArray c h.idx
  let bank := h.bank h.depth
  let s :=
    if h.swap then emitHart s 1 bank.addr (toWord (bitsOf bank.cause 22 2)) (some h.slot)
    else emitHart s 5 h.frame (toWord h.slot) (some h.slot)
  withHart s fun h => { h with run := .idle }

end Sys2Proof.Machine
end

