-- ==== Sys2Proof/Machine/Lap.lean ====
section
/-!
DEFINITION. The instances of a repeat frame (R178 to R181): which fields of a frame instruction take a stride, and the words of the
next instance.
-/

namespace Sys2Proof.Machine

/-- Which of vd, vs1 and vs2 name a brick in a word of majors 0x10 to 0x1C (R179). -/
def brickFields (w : Nat) : Bool × Bool × Bool :=
  let f := field w 0 3
  match field w 26 6 with
  | 0x10 | 0x11 | 0x13 => (true, true, true)
  | 0x12 => (true, true, decide (f ≠ 4 ∧ f ≠ 7))
  | 0x14 => (false, true, true)
  | 0x15 => (false, false, false)
  | 0x16 | 0x17 | 0x18 | 0x19 => (true, true, false)
  | 0x1A => (false, true, false)
  | 0x1B => (decide (f ≠ 1), decide (f = 1), false)
  | 0x1C => (true, true, decide (f = 3))
  | _ => (false, false, false)

/-- A register field of a word moved by a stride. -/
def moveField (w lo : Nat) (d : Int) : Nat := setField w lo 5 ((field w lo 5 : Int) + d).toNat

/-- Whether a moved register field still names a brick. -/
def fieldInRange (w lo : Nat) (d : Int) : Bool := decide (0 ≤ (field w lo 5 : Int) + d) && decide ((field w lo 5 : Int) + d ≤ 31)

/-- A frame word of replay `k` (R180). -/
def strideWord (l : Lap) (k w : Nat) : Nat :=
  let b := brickFields w
  let w := if b.1 then moveField w 21 (k * l.sd) else w
  let w := if b.2.1 then moveField w 16 (k * l.s1) else w
  if b.2.2 then moveField w 11 (k * l.s2) else w

/-- Whether every brick field of a frame word stays in range in replay `k` (R179). -/
def strideInRange (l : Lap) (k w : Nat) : Bool :=
  let b := brickFields w
  (!b.1 || fieldInRange w 21 (k * l.sd)) && (!b.2.1 || fieldInRange w 16 (k * l.s1)) && (!b.2.2 || fieldInRange w 11 (k * l.s2))

/-- The words of the next instance of a frame: the instruction word, and the second word of a pair. -/
def instanceWords (l : Lap) : Nat × Option Nat :=
  let p := l.frame.getD l.idx (0, none)
  match p.2 with
  | none => (strideWord l l.k p.1, none)
  | some w2 => (p.1, some (strideWord l l.k w2))

/-- Address of the frame word of the next instance (R181). -/
def instanceAddr (l : Lap) : Word :=
  l.base + toWord ((l.frame.take l.idx).foldl (fun n p => n + if p.2.isSome then 8 else 4) 0)

end Sys2Proof.Machine
end

