-- ==== Sys2Proof/Machine/Fetch.lean ====
section
/-!
DEFINITION. Fetching an instruction (R117, R118, R394), the clocks of a step (R150), whose turn it is (log 6), and the loader that
places one instruction where the next step fetches it (log 8).
-/

namespace Sys2Proof.Machine

/-- One word of an instruction fetch, read at its home (R394): of the values that R394 allows, always the current one of the home, and never
an unpublished store of the hart (DESIGN CHOICE, log 95). -/
def fetchWord (s : State) (va : Word) : State × Except AccFault Nat :=
  match translate (hartView s) 2 va.toNat s with
  | (s, .error f) => (s, .error f)
  | (s, .ok pa) =>
    match checkData s pa 4 with
    | .error f => (lastingError s pa 4, .error f)
    | .ok _ => (s, .ok (homeRead s pa 4))

/-- What a fetch at the program counter finds (R118): an instruction with its words, words that are no instruction, a fault
with its address, and with the prefix word where the second word of a pair faulted. -/
inductive Fetched where
  | instr (i : Instr) (w1 w2 : Nat) (pair : Bool)
  | illegal (w1 w2 : Nat) (pair : Bool)
  | fault (f : AccFault) (va : Word) (w1 : Option Nat)
deriving DecidableEq, Repr

/-- What the words of an instruction are (R117, R132). -/
def classify (w1 w2 : Nat) : Fetched :=
  match decodePair w1 w2 with
  | .ok (i, _) => .instr i w1 w2 (isOfs w1)
  | .error _ => .illegal w1 w2 (isOfs w1)

/-- The fetch at the program counter. -/
def fetch (s : State) : State × Fetched :=
  match fetchWord s s.hart.pc with
  | (s, .error f) => (s, .fault f s.hart.pc none)
  | (s, .ok w1) =>
    if isOfs w1 then
      match fetchWord s (s.hart.pc + 4) with
      | (s, .error f) => (s, .fault f (s.hart.pc + 4) (some w1))
      | (s, .ok w2) => (s, classify w1 w2)
    else (s, classify w1 0)

/-- Address of the instruction that runs next: of its frame word inside a LAP (R181). -/
def hereAddr (h : Hart) : Word :=
  match h.lap with
  | some l => instanceAddr l
  | none => h.pc

/-- The words of the instruction that runs, for its trap record (R303), and its address (R361). -/
def latch (s : State) (w1 w2 : Nat) (pair : Bool) : State :=
  withHart s fun h => { h with ir1 := w1, ir2 := if pair then w2 else 0, irPair := pair, irPc := hereAddr h }

/-- The trap of a fetch that faults (R118, R305). TWORD holds the prefix word where only the second word of a pair faulted; a first word that
faulted is not known (FREE VALUE, log 11). -/
def fetchFault (s : State) (f : AccFault) (va : Word) (w1 : Option Nat) : State :=
  takeTrap s { cause := f.cause, sub := f.sub, acc := 2, fetch := true, addr := va, po := f.po, rpc := s.hart.pc
               w1 := w1.getD (Config.trapWord s.tick) }

/-- A step's cycles on a hart: CYCLE and the stall counter while a thread is bound (R150, R266; FREE VALUES, log 7). -/
def clockHart (t : Nat) (h : Hart) : Hart :=
  if h.bound then
    { h with cycle := h.cycle + Config.cycles t h.slot, perf := vset h.perf 0 (vget h.perf 0 0 + Config.stalls t h.slot) }
  else h

/-- Time passes (R150; FREE VALUES, log 7): TIME, which never decreases, and the cycles of every hart. -/
def clock (s : State) : State :=
  { s with
    tick := s.tick + 1, time := heldSum s.time (Config.nanos s.tick), hart := clockHart s.tick s.hart
    others := s.others.map (clockHart s.tick) }

/-- Whether an armed notification's condition holds (R256, R258). -/
def conditionHolds (s : State) (kind chan : Nat) (value addr : Word) : Bool :=
  match kind with
  | 1 => decide (value.toNat < (vget s.hart.chan chan {}).w)
  | 2 =>
    match s.hart.rop with
    | some r => r.st != .running
    | none => true
  | 3 => s.arrived.any fun p => (tget s.arrq p.queue {}).en && (tget s.arrq p.queue {}).asid == asidOf s.hart.ptroot
  | _ => homeRead s addr.toNat 8 != value.toNat

/-- Whether the notification fires at this boundary (R258, R302). -/
def notifies (s : State) : Bool :=
  let n := s.hart.slotN
  n.armed && !s.hart.nh && decide (s.hart.depth = 0) && s.hart.request.isNone && conditionHolds s n.kind n.chan n.value n.addr

/-- Physical places the loader uses, all of this module, and the virtual address of the code. -/
def loadPC : Nat := 0x100000

def loadTable (s : State) (level : Nat) : Nat := localPA s (0x10000000 + 65536 * level)

/-- The loader (log 8): a thread bound on the hart in hand, whose page tables map one page, with an instruction at its program
counter; nothing older in flight, nothing else due. -/
def placeCode (s : State) (bs : List Byte) : State :=
  let m := mputs s.memory (loadTable s 3) bs
  let m := mputN m (loadTable s 2 + 8 * (loadPC / 65536)) 8 (loadTable s 3 + 0x37)
  let m := mputN m (loadTable s 1) 8 (loadTable s 2 + 1)
  let m := mputN m (loadTable s 0) 8 (loadTable s 1 + 1)
  { s with
    memory := m, power := .up, turns := [], agenda := [], tlb := [], forwards := [], badBytes := [], delays := []
    regs := { s.regs with winb := 0, fatb := 0, booted := true }
    hart := { s.hart with
      run := .running, pc := toWord loadPC, ptroot := toWord (loadTable s 0 + asidOf s.hart.ptroot), lap := none, inflight := []
      held := none, slotN := {}, request := none, elems := [] } }

end Sys2Proof.Machine
end

