-- ==== Sys2Proof/Machine/Scalar.lean ====
section
/-!
DEFINITION. Scalar instructions (R134 to R144): arithmetic, immediates, loads and stores, branches and jumps.
-/

namespace Sys2Proof.Machine

/-- A result written to xd, and completion (R138). -/
def finish (xd : Nat) (v : Word) (s : State) : Result := .next (retire (wx s xd v) 4)

/-- 1 or 0. -/
def truth (b : Bool) : Word := if b then 1 else 0

/-- The smaller or larger of two registers (R138). -/
def pick (first : Bool) (a b : Word) : Word := if first then a else b

/-- Bits [127:64] of the exact product, signed and unsigned (R138). -/
def mulHigh (a b : Word) : Word := BitVec.ofInt 64 (a.toInt * b.toInt / 2 ^ 64)

def mulHighZ (a b : Word) : Word := toWord (a.toNat * b.toNat / 2 ^ 64)

/-- Quotients and remainders with the border cases of R139. -/
def divS (a b : Word) : Word := if b = 0 then -1 else a.sdiv b

def divZ (a b : Word) : Word := if b = 0 then -1 else a / b

def remS (a b : Word) : Word := if b = 0 then a else a.srem b

def remZ (a b : Word) : Word := if b = 0 then a else a % b

def execAdd (xd xs1 xs2 : Nat) (s : State) : Result := finish xd (rx s xs1 + rx s xs2) s
def execSub (xd xs1 xs2 : Nat) (s : State) : Result := finish xd (rx s xs1 - rx s xs2) s
def execAnd (xd xs1 xs2 : Nat) (s : State) : Result := finish xd (rx s xs1 &&& rx s xs2) s
def execOr (xd xs1 xs2 : Nat) (s : State) : Result := finish xd (rx s xs1 ||| rx s xs2) s
def execXor (xd xs1 xs2 : Nat) (s : State) : Result := finish xd (rx s xs1 ^^^ rx s xs2) s
def execSll (xd xs1 xs2 : Nat) (s : State) : Result := finish xd (rx s xs1 <<< (bitsOf (rx s xs2) 0 6)) s
def execSrl (xd xs1 xs2 : Nat) (s : State) : Result := finish xd (rx s xs1 >>> (bitsOf (rx s xs2) 0 6)) s
def execSra (xd xs1 xs2 : Nat) (s : State) : Result := finish xd ((rx s xs1).sshiftRight (bitsOf (rx s xs2) 0 6)) s
def execSlt (xd xs1 xs2 : Nat) (s : State) : Result := finish xd (truth ((rx s xs1).slt (rx s xs2))) s
def execSltZ (xd xs1 xs2 : Nat) (s : State) : Result := finish xd (truth ((rx s xs1).ult (rx s xs2))) s
def execMin (xd xs1 xs2 : Nat) (s : State) : Result := finish xd (pick ((rx s xs1).slt (rx s xs2)) (rx s xs1) (rx s xs2)) s
def execMax (xd xs1 xs2 : Nat) (s : State) : Result := finish xd (pick ((rx s xs2).slt (rx s xs1)) (rx s xs1) (rx s xs2)) s
def execMinZ (xd xs1 xs2 : Nat) (s : State) : Result := finish xd (pick ((rx s xs1).ult (rx s xs2)) (rx s xs1) (rx s xs2)) s
def execMaxZ (xd xs1 xs2 : Nat) (s : State) : Result := finish xd (pick ((rx s xs2).ult (rx s xs1)) (rx s xs1) (rx s xs2)) s
def execClz (xd xs1 : Nat) (s : State) : Result := finish xd (toWord (leadingZeros 64 (rx s xs1).toNat)) s
def execPopc (xd xs1 : Nat) (s : State) : Result := finish xd (toWord (popCount 64 (rx s xs1).toNat)) s
def execSel (xd xs1 xs2 : Nat) (s : State) : Result := finish xd (pick (rx s xd != 0) (rx s xs1) (rx s xs2)) s
def execMul (xd xs1 xs2 : Nat) (s : State) : Result := finish xd (rx s xs1 * rx s xs2) s
def execMulh (xd xs1 xs2 : Nat) (s : State) : Result := finish xd (mulHigh (rx s xs1) (rx s xs2)) s
def execMulhZ (xd xs1 xs2 : Nat) (s : State) : Result := finish xd (mulHighZ (rx s xs1) (rx s xs2)) s
def execDiv (xd xs1 xs2 : Nat) (s : State) : Result := finish xd (divS (rx s xs1) (rx s xs2)) s
def execDivZ (xd xs1 xs2 : Nat) (s : State) : Result := finish xd (divZ (rx s xs1) (rx s xs2)) s
def execRem (xd xs1 xs2 : Nat) (s : State) : Result := finish xd (remS (rx s xs1) (rx s xs2)) s
def execRemZ (xd xs1 xs2 : Nat) (s : State) : Result := finish xd (remZ (rx s xs1) (rx s xs2)) s

/-! Immediate forms (R140). -/

def execAddi (xd xs1 imm : Nat) (s : State) : Result := finish xd (rx s xs1 + sext 16 imm) s
def execAndi (xd xs1 imm : Nat) (s : State) : Result := finish xd (rx s xs1 &&& zext 16 imm) s
def execOri (xd xs1 imm : Nat) (s : State) : Result := finish xd (rx s xs1 ||| zext 16 imm) s
def execXori (xd xs1 imm : Nat) (s : State) : Result := finish xd (rx s xs1 ^^^ zext 16 imm) s
def execSlli (xd xs1 amt : Nat) (s : State) : Result := finish xd (rx s xs1 <<< amt) s
def execSrli (xd xs1 amt : Nat) (s : State) : Result := finish xd (rx s xs1 >>> amt) s
def execSrai (xd xs1 amt : Nat) (s : State) : Result := finish xd ((rx s xs1).sshiftRight amt) s
def execSlti (xd xs1 imm : Nat) (s : State) : Result := finish xd (truth ((rx s xs1).slt (sext 16 imm))) s
def execLui (xd imm : Nat) (s : State) : Result := finish xd (sext 21 imm * 65536) s
def execAddpc (xd imm : Nat) (s : State) : Result := finish xd (s.hart.pc + sext 21 imm * 65536) s

/-! Loads and stores (R141). -/

/-- Address of a scalar access: base plus a signed byte offset, wrapping (R130, R141). -/
def scalarAddr (s : State) (xs1 imm : Nat) : Word := rx s xs1 + sext 13 imm

/-- A loaded value of `n` bytes as a register value. -/
def extend (n : Nat) (sg : Bool) (v : Nat) : Word := if sg then sext (8 * n) v else zext (8 * n) v

/-- A scalar load of `n` bytes (R141): misaligned, then the causes of the access, then the value. -/
def scalarLoad (n : Nat) (sg : Bool) (xd xs1 imm : Nat) (s : State) : Result :=
  let va := scalarAddr s xs1 imm
  if va.toNat % n ≠ 0 then .next (trapSelf s 3 0 0 0 va)
  else
    match load va.toNat n 1 s with
    | (s, .error f) => .next (trapAccess s f 0 0 va.toNat)
    | (s, .ok v) => finish xd (extend n sg v) s

/-- A scalar store of `n` bytes (R141). -/
def scalarStore (n : Nat) (xd xs1 imm : Nat) (s : State) : Result :=
  let va := scalarAddr s xs1 imm
  if va.toNat % n ≠ 0 then .next (trapSelf s 3 0 1 0 va)
  else
    match store va.toNat (leBytes n (rx s xd).toNat) 1 s with
    | (s, .error f) => .next (trapAccess s f 1 0 va.toNat)
    | (s, .ok _) => .next (retire s 4)

def execLdsS8 (xd xs1 imm : Nat) (s : State) : Result := scalarLoad 1 true xd xs1 imm s
def execLdsZ8 (xd xs1 imm : Nat) (s : State) : Result := scalarLoad 1 false xd xs1 imm s
def execLdsS16 (xd xs1 imm : Nat) (s : State) : Result := scalarLoad 2 true xd xs1 imm s
def execLdsZ16 (xd xs1 imm : Nat) (s : State) : Result := scalarLoad 2 false xd xs1 imm s
def execLdsS32 (xd xs1 imm : Nat) (s : State) : Result := scalarLoad 4 true xd xs1 imm s
def execLdsZ32 (xd xs1 imm : Nat) (s : State) : Result := scalarLoad 4 false xd xs1 imm s
def execLdsZ64 (xd xs1 imm : Nat) (s : State) : Result := scalarLoad 8 false xd xs1 imm s
def execStsZ8 (xd xs1 imm : Nat) (s : State) : Result := scalarStore 1 xd xs1 imm s
def execStsZ16 (xd xs1 imm : Nat) (s : State) : Result := scalarStore 2 xd xs1 imm s
def execStsZ32 (xd xs1 imm : Nat) (s : State) : Result := scalarStore 4 xd xs1 imm s
def execStsZ64 (xd xs1 imm : Nat) (s : State) : Result := scalarStore 8 xd xs1 imm s

/-! Branches and jumps (R143, R144). -/

/-- Target of a branch or jump: a signed count of words from the instruction (R130). -/
def wordTarget (s : State) (n off : Nat) : Word := s.hart.pc + sext n off * 4

/-- A branch (R143). -/
def branch (taken : Bool) (off : Nat) (s : State) : Result :=
  .next (retireTo s (if taken then wordTarget s 13 off else s.hart.pc + 4))

def execBeq (xs1 xs2 off : Nat) (s : State) : Result := branch (rx s xs1 == rx s xs2) off s
def execBne (xs1 xs2 off : Nat) (s : State) : Result := branch (rx s xs1 != rx s xs2) off s
def execBlt (xs1 xs2 off : Nat) (s : State) : Result := branch ((rx s xs1).slt (rx s xs2)) off s
def execBge (xs1 xs2 off : Nat) (s : State) : Result := branch (!(rx s xs1).slt (rx s xs2)) off s
def execBltZ (xs1 xs2 off : Nat) (s : State) : Result := branch ((rx s xs1).ult (rx s xs2)) off s
def execBgeZ (xs1 xs2 off : Nat) (s : State) : Result := branch (!(rx s xs1).ult (rx s xs2)) off s

/-- A jump: the link, then the target (R144). -/
def jump (xd : Nat) (t : Word) (s : State) : Result := .next (retireTo (wx s xd (s.hart.pc + 4)) t)

def execJal (xd off : Nat) (s : State) : Result := jump xd (wordTarget s 21 off) s

def execJalr (xd xs1 imm : Nat) (s : State) : Result :=
  let t := rx s xs1 + sext 16 imm * 4
  if t.toNat % 4 ≠ 0 then .next (trapSelf s 3 0 2 0 t) else jump xd t s

end Sys2Proof.Machine
end

