-- ==== Sys2Proof/Machine/Csr.lean ====
section
/-!
DEFINITION. Control and status registers (R73, R145 to R151, R303).
-/

namespace Sys2Proof.Machine

/-- The bits of TINF that are writable (R306). -/
def skipMask : Word := 0xF0

/-- Whether a register number exists (R146, R303). -/
def csrExists (n : Nat) : Bool :=
  [0x001, 0x002, 0x010, 0x011, 0x012, 0x013, 0x020, 0x021, 0x022, 0x800, 0x801, 0x802, 0x803, 0x810, 0x811].contains n ||
    (decide (0x900 ≤ n) && bankRegs.contains (n - 0x900))

/-- The trap-record registers of the bank in use; 0 at depth 0 (R303). -/
def trapReg (h : Hart) (i : Nat) : Word := if h.depth = 0 then 0 else bankReg (h.bank (h.depth - 1)) i

/-- The value of a register. -/
def csrValue (s : State) (n : Nat) : Word :=
  let h := s.hart
  match n with
  | 0x001 => h.fpctl
  | 0x002 => h.rseed
  | 0x010 => h.bshape
  | 0x011 => h.vtype
  | 0x012 => toWord h.maxvl
  | 0x013 => hloc s
  | 0x020 => h.cycle
  | 0x021 => h.instret
  | 0x022 => s.time
  | 0x800 => pstat h
  | 0x801 => h.tvec
  | 0x802 => h.tscr0
  | 0x803 => h.tscr1
  | 0x810 => h.ptroot
  | 0x811 => h.ctxid.setWidth 64
  | _ => if 0x900 ≤ n then trapReg h (n - 0x900) else 0

/-- FPCTL after a write: reserved bits stay 0, and rm keeps its value when 5, 6 or 7 is written (R73). -/
def fpctlWrite (old new : Word) : Word :=
  (new &&& flagMask) ||| (if bitsOf new 0 3 < 5 then new &&& 7 else old &&& 7)

/-- Whether BSHAPE may take a value: every extent 1 to 8,192 (R12, R148). -/
def shapeLegal (b : Word) : Bool :=
  decide (1 ≤ shapeX b) && decide (shapeX b ≤ 8192) && decide (1 ≤ shapeY b) && decide (shapeY b ≤ 8192) &&
    decide (1 ≤ shapeZ b) && decide (shapeZ b ≤ 8192)

/-- Whether VTYPE may take a value (R13, R148). -/
def typeLegal (v : Word) : Bool := decide (bitsOf v 0 4 < 12)

/-- A change of the bank in use; nothing at depth 0 (R303). -/
def onBank (h : Hart) (f : TrapBank → TrapBank) : Hart :=
  if h.depth = 0 then h else h.setBank (h.depth - 1) (f (h.bank (h.depth - 1)))

/-- The hart in hand after a write of a register, field by field (R145). Read-only fields keep their values. -/
def csrWrite (h : Hart) (n : Nat) (v : Word) : Hart :=
  match n with
  | 0x001 => { h with fpctl := fpctlWrite h.fpctl v }
  | 0x002 => { h with rseed := v }
  | 0x010 => { h with bshape := v &&& shapeMask }
  | 0x011 => { h with vtype := v &&& 15 }
  | 0x801 => { h with tvec := v &&& ~~~3#64 }
  | 0x802 => { h with tscr0 := v }
  | 0x803 => { h with tscr1 := v }
  | 0x810 => { h with ptroot := v &&& 0x00FFFFFFFFFFFFFF }
  | 0x903 => onBank h fun b => { b with rpc := v }
  | 0x905 => onBank h fun b => { b with inf := (b.inf &&& ~~~skipMask) ||| (v &&& skipMask) }
  | _ => h

/-- Whether a write is refused with the illegal-operand trap (R148). -/
def csrRefused (n : Nat) (v : Word) : Bool := (n == 0x010 && !shapeLegal v) || (n == 0x011 && !typeLegal v)

/-- A CSR instruction (R145): `new` is formed from the old value. -/
def csrAccess (xd csr : Nat) (write : Bool) (new : Word → Word) (s : State) : Result :=
  if !csrExists csr || (decide (0x800 ≤ csr) && !s.hart.priv) then .next (illegalInstr s)
  else
    let old := csrValue s csr
    if write && csrRefused csr (new old) then .next (illegalOperand s)
    else finish xd old (if write then withHart s fun h => csrWrite h csr (new old) else s)

def execCsrrw (xd xs1 csr : Nat) (s : State) : Result := csrAccess xd csr true (fun _ => rx s xs1) s
def execCsrrs (xd xs1 csr : Nat) (s : State) : Result := csrAccess xd csr (xs1 != 0) (fun old => old ||| rx s xs1) s
def execCsrrc (xd xs1 csr : Nat) (s : State) : Result := csrAccess xd csr (xs1 != 0) (fun old => old &&& ~~~(rx s xs1)) s

end Sys2Proof.Machine
end

