-- ==== Sys2Proof/Machine/Operands.lean ====
section
/-!
DEFINITION. Brick operands: where an element lies (R16, R168), what an offset read reaches (R19 to R32), what an instruction captures
at issue (R153, R184), stream addresses (R183).
-/

namespace Sys2Proof.Machine

/-! Elements (R16). -/

/-- The `s` bytes of element `e` of a brick register in a store of `L` lanes. -/
def elemAt (b : Memory) (L s reg e : Nat) : Nat := mgetN b (8192 * reg + 256 * (e % L) + e / L * s) s

/-- A brick register's tag after bytes up to `top` of a lane's part are written (R322). -/
def tagWrite (t : Vector (Nat × Bool) 32) (reg top : Nat) : Vector (Nat × Bool) 32 :=
  vset t reg (max (vget t reg (0, false)).1 top, true)

/-- Element `e` of a brick register of the hart in hand written (R16, R18). -/
def putElem (s : State) (size reg e v : Nat) : State :=
  withHart s fun h =>
    { h with
      bricks := mputN h.bricks (8192 * reg + 256 * (e % h.lanes) + e / h.lanes * size) size v
      btag := tagWrite h.btag reg (e / h.lanes * size + size) }

/-- `n` bytes at an offset of a lane's scratchpad written, with the tags of their blocks (R46, R322). -/
def putScratch (s : State) (lane o n v : Nat) : State :=
  withHart s fun h =>
    let t := (1#16 <<< (o / 1024)) ||| (1#16 <<< ((o + n - 1) / 1024))
    { h with scratch := mputN h.scratch (16384 * lane + o) n v, stagDirty := h.stagDirty ||| t, stagValid := h.stagValid ||| t }

/-- Bits `lo` to `lo + w - 1` of a lane's part of a register as a bit stream (R84, R168). -/
def laneBits (b : Memory) (reg lane lo w : Nat) : Nat :=
  field (mgetN b (8192 * reg + 256 * lane + lo / 8) ((lo % 8 + w + 7) / 8)) (lo % 8) w

/-- Element `e` of width `w` of a packed brick (R168), and its write, which changes no other bit. -/
def packedAt (b : Memory) (L w reg e : Nat) : Nat := laneBits b reg (e % L) (w * (e / L)) w

def putPacked (s : State) (w reg e v : Nat) : State :=
  withHart s fun h =>
    let lo := w * (e / h.lanes)
    let n := (lo % 8 + w + 7) / 8
    let a := 8192 * reg + 256 * (e % h.lanes) + lo / 8
    { h with
      bricks := mputN h.bricks a n (setField (mgetN h.bricks a n) (lo % 8) w v)
      btag := tagWrite h.btag reg (lo / 8 + n) }

/-- Extents of a captured shape, and the coordinates of an element. -/
def Captured.nx (c : Captured) : Nat := shapeX c.bshape
def Captured.ny (c : Captured) : Nat := shapeY c.bshape
def Captured.nz (c : Captured) : Nat := shapeZ c.bshape
def Captured.n (c : Captured) : Nat := shapeN c.bshape
def Captured.ety (c : Captured) : Nat := bitsOf c.vtype 0 4
def Captured.size (c : Captured) : Nat := etypeSize c.ety

def Captured.ex (c : Captured) (e : Nat) : Nat := e % c.nx
def Captured.ey (c : Captured) (e : Nat) : Nat := e / c.nx % c.ny
def Captured.ez (c : Captured) (e : Nat) : Nat := e / (c.nx * c.ny)

def Captured.index (c : Captured) (x y z : Nat) : Nat := x + c.nx * (y + c.ny * z)

/-- Whether an element is active (R6, R157). -/
def Captured.active (c : Captured) (e : Nat) : Bool := decide (e < c.n) && c.mask.getLsbD e

/-- A mask register's value: M0 reads all ones (R9). -/
def maskReg (h : Hart) (m : Nat) : BitVec 8192 := if m = 0 then BitVec.allOnes 8192 else vget h.masks m 0

/-- A mask bit written; a write to M0 is discarded (R157). -/
def putMaskBit (s : State) (md e : Nat) (b : Bool) : State :=
  if md = 0 then s
  else withHart s fun h =>
    let m := vget h.masks md 0
    { h with masks := vset h.masks md (if b then m ||| (1#8192 <<< e) else m &&& ~~~(1#8192 <<< e)) }

/-! Streams (R182, R183). -/

/-- A stream register's fields. -/
def stBase (r : BitVec 512) : Nat := field r.toNat 0 55
def stStride (r : BitVec 512) (axis : Nat) : Int := signed 64 (field r.toNat (64 + 64 * axis) 64)
def stExtent (r : BitVec 512) (axis : Nat) : Nat := field r.toNat (256 + 32 * axis) 32
def stEsize (r : BitVec 512) : Nat := 2 ^ field r.toNat 352 2
def stAhead (r : BitVec 512) : Nat := field r.toNat 360 4
def stPos (r : BitVec 512) (axis : Nat) : Nat := field r.toNat (384 + 32 * axis) 32

/-- Whether a tensor coordinate lies inside (R183), and its address, exact. -/
def stInside (r : BitVec 512) (x y z : Int) : Bool :=
  decide (0 ≤ x) && decide (x < stExtent r 0) && decide (0 ≤ y) && decide (y < stExtent r 1) && decide (0 ≤ z) && decide (z < stExtent r 2)

def stAddr (r : BitVec 512) (x y z : Int) : Int := stBase r + x * stStride r 0 + y * stStride r 1 + z * stStride r 2

/-! Offset reads (R19 to R32). -/

/-- Where a read stands after some axes (R25): in a register of a hart of the core (none for the reading hart), in a scratchpad halo, in
a stream halo, or ended with zero. -/
inductive Stand where
  | reg (owner : Option Nat) (r : Nat)
  | scratch (base pitch : Nat)
  | stream (n : Nat)
  | zero
deriving DecidableEq, Repr

/-- The hart of the core in hand with an index. -/
def coreHartIdx (s : State) (i : Nat) : Option Hart := (coreHarts s s.hart.coreNo).find? fun h => h.idx == i

/-- The entry of a face of a register in the table of its hart (R21). -/
def adjEntry (c : Captured) (owner : Option Nat) (r face : Nat) : Word :=
  match owner with
  | none => vget c.adj (6 * r + face) 0
  | some i =>
    match c.nadj.find? (fun p => p.1 == i) with
    | some p => vget p.2 (6 * r + face) 0
    | none => 0

def adjKind (w : Word) : Nat := bitsOf w 0 4
def adjReg (w : Word) : Nat := bitsOf w 4 5
def adjHart (w : Word) : Nat := bitsOf w 9 3
def adjBase (w : Word) : Nat := bitsOf w 16 14
def adjPitch (w : Word) : Nat := bitsOf w 32 9

/-- An owner by hart index: the reading hart itself is none. -/
def ownerOf (self i : Nat) : Option Nat := if i = self then none else some i

/-- A coordinate displaced by one extent (R24). -/
def displaced (v n : Int) : Int := if v < 0 then v + n else v - n

/-- A crossing of a face (R22 to R24, R28, R30): where the read then stands, and its coordinate. -/
def cross (self : Nat) (kind : Nat) (w : Word) (owner : Option Nat) (r : Nat) (v n : Int) : Stand × Int :=
  match kind with
  | 0 => (.zero, 0)
  | 1 => (.reg owner r, if v < 0 then 0 else n - 1)
  | 2 => (.reg owner r, displaced v n)
  | 3 => (.reg owner r, if v < 0 then -v - 1 else 2 * n - 1 - v)
  | 4 => (.reg owner (adjReg w), displaced v n)
  | 5 => (.reg (ownerOf self (adjHart w)) (adjReg w), displaced v n)
  | 6 => (.scratch (adjBase w) (adjPitch w), displaced v n)
  | _ => (.stream (adjReg w % 16), displaced v n)

/-- The boundary kind an override stands for (R31). -/
def overrideKind (ovr : Nat) : Nat := ovr - 1

/-- One axis of the composition rule (R25, R29, R30; log 19): the coordinate `v` on an axis of extent `n`, whose faces are `face` and `face + 1`. -/
def stepAxis (c : Captured) (self : Nat) (st : Stand) (v : Int) (n face : Nat) : Stand × Int :=
  if 0 ≤ v ∧ v < n then (st, v)
  else
    match st with
    | .reg owner r =>
      let w := adjEntry c owner r (if v < 0 then face else face + 1)
      let kind := if c.ovr = 0 then adjKind w else overrideKind c.ovr
      cross self kind w owner r v n
    | .scratch _ _ => (.zero, 0)
    | .stream k => (.stream k, displaced v n)
    | .zero => (.zero, 0)

/-- Where the element at an offset stands, and its coordinates (R25). -/
def resolve (c : Captured) (self reg e : Nat) (off : Triple) : Stand × Int × Int × Int :=
  let a := stepAxis c self (.reg none reg) (c.ex e + off.dx) c.nx 0
  let b := stepAxis c self a.1 (c.ey e + off.dy) c.ny 2
  let d := stepAxis c self b.1 (c.ez e + off.dz) c.nz 4
  (d.1, a.2, b.2, d.2)

/-- An element fault: why, and the address. -/
structure ElemFault where
  why : AccFault
  acc : Nat
  va : Nat
deriving DecidableEq, Repr

/-- The address checks of an element at an exact address (R38, R187). -/
def addrCheck (a : Int) (n acc : Nat) : Except ElemFault Nat :=
  if a % n ≠ 0 then .error ⟨{ cause := 3 }, acc, wrapTo 64 a⟩
  else if a < 0 ∨ 2 ^ 55 ≤ a then .error ⟨{ cause := 4 }, acc, wrapTo 64 a⟩
  else .ok a.toNat

/-- A memory element read by the hart (R54, R187), counted under `kind`. -/
def readElem (s : State) (a : Int) (n kind : Nat) : State × Except ElemFault Nat :=
  match addrCheck a n 0 with
  | .error f => (s, .error f)
  | .ok va =>
    match load va n kind s with
    | (s, .error f) => (s, .error ⟨f, 0, va⟩)
    | (s, .ok v) => (s, .ok v)

/-- A memory element's write checked and translated, before it is made (R191, R198, R226). -/
def checkWrite (s : State) (a : Int) (n : Nat) : State × Except ElemFault Nat :=
  match addrCheck a n 1 with
  | .error f => (s, .error f)
  | .ok va =>
    match translate (hartView s) 1 va s with
    | (s, .error f) => if f.data then (s, .ok va) else (s, .error ⟨f, 1, va⟩)
    | (s, .ok _) => (s, .ok va)

/-- Which counter an access of a stream adds to: 0 when its innermost stride is the element size (R317). -/
def strideKind (stride : Int) (n : Nat) : Nat := if stride = n then 0 else 1

/-- A tensor element read through a stream; outside the tensor it is zero and no access is made (R183, R187). -/
def readStream (s : State) (r : BitVec 512) (x y z : Int) : State × Except ElemFault Nat :=
  if stInside r x y z then readElem s (stAddr r x y z) (stEsize r) (strideKind (stStride r 0) (stEsize r)) else (s, .ok 0)

/-- The lowest of some scratchpad bytes of an effective lane of the hart in hand that has a lasting uncorrectable error (R43, R385). -/
def badScratch (s : State) (lane : Nat) (os : List Nat) : Option Nat :=
  os.find? fun o => s.core.badScratch.any fun b =>
    b % 16384 == o && physicalLane s.core (logicalLane s.core s.hart.lbase s.hart.psize lane) == some (b / 16384)

/-- The fault of scratchpad data that cannot be corrected (R209, R385); TADDR holds the offset for SPLD (R303). -/
def scratchFault (o : Nat) : ElemFault := ⟨{ cause := 12, sub := 6, data := true }, 0, o⟩

/-- A read that meets scratchpad byte `o` of an effective lane: the error is counted and reported (R384, R387). -/
def scratchError (s : State) (lane o : Nat) : State :=
  match physicalLane s.core (logicalLane s.core s.hart.lbase s.hart.psize lane) with
  | some p => arrayLasting s s.hart.coreNo 4 p o true
  | none => s

/-- The offsets of the bytes of a scratchpad halo's element in its slice (R28). -/
def haloBytes (h : Hart) (base pitch e size : Nat) : List Nat :=
  (List.range size).map fun i => (base + pitch * (e / h.lanes) + i) % 16384

/-- A byte of a scratchpad halo's element wraps in its slice (R28). -/
def haloElem (h : Hart) (base pitch e size : Nat) : Nat :=
  ofLe ((haloBytes h base pitch e size).map fun o => mget h.scratch (16384 * (e % h.lanes) + o))

/-- `adj_read(reg, e, off)` for elements of `size` bytes (R25). A kind-6 entry that stands in another hart's table names the scratchpad of the
reading hart, laid out by its lane count (DESIGN CHOICE, log 87). A kind-7 entry there names the reading hart's captured stream (DESIGN
CHOICE, log 88), and a stream halo gives elements of the stream's element size, whatever `size` is (DESIGN CHOICE, log 89). A hart that has
ended since the issue reads as 0 (DESIGN CHOICE, log 90). -/
def adjRead (s : State) (c : Captured) (reg e : Nat) (off : Triple) (size : Nat) : State × Except ElemFault Nat :=
  let (st, x, y, z) := resolve c s.hart.idx reg e off
  let i := c.index x.toNat y.toNat z.toNat
  match st with
  | .zero => (s, .ok 0)
  | .reg none r => (s, .ok (elemAt s.hart.bricks s.hart.lanes size r i))
  | .reg (some k) r =>
    match coreHartIdx s k with
    | some h => (s, .ok (elemAt h.bricks h.lanes size r i))
    | none => (s, .ok 0)
  | .scratch base pitch =>
    match badScratch s (i % s.hart.lanes) (haloBytes s.hart base pitch i size) with
    | some b => (scratchError s (i % s.hart.lanes) b, .error (scratchFault 0))
    | none => (s, .ok (haloElem s.hart base pitch i size))
  | .stream n =>
    let r := vget c.streams n 0
    readStream s r (stPos r 0 + x) (stPos r 1 + y) (stPos r 2 + z)

/-! What a read can use (R26, R32, R184). -/

/-- Where reads can stand after an axis with displacement `d`, and the entries they use there. -/
def reachAxis (c : Captured) (self : Nat) (d : Int) (n face : Nat) (from_ : List Stand) : List Stand × List Word :=
  if d = 0 then (from_, [])
  else
    let stay := if d.natAbs < n then from_ else []
    let step (st : Stand) : List Stand × List Word :=
      match st with
      | .reg owner r =>
        if c.ovr ≠ 0 then ([.reg owner r], [])
        else
          let w := adjEntry c owner r (if d < 0 then face else face + 1)
          ([(cross self (adjKind w) w owner r 0 1).1], [w])
      | st => ([st], [])
    ((stay ++ from_.flatMap fun st => (step st).1).dedup, from_.flatMap fun st => (step st).2)

/-- Every place a source at an offset can stand on its way, and every entry its reads can use (R25). -/
def reach (c : Captured) (self reg : Nat) (off : Triple) : List Stand × List Word :=
  let s0 : List Stand := [.reg none reg]
  let a := reachAxis c self off.dx c.nx 0 s0
  let b := reachAxis c self off.dy c.ny 2 a.1
  let d := reachAxis c self off.dz c.nz 4 b.1
  (s0 ++ a.1 ++ b.1 ++ d.1, a.2 ++ b.2 ++ d.2)

/-- The magnitude check of an offset (R19). -/
def offsetFits (c : Captured) (off : Triple) : Bool :=
  decide (off.dx.natAbs ≤ c.nx) && decide (off.dy.natAbs ≤ c.ny) && decide (off.dz.natAbs ≤ c.nz)

/-- The check of one entry a read can use: kind 5 (R26), kind 7 (R184), which names a stream of the reading hart in whichever table it stands
(DESIGN CHOICE, log 88). -/
def entryFits (s : State) (c : Captured) (w : Word) : Bool :=
  match adjKind w with
  | 5 =>
    match coreHartIdx s (adjHart w) with
    | some h => h.bshape == c.bshape && etypeSize h.etype == c.size
    | none => false
  | 7 => stEsize (vget c.streams (adjReg w % 16) 0) == c.size
  | _ => true

def noOffset : Triple := ⟨0, 0, 0⟩

/-- An offset entry: O0 is the zero offset and has no storage (R9, R20). -/
def offsetEntry (h : Hart) (n : Nat) : Triple := if n = 0 then noOffset else tripleOf (vget h.offs n 0).toNat

/-- The issue checks of one brick source at an offset, with the destination brick if there is one (R19, R26, R32, R184). -/
def sourceFits (s : State) (c : Captured) (reg : Nat) (off : Triple) (dest : Option Nat) : Bool :=
  let r := reach c s.hart.idx reg off
  offsetFits c off && r.2.all (entryFits s c) &&
    match dest with
    | some d => off == noOffset || !(r.1.contains (.reg none d))
    | none => true

/-- The other harts' tables a capture keeps: every hart of the core, when an entry of kind 5 stands in the own table. -/
def otherTables (s : State) : List (Nat × Vector Word 192) :=
  if s.hart.adj.toList.any fun w => adjKind w == 5 then
    ((coreHarts s s.hart.coreNo).filter fun h => h.idx != s.hart.idx).map fun h => (h.idx, h.adj)
  else []

/-- RSEED as an instruction that issues now draws from: advanced by every older one that has not completed (R81). -/
def issueSeed (h : Hart) (pending : Entry → Nat) : Word :=
  let ents := h.inflight ++ (if 1 ≤ h.depth then h.bank0.ents else []) ++ (if 2 ≤ h.depth then h.bank1.ents else [])
  h.rseed + toWord ((ents.map pending).foldl (· + ·) 0)

/-- The capture at issue (R153). -/
def capture (s : State) (off1 off2 : Triple) (ovr m : Nat) (seed sc1 sc2 : Word) : Captured where
  bshape := s.hart.bshape
  vtype := s.hart.vtype
  rseed := seed
  fpctl := s.hart.fpctl
  off1 := off1
  off2 := off2
  ovr := ovr
  mask := maskReg s.hart m
  adj := s.hart.adj
  nadj := otherTables s
  streams := s.hart.streams
  sc1 := sc1
  sc2 := sc2
  nh := s.hart.nh

/-- The capacity check (R15), for elements of `size` bytes. -/
def capacityFits (h : Hart) (c : Captured) (size : Nat) : Bool := decide (c.n * size ≤ 256 * h.lanes)

end Sys2Proof.Machine
end

