-- ==== Sys2Proof/Machine/Element.lean ====
section
/-!
DEFINITION. How an instruction that acts element by element issues, commits its element groups, stops at a fault and is resumed
(R6, R15 to R19, R26, R32 to R39, R75, R81, R118, R152 to R157). Each instruction runs to its end before the next one issues,
except behind a fault, where the younger ones issue and commit nothing (log 3); its lane groups move together (log 4).
-/

namespace Sys2Proof.Machine

/-- An OFS prefix (R19, R31). -/
structure Prefixed where
  off1 : Triple
  off2 : Triple
  ovr : Nat
deriving DecidableEq, Repr

/-- What an instruction that acts element by element is. -/
structure Form where
  /-- the governing mask -/
  m : Nat := 0
  /-- the offset entry of vs2 without a prefix -/
  o : Nat := 0
  /-- brick sources that an offset can displace, whether any brick is read, and the brick written -/
  src1 : Option Nat := none
  src2 : Option Nat := none
  reads : Bool := false
  dest : Option Nat := none
  /-- VTYPE class required: 0 any, 1 integer, 2 float (R123) -/
  cls : Nat := 0
  /-- rounding field; whether the form rounds under a capture; whether it rounds more than once an element (R74) -/
  rm : Nat := 0
  rounds : Captured → Bool := fun _ => false
  reduces : Bool := false
  /-- the stream named by a field (R184) -/
  stream : Option Nat := none
  /-- further issue checks -/
  fits : State → Captured → Bool := fun _ _ => true
  /-- scalar operands read at issue (R135) -/
  sc1 : State → Word := fun _ => 0
  /-- what issue does besides (R189) -/
  issued : State → State := id
  /-- the check of one element before any access of its group is sent, in forms whose lane groups do not slip (R191, R198) -/
  check : Option (Captured → Nat → State → State × Except ElemFault Nat) := none
  /-- whether an element's access must wait (R61, R364, R373), and what the wait leaves -/
  waits : Captured → Nat → State → Bool := fun _ _ _ => false
  waiting : Captured → List Nat → State → State := fun _ _ s => s
  /-- one active element, given the capture and the rounding mode: what it leaves, and its flags or its fault -/
  act : Captured → Nat → Nat → State → State × Except ElemFault Nat
  /-- what completion does besides -/
  done : Captured → State → State := fun _ s => s
  /-- whether the record keeps a gather-start index (R193) -/
  gather : Bool := false

/-- The effective rounding mode (R74). -/
def Form.mode (f : Form) (c : Captured) : Nat :=
  let r := if f.rm = 7 then bitsOf c.fpctl 0 3 else f.rm
  if f.reduces && r == 4 then 0 else r

/-- Whether the instruction draws from RSEED and advances it (R81). -/
def Form.draws (f : Form) (c : Captured) : Bool := f.rounds c && f.mode c == 4

/-- The capture of a form, with its prefix if it has one (R152, R153). -/
def Form.capture (f : Form) (p : Option Prefixed) (seed : Word) (s : State) : Captured :=
  match p with
  | some p => Machine.capture s p.off1 p.off2 p.ovr f.m seed (f.sc1 s) 0
  | none => Machine.capture s noOffset (offsetEntry s.hart f.o) 0 f.m seed (f.sc1 s) 0

/-- The class check of R123. -/
def classFits (cls ety : Nat) : Bool :=
  match cls with
  | 0 => true
  | 1 => !isFloatType ety
  | _ => isFloatType ety

/-- The rules of R152 on a prefix. -/
def Form.prefixFits (f : Form) (p : Option Prefixed) : Bool :=
  match p with
  | none => true
  | some p => (f.src1.isSome || p.off1 == noOffset) && (f.src2.isSome || p.off2 == noOffset) && (f.reads || p.ovr == 0)

/-- The issue checks of one source, if the form has it. -/
def sourceOk (s : State) (c : Captured) (src : Option Nat) (off : Triple) (dest : Option Nat) : Bool :=
  match src with
  | some r => sourceFits s c r off dest
  | none => true

/-- The stream check of R184. -/
def streamOk (c : Captured) (sn : Option Nat) : Bool :=
  match sn with
  | some n => stEsize (vget c.streams n 0) == c.size
  | none => true

/-- The issue checks (R118, fourth). -/
def Form.issues (f : Form) (p : Option Prefixed) (c : Captured) (s : State) : Bool :=
  classFits f.cls c.ety && capacityFits s.hart c c.size && f.prefixFits p && sourceOk s c f.src1 c.off1 f.dest &&
    sourceOk s c f.src2 c.off2 f.dest && streamOk c f.stream && f.fits s c

/-- Number of lane groups, and of element groups (R16). -/
def Hart.laneGroups (h : Hart) : Nat := ceilDiv h.lanes 8

def elemGroups (h : Hart) (c : Captured) : Nat := ceilDiv c.n h.lanes

/-- The element group that commits next, over the lane groups of the hart. -/
def Entry.level (e : Entry) (nlg : Nat) : Nat := ((e.cnt.take nlg).foldl min (e.cnt.headD 0))

/-- Whether a lane group stands at the element group that commits next. -/
def Entry.atLevel (e : Entry) (k g : Nat) : Bool := e.cnt.getD g 0 == k

/-- The active elements of element group `k` that have not committed (R39). -/
def todo (h : Hart) (e : Entry) (k : Nat) : List Nat :=
  ((List.range h.lanes).filter fun l =>
    e.atLevel k (l / 8) && !e.bmap.testBit l && e.cap.active (k * h.lanes + l)).map fun l => k * h.lanes + l

/-- The checks of a group's elements: the faults (R191, R198). -/
def checkAll (chk : Nat → State → State × Except ElemFault Nat) : List Nat → State → State × List (Nat × ElemFault)
  | [], s => (s, [])
  | e :: es, s =>
    match chk e s with
    | (s, .error f) =>
      let r := checkAll chk es s
      (r.1, (e, f) :: r.2)
    | (s, .ok _) => checkAll chk es s

/-- The acts of a group's elements: the state, the flags of those that acted, those that acted, and the faults. -/
def actAll (act : Nat → State → State × Except ElemFault Nat) : List Nat → State → State × Nat × List Nat × List (Nat × ElemFault)
  | [], s => (s, 0, [], [])
  | e :: es, s =>
    match act e s with
    | (s, .error f) =>
      let r := actAll act es s
      (r.1, r.2.1, r.2.2.1, (e, f) :: r.2.2.2)
    | (s, .ok fl) =>
      let r := actAll act es s
      (r.1, fl ||| r.2.1, e :: r.2.2.1, r.2.2.2)

/-- Flags raised by committed elements (R75). -/
def raiseFlags (s : State) (fl : Nat) : State := withHart s fun h => { h with fpctl := h.fpctl ||| toWord (fl * 256) }

/-- How a group went. -/
inductive Progress where
  | more (s : State) (e : Entry)
  | waits (s : State)
  | faulted (s : State) (e : Entry) (fs : List (Nat × ElemFault))

/-- Whether a lane group holds one of some elements. -/
def holdsLg (h : Hart) (g : Nat) (es : List Nat) : Bool := es.any fun e => e % h.lanes / 8 == g

/-- The bits of lane group `g` of a bitmap replaced by those of the lanes of some elements added to it. -/
def laneBitsOf (h : Hart) (es : List Nat) : Nat := es.foldl (fun b e => b ||| 2 ^ (e % h.lanes)) 0

/-- The entry after group `k`: the lane groups that commit it move on and lose their bits; one that holds a fault keeps its counter
and gains the bits of the elements that committed (R39). `together` is set for forms whose lane groups do not slip. -/
def Entry.after (e : Entry) (h : Hart) (k : Nat) (good : List Nat) (bad : List Nat) (together : Bool) : Entry :=
  let stops (g : Nat) : Bool := holdsLg h g bad || (together && !bad.isEmpty)
  let kept := (List.range h.lanes).foldl (fun b l => if stops (l / 8) && e.bmap.testBit l then b ||| 2 ^ l else b) 0
  { e with
    cnt := (List.range e.cnt.length).map fun g => if e.atLevel k g && !stops g then k + 1 else e.cnt.getD g 0
    bmap := kept ||| laneBitsOf h (good.filter fun x => stops (x % h.lanes / 8)) }

/-- One element group of an in-flight instruction (R36 to R39). -/
def Form.group (f : Form) (e : Entry) (s : State) : Progress :=
  let k := e.level s.hart.laneGroups
  let els := todo s.hart e k
  let pre :=
    match f.check with
    | some chk => checkAll (chk e.cap) els s
    | none => (s, [])
  if !pre.2.isEmpty then .faulted pre.1 (e.after s.hart k [] (pre.2.map Prod.fst) true) pre.2
  else if els.any fun x => f.waits e.cap x pre.1 then .waits (f.waiting e.cap els pre.1)
  else
    let r := actAll (f.act e.cap (f.mode e.cap)) els pre.1
    let e' := e.after s.hart k r.2.2.1 (r.2.2.2.map Prod.fst) f.check.isSome
    let s' := raiseFlags r.1 r.2.1
    if r.2.2.2.isEmpty then .more (addPerf s' 1 1) e' else .faulted s' e' r.2.2.2

/-- The fault that is reported: lowest element, and the first cause of a lane group for the secondary causes (R38, R303). -/
def lowest : List (Nat × ElemFault) → Option (Nat × ElemFault)
  | [] => none
  | p :: ps =>
    match lowest ps with
    | some q => if q.1 < p.1 then some q else some p
    | none => some p

def secondary (h : Hart) (fs : List (Nat × ElemFault)) : Nat :=
  packBits 8 ((List.range 8).map fun g =>
    match lowest (fs.filter fun p => p.1 % h.lanes / 8 == g) with
    | some p => p.2.why.cause
    | none => 0)

/-- The lowest active element that has not committed (R193). -/
def gatherStart (h : Hart) (e : Entry) : Nat :=
  let pending (x : Nat) : Bool :=
    let k := x / h.lanes
    let l := x % h.lanes
    let cnt := e.cnt.getD (l / 8) 0
    e.cap.active x && (decide (cnt < k) || (cnt == k && !e.bmap.testBit l))
  (firstIndex pending e.cap.n 0).getD e.cap.n

/-- The entry of a form with its gather-start index (R193). -/
def Form.mark (f : Form) (h : Hart) (e : Entry) : Entry := if f.gather then { e with gs := gatherStart h e } else e

/-- A fault of the oldest in-flight instruction, held until it strikes; the younger ones behind it commit nothing (R37). -/
def holdFault (e : Entry) (younger : List Entry) (f : Held) (s : State) : State :=
  withHart s fun h => { h with held := some f, inflight := e :: younger }

/-- The fault of a group (R37 to R39). -/
def elementFault (f : Form) (e : Entry) (fs : List (Nat × ElemFault)) (younger : List Entry) (s : State) : State :=
  match lowest fs with
  | none => s
  | some (x, q) =>
    holdFault (f.mark s.hart e) younger
      { cause := q.why.cause, sub := q.why.sub, acc := q.acc, elem := x, addr := toWord q.va, po := q.why.po
        w1 := e.w1, w2 := e.w2, pair := e.pair, lg := x % s.hart.lanes / 8, sec := secondary s.hart fs, bmap := e.bmap, behind := 0 } s

/-- An instruction that issues behind a held fault, or that waits: its entry is kept, and nothing more of it commits before it is taken up
again (R37). -/
def pend (e : Entry) (s : State) : State := withHart s fun h => { h with inflight := h.inflight ++ [e] }

/-- The instruction completes: RSEED and INSTRET (R81, R150). -/
def Form.finish (f : Form) (e : Entry) (s : State) : State :=
  let s := f.done e.cap s
  let s := if f.draws e.cap then withHart s fun h => { h with rseed := h.rseed + toWord e.cap.n } else s
  complete s

/-- The element groups of a new instruction, one after the other, up to `n` of them. -/
def Form.run (f : Form) : Nat → Entry → State → State
  | 0, e, s => f.finish e s
  | n + 1, e, s =>
    match f.group e s with
    | .more s e => f.run n e s
    | .waits s => pend (f.mark s.hart e) s
    | .faulted s e fs => elementFault f e fs [] s

/-- The entry of an instruction that issues now. -/
def newEntry (s : State) (c : Captured) : Entry where
  pc := hereAddr s.hart
  w1 := s.hart.ir1
  w2 := s.hart.ir2
  pair := s.hart.irPair
  cap := c
  cnt := List.replicate s.hart.laneGroups 0
  bmap := 0
  gs := 0
  lap := s.hart.lap.map fun l => (l.k, l.idx)

/-- An instruction of `n` bytes issues (R118) and its element groups commit. -/
def Form.issue (f : Form) (p : Option Prefixed) (seed : Word) (n : Nat) (s : State) : State :=
  let c := f.capture p seed s
  if !f.issues p c s then illegalOperand s
  else if s.hart.held.isSome then pend (f.mark s.hart (newEntry s c)) (advance (f.issued s) n)
  else f.run (elemGroups s.hart c) (newEntry s c) (advance (f.issued s) n)

/-- One group of an instruction that TRAPRET resumed, the oldest of the hart (R307). -/
def Form.resume (f : Form) (e : Entry) (younger : List Entry) (s : State) : State :=
  let ended (e : Entry) : Bool := decide (elemGroups s.hart e.cap ≤ e.level s.hart.laneGroups)
  if ended e then f.finish e (withHart s fun h => { h with inflight := younger })
  else
    match f.group e s with
    | .more s e =>
      if ended e then f.finish e (withHart s fun h => { h with inflight := younger })
      else withHart s fun h => { h with inflight := e :: younger }
    | .waits s => s
    | .faulted s e fs => elementFault f e fs younger s

end Sys2Proof.Machine
end

