-- ==== Sys2Proof/Machine/BrickOps.lean ====
section
/-!
DEFINITION. What one element of a brick instruction computes (R159 to R173), as forms of the element engine.
-/

namespace Sys2Proof.Machine

/-- Width of an element in bits; its value by type (R159); the format of VTYPE. -/
def Captured.w (c : Captured) : Nat := 8 * c.size

def Captured.val (c : Captured) (a : Nat) : Int := if isSignedType c.ety then signed c.w a else ((a % 2 ^ c.w : Nat) : Int)

def Captured.fmt (c : Captured) : Fmt := etypeFmt c.ety

/-- A value clamped to the range of the integer type (R83). -/
def Captured.clamp (c : Captured) (v : Int) : Int :=
  if isSignedType c.ety then max (-2 ^ (c.w - 1)) (min (2 ^ (c.w - 1) - 1) v) else max 0 (min (2 ^ c.w - 1) v)

/-- The one of two faults of one element that R38 reports: the earlier cause. Of one cause at two addresses R38 does not say which is recorded:
that of vs1 is (DESIGN CHOICE, log 91). -/
def worse (f g : ElemFault) : ElemFault := if g.why.cause < f.why.cause then g else f

/-- Both results of two reads, or the fault reported. -/
def both (a b : Except ElemFault Nat) : Except ElemFault (Nat × Nat) :=
  match a, b with
  | .ok a, .ok b => .ok (a, b)
  | .error f, .error g => .error (worse f g)
  | .error f, .ok _ => .error f
  | .ok _, .error g => .error g

/-- An element computed from vs1 at its offset. -/
def unary (r1 : Nat) (k : Captured → Nat → Nat → Nat → State → State × Nat) (c : Captured) (mode e : Nat) (s : State) :
    State × Except ElemFault Nat :=
  let a := adjRead s c r1 e c.off1 c.size
  match a.2 with
  | .error f => (a.1, .error f)
  | .ok v =>
    let r := k c mode e v a.1
    (r.1, .ok r.2)

/-- An element computed from vs1 and vs2 at their offsets. -/
def binary (r1 r2 : Nat) (k : Captured → Nat → Nat → Nat → Nat → State → State × Nat) (c : Captured) (mode e : Nat) (s : State) :
    State × Except ElemFault Nat :=
  let a := adjRead s c r1 e c.off1 c.size
  let b := adjRead a.1 c r2 e c.off2 c.size
  match both a.2 b.2 with
  | .error f => (b.1, .error f)
  | .ok v =>
    let r := k c mode e v.1 v.2 b.1
    (r.1, .ok r.2)

/-- The scalar operand of a VX form as 64 bits: X[xs], or the immediate sign-extended (R160). -/
def scalarSrc (sel xs : Nat) (s : State) : Word := if sel = 1 then sext 5 xs else rx s xs

/-- The scalar operand as the low w bits (R160). -/
def Captured.t (c : Captured) : Nat := c.sc1.toNat % 2 ^ c.w

/-- A VV form. -/
def vvForm (cls vd vs1 vs2 m o : Nat) (act : Captured → Nat → Nat → State → State × Except ElemFault Nat) : Form where
  m := m
  o := o
  src1 := some vs1
  src2 := some vs2
  reads := true
  dest := some vd
  cls := cls
  act := act

/-- A VX form. -/
def vxForm (cls vd vs1 sel xs m : Nat) (act : Captured → Nat → Nat → State → State × Except ElemFault Nat) : Form where
  m := m
  src1 := some vs1
  reads := true
  dest := some vd
  cls := cls
  sc1 := scalarSrc sel xs
  act := act

/-! Integer arithmetic (R159, R160): a result from two raw values. -/

def opAdd (c : Captured) (a b : Nat) : Nat := wrapTo c.w (c.val a + c.val b)
def opSub (c : Captured) (a b : Nat) : Nat := wrapTo c.w (c.val a - c.val b)
def opMul (c : Captured) (a b : Nat) : Nat := wrapTo c.w (c.val a * c.val b)
def opMulh (c : Captured) (a b : Nat) : Nat := wrapTo c.w (c.val a * c.val b / 2 ^ c.w)
def opMin (c : Captured) (a b : Nat) : Nat := if c.val b < c.val a then b else a
def opMax (c : Captured) (a b : Nat) : Nat := if c.val a < c.val b then b else a
def opAddSat (c : Captured) (a b : Nat) : Nat := wrapTo c.w (c.clamp (c.val a + c.val b))
def opSubSat (c : Captured) (a b : Nat) : Nat := wrapTo c.w (c.clamp (c.val a - c.val b))
def opMulSat (c : Captured) (a b : Nat) : Nat := wrapTo c.w (c.clamp (c.val a * c.val b))
def opAnd (_ : Captured) (a b : Nat) : Nat := a &&& b
def opOr (_ : Captured) (a b : Nat) : Nat := a ||| b
def opXor (_ : Captured) (a b : Nat) : Nat := a ^^^ b
def opSll (c : Captured) (a b : Nat) : Nat := a * 2 ^ (b % c.w) % 2 ^ c.w
def opSrl (c : Captured) (a b : Nat) : Nat := a / 2 ^ (b % c.w)
def opSra (c : Captured) (a b : Nat) : Nat := wrapTo c.w (signed c.w a / 2 ^ (b % c.w))

/-- An integer form over two bricks, and over a brick and a scalar. -/
def intForm (op : Captured → Nat → Nat → Nat) (vd vs1 vs2 m o : Nat) : Form :=
  vvForm 1 vd vs1 vs2 m o (binary vs1 vs2 fun c _ e a b s => (putElem s c.size vd e (op c a b), 0))

def intXForm (op : Captured → Nat → Nat → Nat) (vd vs1 sel xs m : Nat) : Form :=
  vxForm 1 vd vs1 sel xs m (unary vs1 fun c _ e a s => (putElem s c.size vd e (op c a c.t), 0))

/-- The old destination element as a source (R155). -/
def oldDest (s : State) (c : Captured) (vd e : Nat) : Nat := elemAt s.hart.bricks s.hart.lanes c.size vd e

def vselForm (vd vs1 vs2 m o : Nat) : Form :=
  vvForm 1 vd vs1 vs2 m o (binary vs1 vs2 fun c _ e a b s =>
    (putElem s c.size vd e (if oldDest s c vd e ≠ 0 then a else b), 0))

/-! Float arithmetic (R161 to R164). -/

/-- Whether FTZ applies. -/
def Captured.ftz (c : Captured) : Bool := bitsOf c.fpctl 3 1 == 1

/-- A float operand read under FTZ (R79). -/
def Captured.num (c : Captured) (a : Nat) : Num := flushNum (.flt c.fmt) c.ftz (c.fmt.decode a)

/-- The draw of an element, used only in rsto (R81). -/
def Captured.u (c : Captured) (mode e : Nat) : Nat := if mode = 4 then drawU c.rseed e else 0

/-- An exact value with its flags, rounded into the type (R78, R80). -/
def Captured.roundNum (c : Captured) (mode e : Nat) (v : Num × Nat) : Nat × Nat :=
  let r := Elem.ofNum (.flt c.fmt) mode (c.u mode e) c.ftz false v.1
  (r.1, r.2 ||| v.2)

/-- A value delivered exactly: no rounding, no flush (R162). -/
def Captured.exactNum (c : Captured) (v : Num × Nat) : Nat × Nat := ((Elem.ofNum (.flt c.fmt) 0 0 false false v.1).1, v.2)

def fAdd (c : Captured) (mode e a b : Nat) : Nat × Nat := c.roundNum mode e (addNum (mode == 3) (c.num a) (c.num b))
def fSub (c : Captured) (mode e a b : Nat) : Nat × Nat := c.roundNum mode e (addNum (mode == 3) (c.num a) (c.num b).neg)
def fMul (c : Captured) (mode e a b : Nat) : Nat × Nat := c.roundNum mode e (mulNum (c.num a) (c.num b))
def fDiv (c : Captured) (mode e a b : Nat) : Nat × Nat := divRound c.fmt mode (c.u mode e) c.ftz (c.num a) (c.num b)
def fSqrt (c : Captured) (mode e a : Nat) : Nat × Nat := sqrtRound c.fmt mode (c.u mode e) c.ftz (c.num a)
def fMin (c : Captured) (_ _ a b : Nat) : Nat × Nat := c.exactNum (minMaxNum false false (c.num a) (c.num b))
def fMax (c : Captured) (_ _ a b : Nat) : Nat × Nat := c.exactNum (minMaxNum true false (c.num a) (c.num b))
def fMaxProp (c : Captured) (_ _ a b : Nat) : Nat × Nat := c.exactNum (minMaxNum true true (c.num a) (c.num b))
def fRsub (c : Captured) (mode e a b : Nat) : Nat × Nat := fSub c mode e b a

/-- ±(a·b) ± c, rounded once (R163). -/
def fFused (negP negC : Bool) (c : Captured) (mode e a b d : Nat) : Nat × Nat :=
  let p := mulNum (c.num a) (c.num b)
  let q := addNum (mode == 3) (if negP then p.1.neg else p.1) (if negC then (c.num d).neg else c.num d)
  c.roundNum mode e (q.1, q.2 ||| p.2)

/-- A float result written. -/
def putFlt (s : State) (c : Captured) (vd e : Nat) (r : Nat × Nat) : State × Nat := (putElem s c.size vd e r.1, r.2)

/-- A form that rounds each element once. -/
def Form.rounding (f : Form) (rm : Nat) : Form := { f with rm := rm, rounds := fun _ => true }

/-- A float form over two bricks, over one, over a brick and a scalar, and a fused one. -/
def fltForm (op : Captured → Nat → Nat → Nat → Nat → Nat × Nat) (vd vs1 vs2 m : Nat) : Form :=
  vvForm 2 vd vs1 vs2 m 0 (binary vs1 vs2 fun c mode e a b s => putFlt s c vd e (op c mode e a b))

def fltOneForm (op : Captured → Nat → Nat → Nat → Nat × Nat) (vd vs1 m : Nat) : Form :=
  vxForm 2 vd vs1 0 0 m (unary vs1 fun c mode e a s => putFlt s c vd e (op c mode e a))

def fltXForm (op : Captured → Nat → Nat → Nat → Nat → Nat × Nat) (vd vs1 xs m : Nat) : Form :=
  vxForm 2 vd vs1 0 xs m (unary vs1 fun c mode e a s => putFlt s c vd e (op c mode e a c.t))

def fusedForm (negP negC : Bool) (vd vs1 vs2 m rm : Nat) : Form :=
  (vvForm 2 vd vs1 vs2 m 0 (binary vs1 vs2 fun c mode e a b s =>
    putFlt s c vd e (fFused negP negC c mode e a b (oldDest s c vd e)))).rounding rm

/-- The sign bit cleared (R161). -/
def fAbs (c : Captured) (_ _ a : Nat) : Nat × Nat := (a % 2 ^ (c.w - 1), 0)

/-! Compares (R165). -/

/-- A relation: on integers, on values that are no NaN; whether it holds on a NaN; whether any NaN sets nv. -/
structure Relation where
  int : Int → Int → Bool
  flt : Num → Num → Bool
  onNaN : Bool
  loudAll : Bool

def relEq : Relation := ⟨fun a b => decide (a = b), numEq, false, false⟩
def relNe : Relation := ⟨fun a b => decide (a ≠ b), fun a b => !numEq a b, true, false⟩
def relLt : Relation := ⟨fun a b => decide (a < b), numLt, false, true⟩
def relLe : Relation := ⟨fun a b => decide (a ≤ b), fun a b => numLt a b || numEq a b, false, true⟩
def relGt : Relation := ⟨fun a b => decide (b < a), fun a b => numLt b a, false, true⟩
def relGe : Relation := ⟨fun a b => decide (b ≤ a), fun a b => numLt b a || numEq a b, false, true⟩
def relUn : Relation := ⟨fun _ _ => false, fun _ _ => false, true, false⟩

/-- The relation of two elements and its flags. -/
def Relation.holds (r : Relation) (c : Captured) (a b : Nat) : Bool × Nat :=
  if isFloatType c.ety then
    let x := c.num a
    let y := c.num b
    if x.isNaN || y.isNaN then (r.onNaN, if r.loudAll || x.loud || y.loud then flNV else 0) else (r.flt x y, 0)
  else (r.int (c.val a) (c.val b), 0)

/-- The scalar of a compare or a broadcast (R165, R173): an immediate is converted to VTYPE, exactly for signed and float types. -/
def Captured.tImm (c : Captured) (sel : Nat) : Nat :=
  if sel = 1 ∧ isFloatType c.ety then (Elem.ofNum (.flt c.fmt) 0 0 false false (numOfInt c.sc1.toInt)).1 else c.t

def cmpForm (r : Relation) (cls md vs1 vs2 m o : Nat) : Form :=
  { vvForm cls md vs1 vs2 m o (binary vs1 vs2 fun c _ e a b s =>
      let t := r.holds c a b
      (putMaskBit s md e t.1, t.2)) with dest := none }

def cmpXForm (r : Relation) (md vs1 xs m sel : Nat) : Form :=
  { vxForm 0 md vs1 sel xs m (unary vs1 fun c _ e a s =>
      let t := r.holds c a (c.tImm sel)
      (putMaskBit s md e t.1, t.2)) with dest := none }

/-! Mask algebra (R166). -/

def maskForm (op : Bool → Bool → Bool) (md ms1 ms2 m : Nat) : Form where
  m := m
  act := fun _ _ e s => (putMaskBit s md e (op ((maskReg s.hart ms1).getLsbD e) ((maskReg s.hart ms2).getLsbD e)), .ok 0)

/-- Active elements whose bit is set in a mask register. -/
def maskHit (c : Captured) (s : State) (ms1 e : Nat) : Bool := c.active e && (maskReg s.hart ms1).getLsbD e

def vmpopcForm (xd ms1 m : Nat) : Form where
  m := m
  act := fun _ _ _ s => (s, .ok 0)
  done := fun c s => wxIn s c.nh xd (toWord ((List.range c.n).filter (maskHit c s ms1)).length)

def vmfirstForm (xd ms1 m : Nat) : Form where
  m := m
  act := fun _ _ _ s => (s, .ok 0)
  done := fun c s =>
    wxIn s c.nh xd (match firstIndex (maskHit c s ms1) c.n 0 with
      | some e => toWord e
      | none => -1)

/-! Conversions (R167 to R169). -/

/-- A conversion under the capture: encoding and flags. -/
def Captured.conv (c : Captured) (src dst : Elem) (sat : Bool) (mode e a : Nat) : Nat × Nat := convert src dst mode (c.u mode e) c.ftz sat a

/-- vcvt and vcvt.sat, which differ only between integer types (R95, R167). -/
def vcvtForm (sat : Bool) (vd vs1 code m rm : Nat) : Form where
  m := m
  src1 := some vs1
  reads := true
  dest := some vd
  rm := rm
  rounds := fun c => !holdsAll (etypeElem code) (etypeElem c.ety)
  fits := fun s c => decide (c.n * etypeSize code ≤ 256 * s.hart.lanes) && (vd != vs1 || etypeSize code == c.size)
  act := fun c mode e s =>
    let a := adjRead s c vs1 e c.off1 (etypeSize code)
    match a.2 with
    | .error f => (a.1, .error f)
    | .ok v =>
      let r := c.conv (etypeElem code) (etypeElem c.ety) (sat && !isFloatType c.ety) mode e v
      (putElem a.1 c.size vd e r.1, .ok r.2)

/-- The capacity of a packed brick (R168). -/
def packedFits (s : State) (c : Captured) (code : Nat) : Bool :=
  decide ((codeElem code).width * ceilDiv c.n s.hart.lanes ≤ 2048)

def vunpkForm (vd vs1 code m rm : Nat) : Form where
  m := m
  reads := true
  dest := some vd
  rm := rm
  rounds := fun c => !holdsAll (codeElem code) (etypeElem c.ety)
  fits := fun s c => packedFits s c code && (vd != vs1 || (codeElem code).width == c.w)
  act := fun c mode e s =>
    let r := c.conv (codeElem code) (etypeElem c.ety) false mode e (packedAt s.hart.bricks s.hart.lanes (codeElem code).width vs1 e)
    (putElem s c.size vd e r.1, .ok r.2)

def vpackForm (vd vs1 code m rm : Nat) : Form where
  m := m
  src1 := some vs1
  reads := true
  dest := some vd
  rm := rm
  rounds := fun c => !holdsAll (etypeElem c.ety) (codeElem code)
  fits := fun s c => packedFits s c code && (vd != vs1 || (codeElem code).width == c.w)
  act := unary vs1 fun c mode e a s =>
    let r := c.conv (etypeElem c.ety) (codeElem code) false mode e a
    (putPacked s (codeElem code).width vd e r.1, r.2)

/-! Reductions (R170, R171). -/

/-- The elements of the line whose result position is `e`, in order; none where `e` is no result position. -/
def lineOf (c : Captured) (axis e : Nat) : Option (List Nat) :=
  match axis with
  | 0 => if c.ex e = 0 then some ((List.range c.nx).map fun k => e + k) else none
  | 1 => if c.ey e = 0 then some ((List.range c.ny).map fun k => e + k * c.nx) else none
  | 2 => if c.ez e = 0 then some ((List.range c.nz).map fun k => e + k * (c.nx * c.ny)) else none
  | _ => if e = 0 then some (List.range c.n) else none

/-- The elements of a line read in order, an inactive one absent (R171): values, or the fault reported. -/
def readLine (c : Captured) (vs1 : Nat) : List Nat → State → State × Except ElemFault (List (Option Nat))
  | [], s => (s, .ok [])
  | x :: xs, s =>
    if !c.active x then
      let r := readLine c vs1 xs s
      (r.1, r.2.map fun vs => none :: vs)
    else
      let a := adjRead s c vs1 x c.off1 c.size
      let r := readLine c vs1 xs a.1
      match a.2, r.2 with
      | .ok v, .ok vs => (r.1, .ok (some v :: vs))
      | .error f, .error g => (r.1, .error (worse f g))
      | .error f, .ok _ => (r.1, .error f)
      | .ok _, .error g => (r.1, .error g)

/-- An element as it is read: FTZ applies to a float, and a NaN keeps its payload (R170). -/
def Captured.asRead (c : Captured) (a : Nat) : Nat :=
  if isFloatType c.ety && !(c.num a).isNaN then (c.exactNum (c.num a, 0)).1 else a

/-- A node of the tree of R171: two present values summed, one passed up unchanged, none of two absent ones. -/
def sumNode (c : Captured) (mode : Nat) : Option Nat → Option Nat → Option Nat × Nat
  | some a, some b => (some (fAdd c mode 0 a b).1, (fAdd c mode 0 a b).2)
  | some a, none => (some a, 0)
  | none, b => (b, 0)

/-- One level of the tree: a position without a partner meets an absent one. -/
def sumLevel (c : Captured) (mode : Nat) : List (Option Nat) → List (Option Nat) × Nat
  | a :: b :: rest =>
    let r := sumNode c mode a b
    let t := sumLevel c mode rest
    (r.1 :: t.1, r.2 ||| t.2)
  | l => (l, 0)

/-- The root of the tree. -/
def sumTree (c : Captured) (mode : Nat) : Nat → List (Option Nat) → Nat × Nat
  | _, [] => (0, 0)
  | _, [a] => (a.getD 0, 0)
  | 0, a :: _ => (a.getD 0, 0)
  | n + 1, l =>
    let t := sumLevel c mode l
    let r := sumTree c mode n t.1
    (r.1, t.2 ||| r.2)

/-- A fold of two or more values from the first. -/
def foldOp (op : Nat → Nat → Nat × Nat) : List Nat → Nat × Nat
  | [] => (0, 0)
  | a :: as => as.foldl (fun r b => let t := op r.1 b; (t.1, r.2 ||| t.2)) (a, 0)

/-- A line of two or more values combined. -/
def vrsumLine (c : Captured) (mode : Nat) (l : List (Option Nat)) : Nat × Nat :=
  if isFloatType c.ety then sumTree c mode 14 (l.map fun a => a.map c.asRead)
  else foldOp (fun a b => (opAdd c a b, 0)) (l.filterMap id)

def vrminLine (c : Captured) (_ : Nat) (l : List (Option Nat)) : Nat × Nat :=
  if isFloatType c.ety then foldOp (fMin c 0 0) (l.filterMap id) else foldOp (fun a b => (opMin c a b, 0)) (l.filterMap id)

def vrmaxLine (c : Captured) (_ : Nat) (l : List (Option Nat)) : Nat × Nat :=
  if isFloatType c.ety then foldOp (fMax c 0 0) (l.filterMap id) else foldOp (fun a b => (opMax c a b, 0)) (l.filterMap id)

def bitLine (op : Nat → Nat → Nat) (_ : Captured) (_ : Nat) (l : List (Option Nat)) : Nat × Nat :=
  foldOp (fun a b => (op a b, 0)) (l.filterMap id)

/-- Identities (R170). -/
def idZero (_ : Captured) : Nat := 0

def idOnes (c : Captured) : Nat := 2 ^ c.w - 1

def idMin (c : Captured) : Nat :=
  if isFloatType c.ety then c.fmt.maxCode + 1 else if isSignedType c.ety then 2 ^ (c.w - 1) - 1 else 2 ^ c.w - 1

def idMax (c : Captured) : Nat :=
  if isFloatType c.ety then 2 ^ (c.w - 1) + c.fmt.maxCode + 1 else if isSignedType c.ety then 2 ^ (c.w - 1) else 0

/-- The result of a line of active values (R170). -/
def lineResult (c : Captured) (ident : Captured → Nat) (op : Captured → Nat → List (Option Nat) → Nat × Nat) (mode : Nat)
    (l : List (Option Nat)) : Nat × Nat :=
  match l.filterMap id with
  | [] => (ident c, 0)
  | [a] => (c.asRead a, 0)
  | _ => op c mode l

def reduceForm (cls : Nat) (ident : Captured → Nat) (op : Captured → Nat → List (Option Nat) → Nat × Nat) (vd vs1 axis m rm : Nat) : Form where
  m := m
  src1 := some vs1
  reads := true
  dest := some vd
  cls := cls
  rm := rm
  rounds := fun c => isFloatType c.ety
  reduces := true
  act := fun c mode e s =>
    match lineOf c axis e with
    | none => (s, .ok 0)
    | some line =>
      let r := readLine c vs1 line s
      match r.2 with
      | .error f => (r.1, .error f)
      | .ok l =>
        let t := lineResult c ident op mode l
        (putElem r.1 c.size vd e t.1, .ok t.2)

/-! Permutes (R172). -/

def permForm (fits : State → Captured → Bool) (vd m : Nat) (src : State → Captured → Nat → Nat) : Form where
  m := m
  reads := true
  dest := some vd
  fits := fits
  act := fun c _ e s => (putElem s c.size vd e (src s c e), .ok 0)

/-- Element of a source register at its own place. -/
def own (s : State) (c : Captured) (reg e : Nat) : Nat := elemAt s.hart.bricks s.hart.lanes c.size reg e

def vtrxyForm (vd vs1 m : Nat) : Form :=
  permForm (fun _ c => vd != vs1 && c.nx == c.ny) vd m fun s c e => own s c vs1 (c.index (c.ey e) (c.ex e) (c.ez e))

/-- Coordinate and extent of an element on an axis, and the element with another coordinate there. -/
def Captured.coord (c : Captured) (axis e : Nat) : Nat :=
  match axis with
  | 0 => c.ex e
  | 1 => c.ey e
  | _ => c.ez e

def Captured.extent (c : Captured) (axis : Nat) : Nat :=
  match axis with
  | 0 => c.nx
  | 1 => c.ny
  | _ => c.nz

def Captured.withCoord (c : Captured) (axis e k : Nat) : Nat :=
  match axis with
  | 0 => c.index k (c.ey e) (c.ez e)
  | 1 => c.index (c.ex e) k (c.ez e)
  | _ => c.index (c.ex e) (c.ey e) k

def vslideForm (vd vs1 amt m axis : Nat) : Form :=
  permForm (fun _ _ => vd != vs1) vd m fun s c e =>
    let k := (c.coord axis e : Int) - signed 5 amt
    if 0 ≤ k ∧ k < c.extent axis then own s c vs1 (c.withCoord axis e k.toNat) else 0

def vrotForm (vd vs1 amt m axis : Nat) : Form :=
  permForm (fun _ _ => vd != vs1) vd m fun s c e =>
    own s c vs1 (c.withCoord axis e (((c.coord axis e : Int) - signed 5 amt) % c.extent axis).toNat)

def vgidxForm (vd vs1 vs2 m : Nat) : Form :=
  permForm (fun _ _ => vd != vs1 && vd != vs2) vd m fun s c e =>
    let j := own s c vs2 e
    if j < c.n then own s c vs1 j else 0

/-! Broadcast, extraction, coordinates (R173). -/

def vmovxForm (vd xs m sel : Nat) : Form where
  m := m
  dest := some vd
  sc1 := scalarSrc sel xs
  act := fun c _ e s => (putElem s c.size vd e (c.tImm sel), .ok 0)

def vextxForm (xd vs1 xs m : Nat) : Form where
  m := m
  src1 := some vs1
  reads := true
  sc1 := fun s => rx s xs
  fits := fun _ c => decide (c.sc1.toNat < c.n)
  act := fun c _ e s =>
    if e ≠ c.sc1.toNat then (s, .ok 0)
    else
      let a := adjRead s c vs1 e c.off1 c.size
      match a.2 with
      | .error f => (a.1, .error f)
      | .ok v => (wxIn a.1 c.nh xd (if isSignedType c.ety then sext c.w v else zext c.w v), .ok 0)
  done := fun c s => if c.active c.sc1.toNat then s else wxIn s c.nh xd 0

def vcoordForm (axis vd xs m sel : Nat) : Form where
  m := m
  dest := some vd
  sc1 := scalarSrc sel xs
  act := fun c _ e s =>
    let v := (c.coord axis e : Int) + c.sc1.toInt
    if isFloatType c.ety then
      let r := Elem.ofNum (.flt c.fmt) 0 0 false false (numOfInt v)
      (putElem s c.size vd e r.1, .ok r.2)
    else (putElem s c.size vd e (wrapTo c.w v), .ok 0)

end Sys2Proof.Machine
end

