-- ==== Sys2Proof/Machine/MemoryOps.lean ====
section
/-!
DEFINITION. Vector memory forms (R182 to R194) and the act of an atomic (R195 to R198).
-/

namespace Sys2Proof.Machine

/-- One axis of a stream position moved on; a field that would pass 2^32 − 1 holds it (R189). -/
def stepPos (p n : Nat) : Nat := min (p + n) (2 ^ 32 - 1)

/-- The position after an .adv form under a shape (R189). -/
def advancePos (r : BitVec 512) (b : Word) : Nat × Nat × Nat :=
  let px := stepPos (stPos r 0) (shapeX b)
  if px < stExtent r 0 then (px, stPos r 1, stPos r 2)
  else
    let py := stepPos (stPos r 1) (shapeY b)
    if py < stExtent r 1 then (0, py, stPos r 2) else (0, 0, stepPos (stPos r 2) (shapeZ b))

/-- A stream register with another position, and with another base and position 0 (R185). -/
def withPos (r : BitVec 512) (p : Nat × Nat × Nat) : BitVec 512 :=
  BitVec.ofNat 512 (setField (setField (setField r.toNat 384 32 p.1) 416 32 p.2.1) 448 32 p.2.2)

def withBase (r : BitVec 512) (base : Nat) : BitVec 512 := withPos (BitVec.ofNat 512 (setField r.toNat 0 55 base)) (0, 0, 0)

/-- The stream register advanced (R189). -/
def streamAdvance (sn : Nat) (s : State) : State :=
  withHart s fun h =>
    let r := vget h.streams sn 0
    { h with streams := vset h.streams sn (withPos r (advancePos r h.bshape)) }

/-- The pacer is told of a stream whose look-ahead is on (R186). -/
def pace (sn : Nat) (s : State) : State :=
  if stAhead (vget s.hart.streams sn 0) = 0 then s else schedule s (.pacerTranslate s.hart.slot sn)

/-- What the issue of a stream form does besides. -/
def streamIssued (adv : Bool) (sn : Nat) (s : State) : State := pace sn (if adv then streamAdvance sn s else s)

/-- The tensor coordinate of an element, from the captured position (R183). -/
def tensorAt (c : Captured) (sn axis e : Nat) : Int := (stPos (vget c.streams sn 0) axis + c.coord axis e : Nat)

/-- Whether an access that passes its checks waits before it is sent: the page is being moved (R373), or the port has no room (R364). -/
def writeWaits (s : State) (acc : Nat) (a : Int) : Bool :=
  match (locate (hartView s) acc a.toNat s).2 with
  | .ok pa => moving s pa || portFull s (homeAddr s pa) 0
  | .error _ => false

/-- Whether a plain read waits for room at its port (R364). -/
def readWaits (s : State) (a : Int) (n : Nat) : Bool :=
  match (locate (hartView s) 0 a.toNat s).2 with
  | .ok pa => fetches s a.toNat pa n && portFull s (homeAddr s pa) 0
  | .error _ => false

def vldForm (adv : Bool) (vd sn m : Nat) : Form where
  m := m
  dest := some vd
  stream := some sn
  issued := streamIssued adv sn
  waits := fun c e s =>
    let r := vget c.streams sn 0
    stInside r (tensorAt c sn 0 e) (tensorAt c sn 1 e) (tensorAt c sn 2 e) &&
      readWaits s (stAddr r (tensorAt c sn 0 e) (tensorAt c sn 1 e) (tensorAt c sn 2 e)) (stEsize r)
  act := fun c _ e s =>
    let a := readStream s (vget c.streams sn 0) (tensorAt c sn 0 e) (tensorAt c sn 1 e) (tensorAt c sn 2 e)
    match a.2 with
    | .error f => (a.1, .error f)
    | .ok v => (putElem a.1 c.size vd e v, .ok 0)

/-- A memory element's write: the address checks, then a write of the hart (R187). -/
def writeElem (s : State) (a : Int) (n v kind : Nat) : State × Except ElemFault Nat :=
  match addrCheck a n 1 with
  | .error f => (s, .error f)
  | .ok va =>
    match store va (leBytes n v) kind s with
    | (s, .error f) => (s, .error ⟨f, 1, va⟩)
    | (s, .ok _) => (s, .ok 0)

def vstForm (adv : Bool) (vs sn m : Nat) : Form where
  m := m
  reads := true
  stream := some sn
  issued := streamIssued adv sn
  act := fun c _ e s =>
    let r := vget c.streams sn 0
    let x := tensorAt c sn 0 e
    let y := tensorAt c sn 1 e
    let z := tensorAt c sn 2 e
    if stInside r x y z then
      writeElem s (stAddr r x y z) c.size (own s c vs e) (strideKind (stStride r 0) (stEsize r))
    else (s, .ok 0)

/-- Address of an indexed element, exact: indices count elements (mode 0) or bytes (R190). -/
def indexedAddr (s : State) (c : Captured) (base : Nat) (mode vi e : Nat) : Int :=
  let i := signed c.w (own s c vi e)
  if mode = 0 then base + i * c.size else base + i

/-- The bytes that an engine of the hart reads at a physical address (R66): the hart's earlier write, else the current version at the home. -/
def engineTake (v : View) (va pa n : Nat) (s : State) : State × Except AccFault Nat :=
  match badEngineRead s v va pa n with
  | some i => (lastingError s (pa + i) 1, .error (badData s pa))
  | none => (s, .ok (ofLe (engineBytes s v va pa n)))

/-- A read of an engine of the hart under a deadline (R66, R346): the physical address and the value. -/
def engineGet (deadline : Word) (v : View) (va n : Nat) (s : State) : State × Except AccFault (Nat × Nat) :=
  match translate v 0 va s with
  | (s, .error f) => (s, .error f)
  | (s, .ok pa) =>
    match engineTake v va pa n (request deadline s pa 0) with
    | (s, .error f) => (s, .error f)
    | (s, .ok x) => (s, .ok (pa, x))

/-! Index-list packets (R191, R192). -/

/-- The home address of an element of an indexed form that passes its checks. -/
def indexedPlace (s : State) (c : Captured) (acc base mode vi e : Nat) : Option Nat :=
  match addrCheck (indexedAddr s c base mode vi e) c.size acc with
  | .error _ => none
  | .ok va =>
    match (locate (hartView s) acc va s).2 with
    | .ok pa => some (homeAddr s pa)
    | .error _ => none

/-- The elements of one element group that go to another module in one packet with element `e`, in order, with their addresses; at most 32, so
one packet holds them. -/
def packetOf (s : State) (c : Captured) (acc base mode vi e : Nat) : List (Nat × Nat) :=
  match indexedPlace s c acc base mode vi e with
  | none => []
  | some pa =>
    if paModule pa = ownModule s then [(e, pa)]
    else
      ((List.range s.hart.lanes).map (e / s.hart.lanes * s.hart.lanes + ·)).filterMap fun x =>
        if c.active x then
          (indexedPlace s c acc base mode vi x).bind fun a => if paModule a = paModule pa then some (x, a) else none
        else none

/-- What the home says to an element of a packet: the packet is one operation of the delivery promise, so one that is given up fails every element
of it (R191). -/
def packetHome (s : State) (packet : List (Nat × Nat)) (pa : Nat) : State × Except AccFault Nat :=
  match reachHome s pa with
  | (s, .error f) => (s, .error f)
  | (s, .ok pa) => if packet.any fun x => overdue s x.2 then (s, .error { cause := 11, sub := 1, data := true }) else (s, .ok pa)

/-- The request of a packet, sent with its first element; `data` bytes for each element (log 101). -/
def packetSent (s : State) (packet : List (Nat × Nat)) (e data : Nat) : State :=
  match packet with
  | [] => s
  | (x, pa) :: _ => if x = e then request s.hart.deadline s pa (data * packet.length) else s

def vgathForm (vd sn m mode vi : Nat) : Form where
  m := m
  reads := true
  dest := some vd
  stream := some sn
  issued := pace sn
  fits := fun _ _ => vd != vi
  gather := true
  waits := fun c e s => (indexedPlace s c 0 (stBase (vget c.streams sn 0)) mode vi e).any fun pa => portFull s pa 0
  act := fun c _ e s =>
    let base := stBase (vget c.streams sn 0)
    match addrCheck (indexedAddr s c base mode vi e) c.size 0 with
    | .error f => (s, .error f)
    | .ok va =>
      match locate (hartView s) 0 va s with
      | (s, .error f) => (s, .error ⟨f, 0, va⟩)
      | (s, .ok pa) =>
        let packet := packetOf s c 0 base mode vi e
        match packetHome s packet pa with
        | (s, .error f) => (s, .error ⟨f, 0, va⟩)
        | (s, .ok pa) =>
          match engineTake (hartView s) va pa c.size (packetSent s packet e 8) with
          | (s, .error f) => (s, .error ⟨f, 0, va⟩)
          | (s, .ok v) => (putElem (touch s pa 2) c.size vd e v, .ok 0)

/-- The bytes of a scattered element at its home, and as the hart's own, published (R54, R67, R192). -/
def scatterAt (va pa : Nat) (bs : List Byte) (s : State) : State :=
  withHart (locWrite s (hartLoc s va) pa bs) fun h =>
    { h with own := (List.range bs.length).foldl (fun o i => tset o (hartLoc s va + i) ⟨bs.getD i 0, pa + i, true, true⟩) h.own }

/-- A scattered element's write (R192): at its home as it is sent; a home that fails, or does not hold data any more (R209), enters the error
queue. -/
def scatterWrite (packet : List (Nat × Nat)) (va pa : Nat) (bs : List Byte) (s : State) : State :=
  match packetHome s packet pa with
  | (s, .error f) => storeFailed (if actsAnyway s pa f then scatterAt va pa bs s else s) 1 va pa bs.length f
  | (s, .ok pa) =>
    if uncorrectable s pa bs.length then storeFailed (lastingError s pa bs.length) 1 va pa bs.length (badData s pa) else scatterAt va pa bs s

/-- Whether an element that names the address of another active element leaves its value there (R52; FREE VALUE, log 9). -/
def scatterWins (s : State) (c : Captured) (base mode vi e : Nat) : Bool :=
  let a := indexedAddr s c base mode vi e
  let clash := (List.range e).any fun x => c.active x && decide (indexedAddr s c base mode vi x = a)
  !clash || Config.scatterWinner s.tick e % 2 == 1

/-- The lines of an element at which its write waits for a second shadow version (R61). -/
def indexedLines (s : State) (c : Captured) (base mode vi e : Nat) : List Nat :=
  ((indexedPlace s c 1 base mode vi e).map fun pa => linesAt s pa c.size).getD []

/-- The lines of an element that no lower active element of its element group writes: each line of a group is published once (R58, R67). -/
def freshLines (s : State) (c : Captured) (base mode vi e : Nat) : List Nat :=
  let below := ((List.range (e % s.hart.lanes)).map (e / s.hart.lanes * s.hart.lanes + ·)).filter c.active
  (indexedLines s c base mode vi e).filter fun l => !below.any fun x => (indexedLines s c base mode vi x).contains l

def vscatForm (vs sn m mode vi : Nat) : Form where
  m := m
  reads := true
  stream := some sn
  issued := pace sn
  gather := true
  check := some fun c e s => checkWrite s (indexedAddr s c (stBase (vget c.streams sn 0)) mode vi e) c.size
  waits := fun c e s =>
    let base := stBase (vget c.streams sn 0)
    writeWaits s 1 (indexedAddr s c base mode vi e) || (indexedLines s c base mode vi e).any (shadowBlocks s)
  waiting := fun c es s => waitAt s (es.flatMap (indexedLines s c (stBase (vget c.streams sn 0)) mode vi))
  act := fun c _ e s =>
    let base := stBase (vget c.streams sn 0)
    let va := (indexedAddr s c base mode vi e).toNat
    match locate (hartView s) 1 va s with
    | (s, .error _) => (s, .ok 0)
    | (s, .ok pa) =>
      let packet := packetOf s c 1 base mode vi e
      let s := touch (packetSent (stampLines s (freshLines s c base mode vi e)) packet e (8 + c.size)) pa 2
      (if scatterWins s c base mode vi e then scatterWrite packet va pa (leBytes c.size (own s c vs e)) s else s, .ok 0)

/-! Scratchpad (R46, R47, R194). -/

/-- A scratchpad offset checked (R194). -/
def scratchCheck (o n acc : Nat) : Except ElemFault Nat :=
  if o % n ≠ 0 then .error ⟨{ cause := 3 }, acc, o⟩
  else if 16384 < o + n then .error ⟨{ cause := 4 }, acc, o⟩
  else .ok o

def spldForm (vd m vi : Nat) : Form where
  m := m
  reads := true
  dest := some vd
  fits := fun _ _ => vd != vi
  act := fun c _ e s =>
    match scratchCheck (own s c vi e) c.size 0 with
    | .error f => (s, .error f)
    | .ok o =>
      match badScratch s (e % s.hart.lanes) ((List.range c.size).map (o + ·)) with
      | some b => (scratchError s (e % s.hart.lanes) b, .error (scratchFault o))
      | none => (putElem s c.size vd e (mgetN s.hart.scratch (16384 * (e % s.hart.lanes) + o) c.size), .ok 0)

def spstForm (vs m vi : Nat) : Form where
  m := m
  reads := true
  act := fun c _ e s =>
    match scratchCheck (own s c vi e) c.size 1 with
    | .error f => (s, .error f)
    | .ok o => (putScratch s (e % s.hart.lanes) o c.size (own s c vs e), .ok 0)

/-! Atomics (R195, R196). -/

/-- The value an atomic of `n` bytes leaves (R196): the compare value is used by cas alone. -/
def atomicNew (op n old v cmp : Nat) : Nat :=
  let b := 8 * n
  match op with
  | 0 => old
  | 1 | 11 => (old + v) % 2 ^ b
  | 2 => if signed b v < signed b old then v else old
  | 3 => if signed b old < signed b v then v else old
  | 4 => min old v
  | 5 => max old v
  | 6 => old &&& v
  | 7 => old ||| v
  | 8 => old ^^^ v
  | 10 => if old = cmp then v else old
  | _ => v

/-- Whether a form returns the old value, and how it accesses (R196, R305, R312). -/
def atomicReturns (op : Nat) : Bool := op != 1 && op != 12

def atomicAcc (op : Nat) : Nat :=
  match op with
  | 0 => 0
  | 12 => 1
  | _ => 3

/-- The request id that the model gives a new request: module, port, sequence (R374). -/
def freshId (s : State) (port : Nat) : Nat := 2 ^ 27 * ownModule s + 2 ^ 20 * port + s.nextSeq % 2 ^ 20

/-- The reply that another module keeps of an atomic of this one that has acted there (R374). -/
def keepReply (s : State) (pa old : Nat) : State :=
  if paModule pa = ownModule s then s
  else
    let port := ((pathTo s (paModule pa) 1).map Path.port).getD 0
    { s with replies := tset s.replies (freshId s port) ⟨pa, old⟩, nextSeq := s.nextSeq + 1 }

/-- What an atomic does at its home: the new value, and the reply kept. -/
def atomicApply (op n va v cmp pa : Nat) (s : State) : State :=
  let old := homeRead s pa n
  keepReply (locWrite s (hartLoc s va) pa (leBytes n (atomicNew op n old v cmp))) (homeAddr s pa) old

/-- The act of an atomic at the home of an address (R63, R196, R198): the old value, or the fault. A form that returns nothing enters
a failure in the error queue. -/
def atomicAct (op n va v cmp kind : Nat) (s : State) : State × Except AccFault Nat :=
  let fail (s : State) (pa : Nat) (f : AccFault) : State × Except AccFault Nat :=
    if atomicReturns op then (s, .error f) else (storeFailed s 2 va pa n f, .ok 0)
  match locate (hartView s) (atomicAcc op) va s with
  | (s, .error f) => (s, .error f)
  | (s, .ok pa) =>
    match reachHome s pa with
    | (s, .error f) => fail (if actsAnyway s pa f then atomicApply op n va v cmp pa s else s) pa f
    | (s, .ok pa) =>
      match checkData s pa n with
      | .error f => fail (lastingError s pa n) pa f
      | .ok _ => (touch (request s.hart.deadline (atomicApply op n va v cmp pa s) pa n) pa kind, .ok (homeRead s pa n))

/-- The check of a vector atomic's element before its group is sent (R198). -/
def atomicCheck (s : State) (op : Nat) (a : Int) (n : Nat) : State × Except ElemFault Nat :=
  match addrCheck a n (atomicAcc op) with
  | .error f => (s, .error f)
  | .ok va =>
    match translate (hartView s) (atomicAcc op) va s with
    | (s, .error f) => if f.data then (s, .ok va) else (s, .error ⟨f, atomicAcc op, va⟩)
    | (s, .ok _) => (s, .ok va)

/-- Address of an element of a vector atomic (R195). -/
def atomicAddr (s : State) (c : Captured) (b e : Nat) : Int := (c.sc1.toNat : Int) + signed c.w (own s c b e) * c.size

/-! Atomics that wait in queues (R346, R347, R350, R356; log 65). -/

/-- The packet of a context to a line that is still queued and not acknowledged (R347, R356). -/
def aheadOf (s : State) (ctxid : BitVec 32) (pa : Nat) : Option Packet :=
  (s.combines.flatMap Combine.parts ++ s.packets).find? fun p => p.ctxid == ctxid && p.addr / 128 == pa / 128 && p.id / 2 ^ 27 == ownModule s

/-- A request of the hart in hand as it enters the egress port of its die (R346, R347, R355, R356): it takes the stamp, the port and the path of
an earlier request of the context to the same line. Whether it is stamped from a context deadline is what the deadline in force at its issue
says, whichever stamp it takes (DESIGN CHOICE, log 107). -/
def newRequest (s : State) (kind : PacketKind) (va pa : Nat) : Packet :=
  let old := aheadOf s s.hart.ctxid pa
  let way : Nat × List Nat :=
    if paModule pa = ownModule s then (0, [])
    else
      match old with
      | some p => (p.port, p.hops)
      | none => ((pathTo s (paModule pa) (flitsOf kind.data)).map fun w => (w.port, w.hops)).getD (0, [])
  { id := freshId s way.1, place := 512 + s.hart.dieNo, port := way.1, hops := way.2, kind, addr := pa, va, pc := s.hart.irPc, ctxid := s.hart.ctxid
    stamp := old.elim (requestStamp s s.hart.deadline pa) Packet.stamp, fromDeadline := s.hart.deadline != 0 }

/-- A packet put into the queue of its place. -/
def enqueue (s : State) (p : Packet) : State := schedule { s with packets := s.packets ++ [p] } (.packetService p.place)

/-- Where an atomic waits in queues for its service: its physical address. -/
def queuedAt (s : State) (op va : Nat) : Option Nat :=
  match (translate (hartView s) (atomicAcc op) va s).2 with
  | .ok pa => if queuesAt s pa then some pa else none
  | .error _ => none

/-! The elements of a vector atomic that wait in queues are requests of their own (R197, R357). -/

/-- The request of an element, if it has been sent. -/
def Hart.elemRequest (h : Hart) (e : Nat) : Option ElemRequest := h.elems.find? fun r => r.elem == e

/-- Whether a request has no answer yet. -/
def ElemRequest.pending (r : ElemRequest) : Bool := r.old.isNone && r.fail.isNone

/-- An element sent to its home, if its access waits in queues there and it has not been sent. -/
def sendElem (op n va v cmp e : Nat) (s : State) : State :=
  match s.hart.elemRequest e, queuedAt s op va with
  | none, some pa =>
    let p := newRequest s (.atomic op n v cmp) va pa
    withHart (enqueue { s with nextSeq := s.nextSeq + 1 } p) fun h => { h with elems := h.elems ++ [⟨p.id, e, pa, none, none⟩] }
  | _, _ => s

/-- Whether an element cannot complete yet: its reply is awaited, or its access is still to be sent. -/
def elemWaits (s : State) (op va e : Nat) : Bool :=
  match s.hart.elemRequest e with
  | some r => r.pending
  | none => (queuedAt s op va).isSome

/-- An element whose home has answered: it has its old value, or its fault (R198, R360); the failure of a form that returns nothing has entered the
error queue. -/
def elemAnswered (r : ElemRequest) (op : Nat) (s : State) : State × Except AccFault Nat :=
  let s := withHart s fun h => { h with elems := h.elems.filter fun x => x.elem != r.elem }
  match r.fail with
  | some f => if atomicReturns op then (s, .error { cause := f.1, sub := f.2, data := true }) else (s, .ok 0)
  | none => (touch s r.pa 2, .ok (r.old.getD 0))

/-- The act of an element of a vector atomic. -/
def elemAct (op n va v cmp e : Nat) (s : State) : State × Except AccFault Nat :=
  match s.hart.elemRequest e with
  | some r => elemAnswered r op s
  | none => atomicAct op n va v cmp 2 s

/-- The operand of an element: brick d, or for cas the brick after it (R196). -/
def atomicValue (op d : Nat) (s : State) (c : Captured) (e : Nat) : Nat := if op = 10 then own s c (d + 1) e else own s c d e

/-- A vector atomic (R195 to R198). The group is checked before any of it is sent. -/
def atomicForm (op d xs1 b acq m : Nat) : Form where
  m := m
  reads := true
  fits := fun _ c => [2, 3, 6, 7].contains c.ety
  sc1 := fun s => rx s xs1
  check := some fun c e s =>
    if s.hart.elems.isEmpty then atomicCheck s op (atomicAddr s c b e) c.size else (s, .ok (atomicAddr s c b e).toNat)
  waits := fun c e s => writeWaits s (atomicAcc op) (atomicAddr s c b e) || elemWaits s op (atomicAddr s c b e).toNat e
  waiting := fun c es s =>
    if es.any fun e => writeWaits s (atomicAcc op) (atomicAddr s c b e) then s
    else es.foldl (fun s e => sendElem op c.size (atomicAddr s c b e).toNat (atomicValue op d s c e) (own s c d e) e s) s
  act := fun c _ e s =>
    let a := (atomicAddr s c b e).toNat
    match elemAct op c.size a (atomicValue op d s c e) (own s c d e) e s with
    | (s, .error f) => (s, .error ⟨f, atomicAcc op, a⟩)
    | (s, .ok old) => (if atomicReturns op then putElem s c.size d e old else s, .ok 0)
  done := fun _ s => if acq = 1 then newPhase s else s

end Sys2Proof.Machine
end

