-- ==== Sys2Proof/Machine/MatrixOps.lean ====
section
/-!
DEFINITION. What the forms of the matrix array do (R96 to R98, R210 to R226): tiles in memory, exact and tree sums, accumulator
rows, and the engine of forms that commit by rows.
-/

namespace Sys2Proof.Machine

/-! Forms that commit by rows (R218, R222, R226). -/

/-- A form that commits by rows: whether it needs the array, how many rows a capture asks for, what issue does besides, whether a row
must wait, and one row: its flags, or the faults of tile or element indexes. -/
structure RowForm where
  array : Bool := true
  rows : Captured → Nat
  sc1 : State → Word
  sc2 : State → Word
  fits : State → Captured → Bool
  issued : State → State := id
  waits : Captured → Nat → State → Bool := fun _ _ _ => false
  row : Captured → Nat → State → State × Except (List (Nat × ElemFault)) Nat

/-- Whether the hart in hand holds the array, and whether the shape fits (R211, R212). -/
def holdsArray (s : State) : Bool := s.core.claimant == some s.hart.idx

def shapeFits (s : State) : Bool := decide (shapeN s.hart.bshape * etypeSize s.hart.etype ≤ 256 * s.hart.lanes)

/-- The fault a row reports: the lowest index, its first cause, the address of its lowest faulting byte (R38, R218). -/
def rowFault (fs : List (Nat × ElemFault)) : Option (Nat × ElemFault) :=
  match lowest fs with
  | none => none
  | some (i, f) =>
    let same := fs.filter fun p => p.1 == i
    let w := same.foldl (fun w p => worse w p.2) f
    some (i, { w with va := same.foldl (fun v p => min v p.2.va) f.va })

/-- The fault of a matrix form (R39, R218, R226). -/
def rowFaulted (e : Entry) (fs : List (Nat × ElemFault)) (younger : List Entry) (s : State) : State :=
  match rowFault fs with
  | none => s
  | some (x, q) =>
    holdFault e younger
      { cause := q.why.cause, sub := q.why.sub, acc := q.acc, elem := x, addr := toWord q.va, po := q.why.po, w1 := e.w1, w2 := 0
        pair := false, lg := 0, sec := 0, bmap := 0, behind := 0 } s

/-- Rows committed. -/
def Entry.rows (e : Entry) : Nat := e.cnt.headD 0

def Entry.withRows (e : Entry) (n : Nat) : Entry := { e with cnt := n :: e.cnt.drop 1 }

/-- The rows of a new form, one after the other, up to `n` of them. -/
def RowForm.run (f : RowForm) : Nat → Entry → State → State
  | 0, _, s => complete s
  | n + 1, e, s =>
    if f.waits e.cap e.rows s then pend e s
    else
      match f.row e.cap e.rows s with
      | (s, .ok fl) => f.run n (e.withRows (e.rows + 1)) (raiseFlags s fl)
      | (s, .error fs) => rowFaulted e fs [] s

/-- Whether a form may issue (R15, R118, R211, R212). -/
def RowForm.issues (f : RowForm) (c : Captured) (s : State) : Bool :=
  (!f.array || holdsArray s) && capacityFits s.hart c c.size && f.fits s c

/-- What a form captures. -/
def RowForm.capture (f : RowForm) (s : State) : Captured :=
  Machine.capture s noOffset noOffset 0 0 s.hart.rseed (f.sc1 s) (f.sc2 s)

/-- A form that commits by rows issues. -/
def RowForm.issue (f : RowForm) (s : State) : State :=
  let c := f.capture s
  if !f.issues c s then illegalOperand s
  else if s.hart.held.isSome then pend (newEntry s c) (advance (f.issued s) 4)
  else f.run (f.rows c) (newEntry s c) (advance (f.issued s) 4)

/-- One row of a form in flight. -/
def RowForm.resume (f : RowForm) (e : Entry) (younger : List Entry) (s : State) : State :=
  if f.rows e.cap ≤ e.rows then complete (withHart s fun h => { h with inflight := younger })
  else if f.waits e.cap e.rows s then s
  else
    match f.row e.cap e.rows s with
    | (s, .ok fl) =>
      let s := raiseFlags s fl
      if f.rows e.cap ≤ e.rows + 1 then complete (withHart s fun h => { h with inflight := younger })
      else withHart s fun h => { h with inflight := e.withRows (e.rows + 1) :: younger }
    | (s, .error fs) => rowFaulted e fs younger s

/-! Weight tiles in memory (R216 to R218). -/

/-- Data rows of a tile, and bytes of a data row. -/
def tileRows (sparse : Bool) : Nat := if sparse then 32 else 64

def rowBytes (code : Nat) : Nat := 8 * (codeElem code).width

/-- Bytes of a scale, and number of scale blocks. -/
def scaleSize (code : Nat) : Nat := scaleBits code / 8

def scaleBlocks (code : Nat) : Nat := if codeBlock code = 0 then 0 else 64 / codeBlock code

/-- Where the metadata and the scales start, after the base. -/
def metaAt (sparse : Bool) (pitch : Nat) : Nat := tileRows sparse * pitch

def scalesAt (sparse : Bool) (pitch : Nat) : Nat := metaAt sparse pitch + if sparse then 512 else 0

/-- The bytes of a tile in memory: offset from the base, and the lowest tile index each serves. -/
def tileBytes (code : Nat) (sparse : Bool) (pitch : Nat) : List (Nat × Nat) :=
  let w := (codeElem code).width
  ((List.range (tileRows sparse)).flatMap fun q => (List.range (rowBytes code)).map fun o =>
    (q * pitch + o, 64 * (if sparse then 4 * (q / 2) else q) + 8 * o / w)) ++
  (if sparse then (List.range 512).map fun o => (metaAt sparse pitch + o, 256 * (o / 32) + 2 * (o % 32)) else []) ++
  ((List.range (64 * scaleBlocks code * scaleSize code)).map fun o =>
    let i := o / scaleSize code
    (scalesAt sparse pitch + o, i / 64 * codeBlock code * 64 + i % 64))

/-- The address checks of the bytes of a tile (R218, first step). A failure of a home is left to the read. -/
def checkTile (base : Nat) : List (Nat × Nat) → State → State × List (Nat × ElemFault)
  | [], s => (s, [])
  | (o, i) :: rest, s =>
    let va := base + o
    if base % 16 ≠ 0 then
      let r := checkTile base rest s
      (r.1, (i, ⟨{ cause := 3 }, 0, va⟩) :: r.2)
    else if 2 ^ 55 ≤ va then
      let r := checkTile base rest s
      (r.1, (i, ⟨{ cause := 4 }, 0, va⟩) :: r.2)
    else
      match translate (hartView s) 0 va s with
      | (s, .ok _) => checkTile base rest s
      | (s, .error f) =>
        let r := checkTile base rest s
        if f.data then r else (r.1, (i, ⟨f, 0, va⟩) :: r.2)

/-- The read of the bytes of a tile (R66, R218, third step): faults, and the bytes and their physical addresses by offset. -/
def readTile (base : Nat) : List (Nat × Nat) → State → State × List (Nat × ElemFault) × Memory × List (Nat × Nat)
  | [], s => (s, [], [], [])
  | (o, i) :: rest, s =>
    match engineGet s.hart.deadline (hartView s) (base + o) 1 s with
    | (s, .error f) =>
      let r := readTile base rest s
      (r.1, (i, ⟨f, 0, base + o⟩) :: r.2.1, r.2.2)
    | (s, .ok v) =>
      let r := readTile base rest s
      (r.1, r.2.1, mput r.2.2.1 o (BitVec.ofNat 8 v.2), (o, v.1) :: r.2.2.2)

/-- How many weights begin in the byte of a tile at an offset (R216). -/
def weightsAt (code : Nat) (sparse : Bool) (pitch o : Nat) : Nat :=
  let w := (codeElem code).width
  if o < metaAt sparse pitch ∧ o % pitch < rowBytes code then ceilDiv (8 * (o % pitch) + 8) w - ceilDiv (8 * (o % pitch)) w else 0

/-- The weights of a tile that is latched, counted (R317). -/
def countTile (code : Nat) (sparse : Bool) (pitch : Nat) (places : List (Nat × Nat)) (s : State) : State :=
  places.foldl (fun s p => if weightsAt code sparse pitch p.1 = 0 then s else touchN s p.2 1 (weightsAt code sparse pitch p.1)) s

/-- The metadata nibble of a group and column, and whether it is valid (R216, R217). -/
def nibble (img : Memory) (pitch g j : Nat) : Nat := field (mget img (metaAt true pitch + 32 * g + j / 2)).toNat (4 * (j % 2)) 4

def nibbleValid (n : Nat) : Bool := decide (n % 4 < n / 4)

/-- The lowest group and column with an invalid nibble (R218, fourth step). -/
def badNibble (img : Memory) (pitch : Nat) : Option Nat :=
  firstIndex (fun i => !nibbleValid (nibble img pitch (i / 64) (i % 64))) 1024 0

/-- The encoding of +0 in a format; code 31 counts from another bias (R88). -/
def zeroCode (code : Nat) : Nat := if code = 31 then 0x30 else 0

/-- The element of data row `q` in column `j`, a weight, a scale (R216). -/
def imageElem (code : Nat) (img : Memory) (pitch q j : Nat) : Nat :=
  let w := (codeElem code).width
  field (mgetN img (q * pitch + w * j / 8) ((w * j % 8 + w + 7) / 8)) (w * j % 8) w

def imageWeight (code : Nat) (sparse : Bool) (img : Memory) (pitch k j : Nat) : Nat :=
  if !sparse then imageElem code img pitch k j
  else
    let n := nibble img pitch (k / 4) j
    if n % 4 = k % 4 then imageElem code img pitch (2 * (k / 4)) j
    else if n / 4 = k % 4 then imageElem code img pitch (2 * (k / 4) + 1) j
    else zeroCode code

def imageScale (code : Nat) (sparse : Bool) (img : Memory) (pitch b j : Nat) : Nat :=
  mgetN img (scalesAt sparse pitch + (64 * b + j) * scaleSize code) (scaleSize code)

/-- The tile latched into W0 or W1 as one unit (R218, fifth step). -/
def latchTile (tile : Nat) (t : Tile) (s : State) : State := withCore s fun c => if tile = 0 then { c with w0 := t } else { c with w1 := t }

/-- A wld (R218). -/
def wldForm (xs code sp xp tile : Nat) : RowForm where
  rows := fun _ => 1
  sc1 := fun s => rx s xs
  sc2 := fun s => rx s xp
  fits := fun _ c => decide (c.sc2.toNat % 16 = 0) && decide (rowBytes code ≤ c.sc2.toNat) && decide (c.sc2.toNat < 2 ^ 32)
  row := fun c _ s =>
    let base := c.sc1.toNat
    let pitch := c.sc2.toNat
    let sparse := sp == 1
    let bytes := tileBytes code sparse pitch
    let a := checkTile base bytes s
    if !a.2.isEmpty then (a.1, .error a.2)
    else
      let b := readTile base bytes a.1
      if !b.2.1.isEmpty then (b.1, .error b.2.1)
      else
        let img := b.2.2.1
        match if sparse then badNibble img pitch else none with
        | some i => (b.1, .error [(256 * (i / 64) + i % 64, ⟨{ cause := 13 }, 0, base + metaAt true pitch + 32 * (i / 64) + i % 64 / 2⟩)])
        | none =>
          (countTile code sparse pitch b.2.2.2
            (latchTile tile (buildTile code sparse (imageWeight code sparse img pitch) (imageScale code sparse img pitch)) b.1), .ok 0)

/-! Accumulators (R210, R220 to R226). -/

/-- Where element (i, j) of an accumulator lies in the store of the core. -/
def accAt (acc i j : Nat) : Nat := 16384 * acc + 256 * i + 4 * j

def accGet (c : Core) (acc i j : Nat) : Nat := mgetN c.acc (accAt acc i j) 4

def accPut (acc i j v : Nat) (c : Core) : Core := { c with acc := mputN c.acc (accAt acc i j) 4 v }

/-- A row of 64 values written. -/
def accPutRow (acc i : Nat) (vs : List Nat) (c : Core) : Core :=
  (List.range 64).foldl (fun c j => accPut acc i j (vs.getD j 0) c) c

/-- A value rounded to f32 in rne, subnormals kept. -/
def roundF32 (v : Num × Nat) : Nat × Nat :=
  let r := Elem.ofNum (.flt f32) 0 0 false false v.1
  (r.1, r.2 ||| v.2)

/-- A sum of two f32 values rounded in rne. -/
def addF32 (a b : Nat) : Nat × Nat := roundF32 (addNum false (f32.decode a) (f32.decode b))

/-- A product of two scaled operands, exact (R96). -/
def scaledProduct (a sa w sw : Num) : Num × Nat :=
  let x := mulNum a sa
  let y := mulNum w sw
  let p := mulNum x.1 y.1
  (p.1, x.2 ||| y.2 ||| p.2)

/-- The exact sum of products and its rounding T (R96). -/
def exactSum (ps : List (Num × Nat)) : Nat × Nat :=
  let vs := ps.map Prod.fst
  let fl := ps.foldl (fun f p => f ||| p.2) 0
  let pos := vs.any fun v => v == .inf false
  let neg := vs.any fun v => v == .inf true
  if pos && neg then (f32.canonNaN, fl ||| flNV)
  else if vs.any Num.isNaN then (f32.canonNaN, fl)
  else
    let s := (vs.foldl (fun a v => (addNum false a v).1) (.fin false 0 0))
    let minus := vs.all fun v => match v with
      | .fin n m _ => n && decide (m = 0)
      | _ => false
    match s with
    | .fin n m e => if m = 0 then (if minus then 2 ^ 31 else 0, fl) else roundF32 (.fin n m e, fl)
    | v => roundF32 (v, fl)

/-- Element j of a row by R96. -/
def dotExact (ps : List (Num × Nat)) (acc : Nat) : Nat × Nat :=
  let t := exactSum ps
  let r := addF32 acc t.1
  (r.1, r.2 ||| t.2)

/-- One level of the tree of R98. -/
def treeLevel : List Nat → List Nat × Nat
  | a :: b :: rest =>
    let r := addF32 a b
    let t := treeLevel rest
    (r.1 :: t.1, r.2 ||| t.2)
  | l => (l, 0)

def treeSum : Nat → List Nat → Nat × Nat
  | 0, l => (l.headD 0, 0)
  | n + 1, l =>
    let t := treeLevel l
    let r := treeSum n t.1
    (r.1, r.2 ||| t.2)

/-- A value whose NaN raises no flag. -/
def Num.quiet : Num → Num
  | .nan _ => .nan false
  | v => v

/-- Element j of a row by R98, from the rounded products: a signalling NaN sets nv among the activations and weights, not in the accumulator. -/
def dotTree (ps : List (Nat × Nat)) (acc : Nat) : Nat × Nat :=
  let t := treeSum 6 (ps.map Prod.fst)
  let r := roundF32 (addNum false (f32.decode acc).quiet (f32.decode t.1))
  (r.1, r.2 ||| t.2 ||| ps.foldl (fun f p => f ||| p.2) 0)

/-- The fields of the row register (R220). -/
def rowI (w : Word) : Nat := bitsOf w 0 6
def rowY (w : Word) : Nat := bitsOf w 16 14
def rowZ (w : Word) : Nat := bitsOf w 32 14

/-- The activation code of a stream. -/
def actCode (s : State) (st : Nat) : Nat := vget s.core.afmt st 0

/-- The issue checks of an mrow (R222). -/
def mrowFits (vb st : Nat) (s : State) (c : Captured) : Bool :=
  let code := actCode s st
  let scaled := codeBlock code != 0
  decide (rowY c.sc1 < c.ny) && decide (rowZ c.sc1 < c.nz) && decide (s.core.mvl ≤ c.nx) && packedFits s c code &&
    (!scaled || (vb != 31 && decide (scaleBits code * ceilDiv (scaleBlocks code * c.ny * c.nz) s.hart.lanes ≤ 2048))) &&
    ((code == 0) == (s.core.w0.code == 0))

/-- Activation k of the row and the scale of its block (R221). -/
def activation (s : State) (c : Captured) (code vb k : Nat) : Nat :=
  packedAt s.hart.bricks s.hart.lanes (codeElem code).width vb (k + c.nx * (rowY c.sc1 + c.ny * rowZ c.sc1))

def activationScale (s : State) (c : Captured) (code vb k : Nat) : Nat :=
  if codeBlock code = 0 then 0
  else
    packedAt s.hart.bricks s.hart.lanes (scaleBits code) (vb + 1)
      (k / codeBlock code + scaleBlocks code * (rowY c.sc1 + c.ny * rowZ c.sc1))

/-- Product k of column j, rounded (R98) and exact (R96); +0 at and above MVL. -/
def productF32 (s : State) (c : Captured) (vb j k : Nat) : Nat × Nat :=
  if k < s.core.mvl then roundF32 (mulNum (f32.decode (activation s c 0 vb k)) (f32.decode (s.core.w0.wt k j))) else (0, 0)

def productExact (s : State) (c : Captured) (code vb j k : Nat) : Num × Nat :=
  if k < s.core.mvl then
    let wc := s.core.w0.code
    scaledProduct ((codeElem code).decode (activation s c code vb k)) (scaleNum code (activationScale s c code vb k))
      ((codeElem wc).decode (s.core.w0.wt k j)) (scaleNum wc (if codeBlock wc = 0 then 0 else s.core.w0.sc (k / codeBlock wc) j))
  else (.fin false 0 0, 0)

/-- Element j of the accumulator row (R222). -/
def mrowElem (s : State) (c : Captured) (vb acc st j : Nat) : Nat × Nat :=
  let old := accGet s.core acc (rowI c.sc1) j
  if actCode s st = 0 then dotTree ((List.range 64).map (productF32 s c vb j)) old
  else dotExact ((List.range 64).map (productExact s c (actCode s st) vb j)) old

/-- An mrow (R222). -/
def mrowForm (vb acc xs st : Nat) : RowForm where
  rows := fun _ => 1
  sc1 := fun s => rx s xs
  sc2 := fun _ => 0
  fits := mrowFits vb st
  row := fun c _ s =>
    let r := (List.range 64).map (mrowElem s c vb acc st)
    (addPerf (withCore s (accPutRow acc (rowI c.sc1) (r.map Prod.fst))) 2 1, .ok (r.foldl (fun f p => f ||| p.2) 0))

/-- The pitch check of ald and ast (R224). -/
def pitchFits (n : Nat) (c : Captured) : Bool :=
  decide (c.sc2.toNat % n = 0) && decide (64 * n ≤ c.sc2.toNat) && decide (c.sc2.toNat < 2 ^ 32)

/-- Address of element (i, j), exact (R224). -/
def accAddr (c : Captured) (tr n i j : Nat) : Nat := c.sc1.toNat + if tr = 1 then j * c.sc2.toNat + i * n else i * c.sc2.toNat + j * n

/-- An element read, with its base checked (R224): every element is misaligned where the base is. -/
def aldElem (c : Captured) (i j : Nat) (s : State) : State × Except ElemFault Nat :=
  let va := accAddr c 0 4 i j
  if c.sc1.toNat % 4 ≠ 0 then (s, .error ⟨{ cause := 3 }, 0, va⟩) else readElem s va 4 1

/-- The elements `j` to `63` of a row read: faults and values. -/
def aldRow (c : Captured) (i : Nat) : List Nat → State → State × List (Nat × ElemFault) × List Nat
  | [], s => (s, [], [])
  | j :: js, s =>
    match aldElem c i j s with
    | (s, .error f) =>
      let r := aldRow c i js s
      (r.1, (64 * i + j, f) :: r.2.1, r.2.2)
    | (s, .ok v) =>
      let r := aldRow c i js s
      (r.1, r.2.1, v :: r.2.2)

def aldForm (acc xs xp : Nat) : RowForm where
  rows := fun _ => 64
  sc1 := fun s => rx s xs
  sc2 := fun s => rx s xp
  fits := fun _ c => pitchFits 4 c
  row := fun c i s =>
    let r := aldRow c i (List.range 64) s
    if r.2.1.isEmpty then (withCore r.1 (accPutRow acc i r.2.2), .ok 0) else (uncounted s r.1, .error r.2.1)

/-- The value ast writes (R225) and its flags. -/
def astValue (ety v : Nat) : Nat × Nat := if ety = 10 then (v, 0) else convert (.flt f32) (etypeElem ety) 0 0 false true v

/-- The checks of a row of ast before any of its writes. -/
def astCheck (c : Captured) (tr n i : Nat) : List Nat → State → State × List (Nat × ElemFault)
  | [], s => (s, [])
  | j :: js, s =>
    let va := accAddr c tr n i j
    let a : State × Except ElemFault Nat :=
      if c.sc1.toNat % n ≠ 0 then (s, .error ⟨{ cause := 3 }, 1, va⟩) else checkWrite s va n
    let r := astCheck c tr n i js a.1
    match a.2 with
    | .error f => (r.1, (64 * i + j, f) :: r.2)
    | .ok _ => r

/-- The writes of a row of ast, and their flags. -/
def astWrite (c : Captured) (acc tr ety i : Nat) (s : State) : State × Nat :=
  let n := etypeSize ety
  (List.range 64).foldl (fun r j =>
    let v := astValue ety (accGet r.1.core acc i j)
    ((store (accAddr c tr n i j) (leBytes n v.1) 1 r.1).1, r.2 ||| v.2)) (s, 0)

def astForm (acc xs xp ety tr : Nat) : RowForm where
  rows := fun _ => 64
  sc1 := fun s => rx s xs
  sc2 := fun s => rx s xp
  fits := fun _ c => pitchFits (etypeSize ety) c
  row := fun c i s =>
    let a := astCheck c tr (etypeSize ety) i (List.range 64) s
    if a.2.isEmpty then
      let r := astWrite c acc tr ety i a.1
      (r.1, .ok r.2)
    else (a.1, .error a.2)

end Sys2Proof.Machine
end

