-- ==== Sys2Proof/Machine/LinkOps.lean ====
section
/-!
DEFINITION. Neighbour links (R41, R253 to R255): where a side leads, the channels of a core, and the two forms, which commit by rows.
-/

namespace Sys2Proof.Machine

/-- The core that a side leads to: 0 north, 1 south, 2 east, 3 west; none on the edge of the grid (R40, R41). -/
def neighbour (cx cy side : Nat) : Option Nat :=
  match side with
  | 0 => if cy + 1 < 32 then some (coreNo cx (cy + 1)) else none
  | 1 => if 0 < cy then some (coreNo cx (cy - 1)) else none
  | 2 => if cx + 1 < 48 then some (coreNo (cx + 1) cy) else none
  | _ => if 0 < cx then some (coreNo (cx - 1) cy) else none

/-- The side by which what leaves on a side arrives. -/
def farSide (side : Nat) : Nat := if side % 2 = 0 then side + 1 else side - 1

/-- The rows that wait in a channel of a core, oldest first (R254). -/
def channelRows (s : State) (core side idx : Nat) : List LinkRow := (coreAt s core).links.filter fun r => r.side == side && r.idx == idx

/-- Whether a row is on its way to a channel, and its length. -/
def onTheWay (core side idx : Nat) (i : Instr) : Nat :=
  match i with
  | .neighbourRowArrival c d x n _ => if c = core ∧ d = side ∧ x = idx then n else 0
  | _ => 0

/-- Bytes a channel holds or has been sent (R254): it is full at 256 (log 16). -/
def channelLoad (s : State) (core side idx : Nat) : Nat :=
  ((channelRows s core side idx).map fun r => r.bytes.length).foldl (· + ·) 0 + (s.agenda.map (onTheWay core side idx)).foldl (· + ·) 0

/-- The rows a spec names: first row and row count (R253). -/
def firstRow (c : Captured) : Nat := bitsOf c.sc1 0 32
def rowCount (c : Captured) : Nat := bitsOf c.sc1 32 16

/-- The row spec's check and the edge check (R41, R253). -/
def linkFits (side : Nat) (s : State) (c : Captured) : Bool :=
  decide (rowCount c ≠ 0) && decide (firstRow c + rowCount c ≤ c.ny * c.nz) && (neighbour s.hart.cx s.hart.cy side).isSome

/-- The bytes of row `q` of a brick (R253). -/
def linkRow (s : State) (c : Captured) (reg q : Nat) : List Byte :=
  (List.range c.nx).flatMap fun i => leBytes c.size (own s c reg (q * c.nx + i))

/-- A context that has executed a link form is pinned to its core and partition (R255). -/
def pin (s : State) : State := withHart s fun h => { h with pinned := true }

/-- nlsend (R254): each row goes to the channel of the named hart index of the neighbour core; a full channel makes it wait. -/
def nlsendForm (vb xs1 xs2 side : Nat) : RowForm where
  array := false
  rows := rowCount
  sc1 := fun s => rx s xs1
  sc2 := fun s => rx s xs2
  fits := linkFits side
  issued := pin
  waits := fun c _ s =>
    match neighbour s.hart.cx s.hart.cy side with
    | some n => decide (256 ≤ channelLoad s n (farSide side) (bitsOf c.sc2 0 3))
    | none => false
  row := fun c k s =>
    match neighbour s.hart.cx s.hart.cy side with
    | some n =>
      let bs := linkRow s c vb (firstRow c + k)
      (schedule s (.neighbourRowArrival n (farSide side) (bitsOf c.sc2 0 3) bs.length (ofLe bs)), .ok 0)
    | none => (s, .ok 0)

/-- The oldest row of the hart's own channel on a side. -/
def headRow (s : State) (side : Nat) : Option LinkRow := (channelRows s s.hart.coreNo side s.hart.idx).head?

/-- The oldest row of the hart's own channel taken out. -/
def takeRow (s : State) (side : Nat) : State :=
  match headRow s side with
  | some r => withCore s fun c => { c with links := c.links.erase r }
  | none => s

/-- A received element put where the form names: a brick register, or a scratchpad halo with the placement of R28. -/
def putLinkElem (halo : Bool) (c : Captured) (reg e v : Nat) (s : State) : State :=
  if !halo then putElem s c.size reg e v
  else
    (List.range c.size).foldl (fun s i =>
      putScratch s (e % s.hart.lanes) ((bitsOf c.sc2 0 14 + bitsOf c.sc2 16 9 * (e / s.hart.lanes) + i) % 16384) 1 (v / 256 ^ i)) s

/-- nlrecv (R255): rows of the hart's own channel, waiting for each; a row of another length is an illegal operand at that row. -/
def nlrecvForm (vb xs1 xs2 side : Nat) : RowForm where
  array := false
  rows := rowCount
  sc1 := fun s => rx s xs1
  sc2 := fun s => rx s xs2
  fits := linkFits side
  issued := pin
  waits := fun _ _ s => (headRow s side).isNone
  row := fun c k s =>
    let q := firstRow c + k
    match headRow s side with
    | none => (s, .ok 0)
    | some r =>
      if r.bytes.length ≠ c.nx * c.size then (s, .error [(q, ⟨{ cause := 2 }, 0, 0⟩)])
      else
        ((List.range c.nx).foldl (fun s i =>
          putLinkElem (xs2 != 0) c vb (q * c.nx + i) (ofLe ((r.bytes.drop (i * c.size)).take c.size)) s) (takeRow s side), .ok 0)

end Sys2Proof.Machine
end

