-- ==== Sys2Proof/Machine/Jobs.lean ====
section
/-!
DEFINITION. The form of each instruction that takes an in-flight slot (R36), from its word: a resumed entry is read back from here
(R307). The issue of such an instruction, and of a prefix pair.
-/

namespace Sys2Proof.Machine

/-- How an in-flight instruction works: by element groups or by rows. -/
inductive Job where
  | elems (f : Form)
  | rows (f : RowForm)

/-- The job of an instruction that can be in flight. -/
def jobOf (i : Instr) : Option Job :=
  match i with
  | .vadd vd vs1 vs2 m o _ _ => some (.elems (intForm opAdd vd vs1 vs2 m o))
  | .vsub vd vs1 vs2 m o _ _ => some (.elems (intForm opSub vd vs1 vs2 m o))
  | .vmul vd vs1 vs2 m o _ _ => some (.elems (intForm opMul vd vs1 vs2 m o))
  | .vmulh vd vs1 vs2 m o _ _ => some (.elems (intForm opMulh vd vs1 vs2 m o))
  | .vmin vd vs1 vs2 m o _ _ => some (.elems (intForm opMin vd vs1 vs2 m o))
  | .vmax vd vs1 vs2 m o _ _ => some (.elems (intForm opMax vd vs1 vs2 m o))
  | .vaddSat vd vs1 vs2 m o _ _ => some (.elems (intForm opAddSat vd vs1 vs2 m o))
  | .vsubSat vd vs1 vs2 m o _ _ => some (.elems (intForm opSubSat vd vs1 vs2 m o))
  | .vand vd vs1 vs2 m o _ _ => some (.elems (intForm opAnd vd vs1 vs2 m o))
  | .vor vd vs1 vs2 m o _ _ => some (.elems (intForm opOr vd vs1 vs2 m o))
  | .vxor vd vs1 vs2 m o _ _ => some (.elems (intForm opXor vd vs1 vs2 m o))
  | .vsll vd vs1 vs2 m o _ _ => some (.elems (intForm opSll vd vs1 vs2 m o))
  | .vsrl vd vs1 vs2 m o _ _ => some (.elems (intForm opSrl vd vs1 vs2 m o))
  | .vsra vd vs1 vs2 m o _ _ => some (.elems (intForm opSra vd vs1 vs2 m o))
  | .vmulSat vd vs1 vs2 m o _ _ => some (.elems (intForm opMulSat vd vs1 vs2 m o))
  | .vsel vd vs1 vs2 m o _ _ => some (.elems (vselForm vd vs1 vs2 m o))
  | .vaddx vd vs1 xs m _ sel => some (.elems (intXForm opAdd vd vs1 sel xs m))
  | .vsubx vd vs1 xs m _ sel => some (.elems (intXForm opSub vd vs1 sel xs m))
  | .vmulx vd vs1 xs m _ sel => some (.elems (intXForm opMul vd vs1 sel xs m))
  | .vminx vd vs1 xs m _ sel => some (.elems (intXForm opMin vd vs1 sel xs m))
  | .vmaxx vd vs1 xs m _ sel => some (.elems (intXForm opMax vd vs1 sel xs m))
  | .vsllx vd vs1 xs m _ sel => some (.elems (intXForm opSll vd vs1 sel xs m))
  | .vsrlx vd vs1 xs m _ sel => some (.elems (intXForm opSrl vd vs1 sel xs m))
  | .vsrax vd vs1 xs m _ sel => some (.elems (intXForm opSra vd vs1 sel xs m))
  | .vfadd vd vs1 vs2 m rm _ _ => some (.elems ((fltForm fAdd vd vs1 vs2 m).rounding rm))
  | .vfsub vd vs1 vs2 m rm _ _ => some (.elems ((fltForm fSub vd vs1 vs2 m).rounding rm))
  | .vfmul vd vs1 vs2 m rm _ _ => some (.elems ((fltForm fMul vd vs1 vs2 m).rounding rm))
  | .vfdiv vd vs1 vs2 m rm _ _ => some (.elems ((fltForm fDiv vd vs1 vs2 m).rounding rm))
  | .vfsqrt vd vs1 m rm _ => some (.elems ((fltOneForm fSqrt vd vs1 m).rounding rm))
  | .vfmin vd vs1 vs2 m _ _ => some (.elems (fltForm fMin vd vs1 vs2 m))
  | .vfmax vd vs1 vs2 m _ _ => some (.elems (fltForm fMax vd vs1 vs2 m))
  | .vfabs vd vs1 m _ => some (.elems (fltOneForm fAbs vd vs1 m))
  | .vfma vd vs1 vs2 m rm _ _ => some (.elems (fusedForm false false vd vs1 vs2 m rm))
  | .vfms vd vs1 vs2 m rm _ _ => some (.elems (fusedForm false true vd vs1 vs2 m rm))
  | .vfnma vd vs1 vs2 m rm _ _ => some (.elems (fusedForm true true vd vs1 vs2 m rm))
  | .vfnms vd vs1 vs2 m rm _ _ => some (.elems (fusedForm true false vd vs1 vs2 m rm))
  | .vfaddx vd vs1 xs m rm _ => some (.elems ((fltXForm fAdd vd vs1 xs m).rounding rm))
  | .vfsubx vd vs1 xs m rm _ => some (.elems ((fltXForm fSub vd vs1 xs m).rounding rm))
  | .vfmulx vd vs1 xs m rm _ => some (.elems ((fltXForm fMul vd vs1 xs m).rounding rm))
  | .vfdivx vd vs1 xs m rm _ => some (.elems ((fltXForm fDiv vd vs1 xs m).rounding rm))
  | .vfrsubx vd vs1 xs m rm _ => some (.elems ((fltXForm fRsub vd vs1 xs m).rounding rm))
  | .vfmaxPropagating vd vs1 xs m _ => some (.elems (fltXForm fMaxProp vd vs1 xs m))
  | .vfminx vd vs1 xs m _ => some (.elems (fltXForm fMin vd vs1 xs m))
  | .vfmaxx vd vs1 xs m _ => some (.elems (fltXForm fMax vd vs1 xs m))
  | .vceq md vs1 vs2 m o _ _ => some (.elems (cmpForm relEq 0 md vs1 vs2 m o))
  | .vcne md vs1 vs2 m o _ _ => some (.elems (cmpForm relNe 0 md vs1 vs2 m o))
  | .vclt md vs1 vs2 m o _ _ => some (.elems (cmpForm relLt 0 md vs1 vs2 m o))
  | .vcle md vs1 vs2 m o _ _ => some (.elems (cmpForm relLe 0 md vs1 vs2 m o))
  | .vcun md vs1 vs2 m o _ _ => some (.elems (cmpForm relUn 2 md vs1 vs2 m o))
  | .vceqx md vs1 xs m _ sel => some (.elems (cmpXForm relEq md vs1 xs m sel))
  | .vcnex md vs1 xs m _ sel => some (.elems (cmpXForm relNe md vs1 xs m sel))
  | .vcltx md vs1 xs m _ sel => some (.elems (cmpXForm relLt md vs1 xs m sel))
  | .vclex md vs1 xs m _ sel => some (.elems (cmpXForm relLe md vs1 xs m sel))
  | .vcgtx md vs1 xs m _ sel => some (.elems (cmpXForm relGt md vs1 xs m sel))
  | .vcgex md vs1 xs m _ sel => some (.elems (cmpXForm relGe md vs1 xs m sel))
  | .vmand md ms1 ms2 m => some (.elems (maskForm (fun a b => a && b) md ms1 ms2 m))
  | .vmor md ms1 ms2 m => some (.elems (maskForm (fun a b => a || b) md ms1 ms2 m))
  | .vmxor md ms1 ms2 m => some (.elems (maskForm (fun a b => a != b) md ms1 ms2 m))
  | .vmandn md ms1 ms2 m => some (.elems (maskForm (fun a b => a && !b) md ms1 ms2 m))
  | .vmnot md ms1 m => some (.elems (maskForm (fun a _ => !a) md ms1 0 m))
  | .vmpopc md ms1 m => some (.elems (vmpopcForm md ms1 m))
  | .vmfirst md ms1 m => some (.elems (vmfirstForm md ms1 m))
  | .vcvt vd vs1 code m rm _ => some (.elems (vcvtForm false vd vs1 code m rm))
  | .vcvtSat vd vs1 code m rm _ => some (.elems (vcvtForm true vd vs1 code m rm))
  | .vunpk vd vs1 code m rm _ => some (.elems (vunpkForm vd vs1 code m rm))
  | .vpack vd vs1 code m rm _ => some (.elems (vpackForm vd vs1 code m rm))
  | .vrsum vd vs1 axis m rm _ => some (.elems (reduceForm 0 idZero vrsumLine vd vs1 axis m rm))
  | .vrmin vd vs1 axis m _ => some (.elems (reduceForm 0 idMin vrminLine vd vs1 axis m 0))
  | .vrmax vd vs1 axis m _ => some (.elems (reduceForm 0 idMax vrmaxLine vd vs1 axis m 0))
  | .vrand vd vs1 axis m _ => some (.elems (reduceForm 1 idOnes (bitLine (· &&& ·)) vd vs1 axis m 0))
  | .vror vd vs1 axis m _ => some (.elems (reduceForm 1 idZero (bitLine (· ||| ·)) vd vs1 axis m 0))
  | .vrxor vd vs1 axis m _ => some (.elems (reduceForm 1 idZero (bitLine (· ^^^ ·)) vd vs1 axis m 0))
  | .vmovx vd xs m sel => some (.elems (vmovxForm vd xs m sel))
  | .vextx vd vs1 xs m _ => some (.elems (vextxForm vd vs1 xs m))
  | .vcoordX vd xs m sel => some (.elems (vcoordForm 0 vd xs m sel))
  | .vcoordY vd xs m sel => some (.elems (vcoordForm 1 vd xs m sel))
  | .vcoordZ vd xs m sel => some (.elems (vcoordForm 2 vd xs m sel))
  | .vtrxy vd vs1 m _ => some (.elems (vtrxyForm vd vs1 m))
  | .vslide vd vs1 amt m axis _ => some (.elems (vslideForm vd vs1 amt m axis))
  | .vrot vd vs1 amt m axis _ => some (.elems (vrotForm vd vs1 amt m axis))
  | .vgidx vd vs1 vs2 m _ _ => some (.elems (vgidxForm vd vs1 vs2 m))
  | .vld vd sn m _ => some (.elems (vldForm false vd sn m))
  | .vldAdv vd sn m _ => some (.elems (vldForm true vd sn m))
  | .vst vd sn m _ => some (.elems (vstForm false vd sn m))
  | .vstAdv vd sn m _ => some (.elems (vstForm true vd sn m))
  | .vgath vd sn m mode vi _ => some (.elems (vgathForm vd sn m mode vi))
  | .vscat vd sn m mode vi _ => some (.elems (vscatForm vd sn m mode vi))
  | .spld vd m vi _ => some (.elems (spldForm vd m vi))
  | .spst vd m vi _ => some (.elems (spstForm vd m vi))
  | .atomAld d xs1 b _ acq _ _ w => some (.elems (atomicForm 0 d xs1 b acq w))
  | .atomAadd d xs1 b _ acq _ _ w => some (.elems (atomicForm 1 d xs1 b acq w))
  | .atomAmin d xs1 b _ acq _ _ w => some (.elems (atomicForm 2 d xs1 b acq w))
  | .atomAmax d xs1 b _ acq _ _ w => some (.elems (atomicForm 3 d xs1 b acq w))
  | .atomAminZ d xs1 b _ acq _ _ w => some (.elems (atomicForm 4 d xs1 b acq w))
  | .atomAmaxZ d xs1 b _ acq _ _ w => some (.elems (atomicForm 5 d xs1 b acq w))
  | .atomAand d xs1 b _ acq _ _ w => some (.elems (atomicForm 6 d xs1 b acq w))
  | .atomAor d xs1 b _ acq _ _ w => some (.elems (atomicForm 7 d xs1 b acq w))
  | .atomAxor d xs1 b _ acq _ _ w => some (.elems (atomicForm 8 d xs1 b acq w))
  | .atomSwap d xs1 b _ acq _ _ w => some (.elems (atomicForm 9 d xs1 b acq w))
  | .atomCas d xs1 b _ acq _ _ w => some (.elems (atomicForm 10 d xs1 b acq w))
  | .atomFadd d xs1 b _ acq _ _ w => some (.elems (atomicForm 11 d xs1 b acq w))
  | .atomAst d xs1 b _ acq _ _ w => some (.elems (atomicForm 12 d xs1 b acq w))
  | .wld xs code sp xp tile => some (.rows (wldForm xs code sp xp tile))
  | .mrow vb acc xs _ st => some (.rows (mrowForm vb acc xs st))
  | .ald acc xs xp => some (.rows (aldForm acc xs xp))
  | .ast acc xs xp ety tr => some (.rows (astForm acc xs xp ety tr))
  | .nlsend vb xs1 xs2 side => some (.rows (nlsendForm vb xs1 xs2 side))
  | .nlrecv vb xs1 xs2 side => some (.rows (nlrecvForm vb xs1 xs2 side))
  | _ => none

/-- The job of a recorded entry, from its words (R303, R321). -/
def entryJob (e : Entry) : Option Job :=
  match decodeWord (if e.pair then e.w2 else e.w1) with
  | .ok i => jobOf i
  | .error _ => none

/-- How far an entry will advance RSEED when it completes (R81). -/
def entryDraws (e : Entry) : Nat :=
  match entryJob e with
  | some (.elems f) => if f.draws e.cap then e.cap.n else 0
  | _ => 0

/-- The RSEED that an instruction issues with now (R81). -/
def seedNow (s : State) : Word := issueSeed s.hart entryDraws

/-- An instruction that works element by element, without a prefix. -/
def vector (f : Form) (s : State) : Result := .next (f.issue none (seedNow s) 4 s)

/-- The same behind a prefix, as one instruction of 8 bytes (R117). -/
def prefixed (f : Form) (p : Prefixed) (s : State) : Result := .next (f.issue (some p) (seedNow s) 8 s)

/-- A form that commits by rows. -/
def matrix (f : RowForm) (s : State) : Result := .next (f.issue s)

/-- OFS (R19, R31): the second word's form, at the offsets of the prefix. -/
def execOfs (dx1 dy1 dz1 dx2 dy2 dz2 ovr w2 : Nat) (s : State) : Result :=
  let p : Prefixed := ⟨⟨signed 4 dx1, signed 4 dy1, signed 4 dz1⟩, ⟨signed 4 dx2, signed 4 dy2, signed 4 dz2⟩, ovr⟩
  match decodeWord w2 with
  | .error _ => .next (illegalInstr s)
  | .ok i =>
    match jobOf i with
    | some (.elems f) => prefixed f p s
    | _ => .next (illegalInstr s)

/-- The oldest in-flight instruction goes on by one element group or row; it has completed when its words name no form. Behind a fault that is
held nothing commits, and the instruction that faulted does not run again before its trap (R37, R218). -/
def commitHead (s : State) : State :=
  if s.hart.held.isSome then s
  else
    match s.hart.inflight with
    | [] => s
    | e :: younger =>
      let s := withHart s fun h => { h with irPc := e.pc }
      match entryJob e with
      | some (.elems f) => f.resume e younger s
      | some (.rows f) => f.resume e younger s
      | none => withHart s fun h => { h with inflight := younger }

/-- ELEMENT_GROUP_COMMIT (R36). -/
def execElementGroupCommit (s : State) : Result := .next (commitHead s)

end Sys2Proof.Machine
end

