-- ==== Sys2Proof/Machine/Memory.lean ====
section
/-!
DEFINITION. The meanings of the stream forms and of the vector memory forms (R185 to R194).
-/

namespace Sys2Proof.Machine

/-- Dwords read from an address up as plain loads of the hart (R185), up to the first that faults. -/
def readWords (va : Nat) : Nat → State → State × Except (AccFault × Nat) (List Nat)
  | 0, s => (s, .ok [])
  | n + 1, s =>
    match load va 8 1 s with
    | (s, .error f) => (s, .error (f, va))
    | (s, .ok v) =>
      match readWords (va + 8) n s with
      | (s, .error e) => (s, .error e)
      | (s, .ok vs) => (s, .ok (v :: vs))

/-- The same for a form that reads all of them or none (R317). -/
def loadWords (va n : Nat) (s : State) : State × Except (AccFault × Nat) (List Nat) :=
  match readWords va n s with
  | (t, .error e) => (uncounted s t, .error e)
  | r => r

/-- The checks of `n` dwords written from an address up, and the writes. -/
def checkWords (va : Nat) : Nat → State → State × Except (AccFault × Nat) Unit
  | 0, s => (s, .ok ())
  | n + 1, s =>
    match translate (hartView s) 1 va s with
    | (s, .error f) => if f.data then checkWords (va + 8) n s else (s, .error (f, va))
    | (s, .ok _) => checkWords (va + 8) n s

def storeWords (va : Nat) : List Nat → State → State
  | [], s => s
  | v :: vs, s => storeWords (va + 8) vs (store va (leBytes 8 v) 1 s).1

def execSset (xs1 n : Nat) (s : State) : Result :=
  let va := (rx s xs1).toNat
  if va % 64 ≠ 0 then .next (trapSelf s 3 0 0 0 (toWord va))
  else
    match loadWords va 8 s with
    | (s, .error (f, a)) => .next (trapAccess s f 0 0 a)
    | (s, .ok vs) =>
      .next (retire (pace n (withHart s fun h => { h with streams := vset h.streams n (streamFields (BitVec.ofNat 512 (packBits 64 vs))) })) 4)

def execSget (xs1 n : Nat) (s : State) : Result :=
  let va := (rx s xs1).toNat
  if va % 64 ≠ 0 then .next (trapSelf s 3 0 1 0 (toWord va))
  else
    match checkWords va 8 s with
    | (s, .error (f, a)) => .next (trapAccess s f 1 0 a)
    | (s, .ok _) =>
      let r := vget s.hart.streams n 0
      .next (retire (storeWords va ((List.range 8).map fun i => field r.toNat (64 * i) 64) s) 4)

def execSbase (xd xs1 n : Nat) (s : State) : Result :=
  let r := vget s.hart.streams n 0
  let base := bitsOf (rx s xs1) 0 55
  finish xd (toWord (stBase r)) (pace n (withHart s fun h => { h with streams := vset h.streams n (withBase r base) }))

def execVld (vd sn m _ : Nat) (s : State) : Result := vector (vldForm false vd sn m) s
def execVldAdv (vd sn m _ : Nat) (s : State) : Result := vector (vldForm true vd sn m) s
def execVst (vd sn m _ : Nat) (s : State) : Result := vector (vstForm false vd sn m) s
def execVstAdv (vd sn m _ : Nat) (s : State) : Result := vector (vstForm true vd sn m) s
def execVgath (vd sn m mode vi _ : Nat) (s : State) : Result := vector (vgathForm vd sn m mode vi) s
def execVscat (vd sn m mode vi _ : Nat) (s : State) : Result := vector (vscatForm vd sn m mode vi) s
def execSpld (vd m vi _ : Nat) (s : State) : Result := vector (spldForm vd m vi) s
def execSpst (vd m vi _ : Nat) (s : State) : Result := vector (spstForm vd m vi) s

/-- The pages of a brick position of a stream (R186): the pacer translates the page of each element's address that is canonical. -/
def positionAddrs (r : BitVec 512) (b : Word) : List Nat :=
  (List.range (shapeN b)).filterMap fun (e : Nat) =>
    let x : Int := (stPos r 0 + e % shapeX b : Nat)
    let y : Int := (stPos r 1 + e / shapeX b % shapeY b : Nat)
    let z : Int := (stPos r 2 + e / (shapeX b * shapeY b) : Nat)
    let a := stAddr r x y z
    if stInside r x y z && decide (0 ≤ a) && decide (a < 2 ^ 55) then some a.toNat else none

/-- The positions that the .adv forms would reach next. -/
def nextPositions (b : Word) : Nat → BitVec 512 → List (BitVec 512)
  | 0, _ => []
  | n + 1, r =>
    let r' := withPos r (advancePos r b)
    r' :: nextPositions b n r'

/-- One page translated for the pacer, which holds up to 8 for a stream, sets no A and D, and leaves what fails for the access that
reaches it (R186). A page that it does not hold is a translation miss (R266, index 7); one that it holds may miss all the same (FREE VALUE,
log 7). A translation through a window needs no cache. -/
def pacePage (key : Nat × Nat) (s : State) (va : Nat) : State :=
  let mine := s.tlb.filter fun c => c.pacer == some key
  let v := hartView s
  if (windowOf s (asidOf v.ptroot) va).isSome then s
  else if mine.any (fun c => c.vpn == (if c.blk then va / 2 ^ 29 else va / 65536)) then
    if Config.missesAnyway s.tick va then addPerf s 7 1 else s
  else if 8 ≤ mine.length then addPerf s 7 1
  else
    let s := addPerf s 7 1
    match walk s v.ptroot va with
    | .error _ => s
    | .ok (leafPA, e, blk) =>
      match checkLeaf s v 0 va leafPA e blk with
      | .ok (g, _) => { s with tlb := cacheOf v va g blk (e.testBit 7) (some key) :: s.tlb }
      | .error _ => s

/-- The pacer's translations of a stream that no next position touches are given up. -/
def paceDrop (key : Nat × Nat) (addrs : List Nat) (s : State) : State :=
  { s with tlb := s.tlb.filter fun c =>
      c.pacer != some key || addrs.any fun va => c.vpn == (if c.blk then va / 2 ^ 29 else va / 65536) }

/-- PACER_TRANSLATE (R186): the pages of the next positions of a stream of a hart. -/
def execPacerTranslate (h sn : Nat) (s : State) : Result :=
  .next (onSlot s h fun s =>
    let r := vget s.hart.streams sn 0
    let addrs := (nextPositions s.hart.bshape (stAhead r) r).flatMap fun r => positionAddrs r s.hart.bshape
    addrs.foldl (pacePage (h, sn)) (paceDrop (h, sn) addrs s))

end Sys2Proof.Machine
end

