-- ==== Sys2Proof/Machine/Atomic.lean ====
section
/-!
DEFINITION. Atomics (R195 to R198), phases, barriers and the alias fence (R53, R55, R62, R70, R199 to R201), and the events of
publications, barriers, evictions and shadow versions.
-/

namespace Sys2Proof.Machine

/-- A publication of the hart in hand at any scope: all of it is visible everywhere once it is complete (R55). A publication that
first stalls on a shadow version counts (R266). -/
def publishCounted (s : State) : State × Bool :=
  let stalls := s.hart.stalledPub.isNone && (linesOf s (unsent s.hart)).any (shadowBlocks s)
  let r := publish s
  (if stalls then addPerf r.1 6 1 else r.1, r.2)

/-- The value a scalar atomic returns (R196). -/
def atomicResult (op n old : Nat) : Word :=
  if n = 8 then toWord old else if op = 4 ∨ op = 5 then zext 32 old else sext 32 old

/-- The act of a scalar atomic, after its checks and its publication (R63, R195 to R197). -/
def atomicDo (op n d b a acq : Nat) (s : State) : State :=
  let v := (rx s b).toNat % 2 ^ (8 * n)
  let cmp := (rx s d).toNat % 2 ^ (8 * n)
  match atomicAct op n a v cmp 1 s with
  | (s, .error f) => trapAccess s f (atomicAcc op) 0 a
  | (s, .ok old) =>
    let s := if atomicReturns op then wx s d (atomicResult op n old) else s
    retire (if acq = 1 then newPhase s else s) 4

/-! Atomics that wait in queues (R346, R347, R350, R356; log 65). -/

/-- A scalar atomic sent to its home: the hart waits at it until it has acted, which the reply or the acknowledgement says (R197). -/
def sendAtomic (op n d b va acq pa : Nat) (s : State) : State :=
  let p := newRequest s (.atomic op n ((rx s b).toNat % 2 ^ (8 * n)) ((rx s d).toNat % 2 ^ (8 * n))) va pa
  let s := enqueue { s with nextSeq := s.nextSeq + 1 } p
  stall (withHart s fun h => { h with request := some ⟨p.id, p.stamp, op, n, d, acq, va, pa⟩ })

/-- The reply to the hart in hand: its atomic completes with the old value. -/
def atomicReplied (r : Awaiting) (old : Nat) (s : State) : State :=
  let s := touch (withHart s fun h => { h with request := none }) r.pa 1
  let s := if atomicReturns r.op then wx s r.d (atomicResult r.op r.n old) else s
  retire (if r.acq = 1 then newPhase s else s) 4

/-- The failure of the atomic that the hart in hand awaits (R360): a precise trap where it returns a value, else an error-queue entry. -/
def atomicFailed (r : Awaiting) (f : AccFault) (s : State) : State :=
  let s := withHart s fun h => { h with request := none }
  if atomicReturns r.op then trapAccess s f (atomicAcc r.op) 0 r.va
  else retire (if r.acq = 1 then newPhase (storeFailed s 2 r.va r.pa r.n f) else storeFailed s 2 r.va r.pa r.n f) 4

/-- A scalar atomic (R195 to R197): address checks, then the publication of .rel, then the act, or the request for it. -/
def scalarAtomic (op d xs1 b acq rel w : Nat) (s : State) : State :=
  let n := if w = 0 then 4 else 8
  let a := rx s xs1
  if s.hart.request.isSome then stall s
  else
    match atomicCheck s op a.toNat n with
    | (s, .error f) => trapAccess s f.why f.acc 0 f.va
    | (s, .ok va) =>
      let p : State × Bool := if rel = 1 then publishCounted s else (s, true)
      if !p.2 || writeWaits p.1 (atomicAcc op) va then stall p.1
      else
        match queuedAt p.1 op va with
        | some pa => sendAtomic op n d b va acq pa p.1
        | none => atomicDo op n d b va acq p.1

/-- A vector atomic (R195 to R198): the publication of .rel comes first. -/
def vectorAtomic (op d xs1 b acq rel w : Nat) (s : State) : State :=
  let f := atomicForm op d xs1 b acq w
  if rel = 1 && f.issues none (f.capture none 0 s) s then
    let p := publishCounted s
    if p.2 then f.issue none (seedNow p.1) 4 p.1 else stall p.1
  else f.issue none (seedNow s) 4 s

/-- An atomic, scalar or vector by its field v. The scope changes no value (R197). -/
def atomic (op d xs1 b acq rel v w : Nat) (s : State) : Result :=
  .next (if v = 0 then scalarAtomic op d xs1 b acq rel w s else vectorAtomic op d xs1 b acq rel w s)

def execAtomAld (d xs1 b _ acq rel v w : Nat) (s : State) : Result := atomic 0 d xs1 b acq rel v w s
def execAtomAadd (d xs1 b _ acq rel v w : Nat) (s : State) : Result := atomic 1 d xs1 b acq rel v w s
def execAtomAmin (d xs1 b _ acq rel v w : Nat) (s : State) : Result := atomic 2 d xs1 b acq rel v w s
def execAtomAmax (d xs1 b _ acq rel v w : Nat) (s : State) : Result := atomic 3 d xs1 b acq rel v w s
def execAtomAminZ (d xs1 b _ acq rel v w : Nat) (s : State) : Result := atomic 4 d xs1 b acq rel v w s
def execAtomAmaxZ (d xs1 b _ acq rel v w : Nat) (s : State) : Result := atomic 5 d xs1 b acq rel v w s
def execAtomAand (d xs1 b _ acq rel v w : Nat) (s : State) : Result := atomic 6 d xs1 b acq rel v w s
def execAtomAor (d xs1 b _ acq rel v w : Nat) (s : State) : Result := atomic 7 d xs1 b acq rel v w s
def execAtomAxor (d xs1 b _ acq rel v w : Nat) (s : State) : Result := atomic 8 d xs1 b acq rel v w s
def execAtomSwap (d xs1 b _ acq rel v w : Nat) (s : State) : Result := atomic 9 d xs1 b acq rel v w s
def execAtomCas (d xs1 b _ acq rel v w : Nat) (s : State) : Result := atomic 10 d xs1 b acq rel v w s
def execAtomFadd (d xs1 b _ acq rel v w : Nat) (s : State) : Result := atomic 11 d xs1 b acq rel v w s
def execAtomAst (d xs1 b _ acq rel v w : Nat) (s : State) : Result := atomic 12 d xs1 b acq rel v w s

/-! Phases and fences. -/

/-- A publication and the next phase (R53, R55), begun by `begins`; the hart waits while the publication is not complete. -/
def phaseForm (begins : State → State) (s : State) : Result :=
  let p := publishCounted s
  if p.2 then .next (retire (begins p.1) 4) else .next (stall p.1)

/-- PHASE (R55). -/
def execPhase (_ : Nat) (s : State) : Result := phaseForm newPhase s

/-- FENCE.ALIAS (R70): a PHASE.fabric after which every line is fetched from its home, for every alias. -/
def execFenceAlias (s : State) : Result := phaseForm aliasPhase s

/-- The form that begins a phase when its publication is complete, if the hart waits in one: how it begins it. -/
def phaseAwaited (h : Hart) : Option (State → State) :=
  if !h.waiting then none
  else
    match decodeWord h.ir1 with
    | .ok (.phase _) => some newPhase
    | .ok .fenceAlias => some aliasPhase
    | _ => none

/-- PUBLICATION_COMPLETE (R55): a stalled publication of a hart goes on; when it is complete, the phase that waits for it begins. -/
def execPublicationComplete (h : Nat) (s : State) : Result :=
  .next (onSlot s h fun s =>
    if s.hart.stalledPub.isNone then s
    else
      let p := publishCounted s
      match phaseAwaited s.hart with
      | some begins => if p.2 then retire (begins p.1) 4 else p.1
      | none => p.1)

/-! Barriers. -/

/-- Count limit of a scope (R200). -/
def barLimit (scope : Nat) : Nat :=
  match scope with
  | 0 => 8
  | 1 => 512
  | 2 => 12288
  | _ => 50331648

/-- The instance of a scope that holds the hart in hand. -/
def scopeInstance (h : Hart) (scope : Nat) : Nat :=
  match scope with
  | 0 => h.coreNo
  | 1 => h.dieNo
  | _ => 0

/-- Whether an instance has a scope instance and an identifier, and whether it still takes arrivals (R200). -/
def Barrier.named (b : Barrier) (scope inst id : Nat) : Bool := b.scope == scope && b.inst == inst && b.id == id

def Barrier.takes (b : Barrier) : Bool := decide (b.arrived.length < b.count)

/-- The barrier instance that a further arrival joins, and the one that completes next (R200): one with its full count takes no more, and
at fabric scope the arrivals of other modules are not counted here. -/
def openBarrier (s : State) (scope inst id : Nat) : Option Barrier := s.barriers.find? fun b => b.named scope inst id && b.takes

def fullBarrier (s : State) (scope inst id : Nat) : Option Barrier :=
  s.barriers.find? fun b => b.named scope inst id && (!b.takes || scope == 3)

/-- The hart in hand arrives (R200): it opens an instance or joins the open one; the last arrival completes it. -/
def arrive (s : State) (scope inst id count : Nat) : State :=
  let old := openBarrier s scope inst id
  let b := old.getD ⟨scope, inst, id, count, []⟩
  let b := { b with arrived := b.arrived ++ [s.hart.ctxid] }
  let others := match old with
    | some x => s.barriers.erase x
    | none => s.barriers
  let s := stall (withHart { s with barriers := others ++ [b] } fun h => { h with arrival := some ⟨scope, inst, id, false⟩ })
  if b.arrived.length = count then schedule s (.barrierComplete scope inst id) else s

/-- The end of a barrier wait: the next phase begins (R62). -/
def passBarrier (s : State) : State := retire (newPhase (withHart s fun h => { h with arrival := none })) 4

/-- A BAR that arrives: it publishes, then joins an instance, or completes alone when its count is 1, or traps on another count
(R200). -/
def barArrive (scope id count : Nat) (s : State) : State :=
  let p := publishCounted s
  if !p.2 then stall p.1
  else
    let inst := scopeInstance s.hart scope
    match openBarrier p.1 scope inst id with
    | some b => if b.count ≠ count then illegalOperand p.1 else arrive p.1 scope inst id count
    | none => if count = 1 then passBarrier p.1 else arrive p.1 scope inst id count

/-- BAR (R62, R200, R201): an arrival that stands is waited for wherever the hart now runs. -/
def execBar (xs1 xs2 scope : Nat) (s : State) : Result :=
  match s.hart.arrival with
  | some a => .next (if a.done then passBarrier s else stall s)
  | none =>
    let count := (rx s xs1).toNat
    let id := (rx s xs2).toNat
    if count = 0 ∨ barLimit scope < count ∨ 255 < id then .next (illegalOperand s) else .next (barArrive scope id count s)

/-- The arrival of a hart at an instance marked as complete. -/
def markDone (scope inst id : Nat) (who : List (BitVec 32)) (h : Hart) : Hart :=
  match h.arrival with
  | some a =>
    if a.scope == scope && a.inst == inst && a.id == id && who.contains h.ctxid then { h with arrival := some { a with done := true } } else h
  | none => h

/-- A hart that waits at its BAR goes on when the instance has completed. -/
def passIfDone (s : State) : State :=
  match s.hart.arrival with
  | some a => if a.done && s.hart.waiting && s.hart.run == .running then passBarrier s else s
  | none => s

/-- BARRIER_COMPLETE (R62, R201): all participants of a full instance have published; those that wait begin their next phase, those
that are saved do so when they run again. At fabric scope the participants of other modules are the outside world's to count. -/
def execBarrierComplete (scope inst id : Nat) (s : State) : Result :=
  match fullBarrier s scope inst id with
  | none => .next s
  | some b =>
    let mark := markDone scope inst id b.arrived
    let s := { s with barriers := s.barriers.erase b, hart := mark s.hart, others := s.others.map mark, saved := s.saved.map mark }
    .next (((boundHarts s).filter fun h => b.arrived.contains h.ctxid).foldl (fun s h => onSlot s h.slot passIfDone) s)

/-! Evictions and shadow versions. -/

/-- NEAR_CACHE_EVICTION (R53): the near cache of a hart's die gives up a home line; the hart's unpublished bytes in it reach their home early,
and a later phase fetches the line anew. -/
def execNearCacheEviction (h line : Nat) (s : State) : Result :=
  .next (onSlot s h fun s =>
    withDie (evict s fun o => homeAddr s o.pa / 128 == line) fun d => { d with near := d.near.filter fun c => c.2.pa / 128 != line })

/-- Size of the spill area in entries (R328). -/
def spillSize : Nat := 1048576

/-- Whether a publication of a bound hart, or a write of an engine or of another module, still waits at a line (R61). -/
def publicationWaits (s : State) (line : Nat) : Bool :=
  s.stalls.contains line || (boundHarts s).any fun h => h.stalledPub.isSome && (linesOf s (unsent h)).contains line

/-- A version moved into the first free entry of the spill area (R318, R328). -/
def spillShadow (s : State) (x : Shadow) : State :=
  let i := (firstIndex (fun i => !s.spill.contains i) spillSize 0).getD 0
  { homeWrite s (spillAddr s i) (spillBytes x) with shadows := s.shadows.erase x, spill := i :: s.spill }

/-- SHADOW_STALL_TIMEOUT (R61, R328): while a publication waits at a line, the older shadow of the line moves into the spill area, if that has
room; the spill-full event is sent when the area becomes full. -/
def execShadowStallTimeout (line : Nat) (s : State) : Result :=
  match s.shadows.find? (fun x => x.line == line) with
  | none => .next s
  | some x =>
    if spillSize ≤ s.spill.length || !publicationWaits s line then .next s
    else
      let s := spillShadow s x
      .next (if s.spill.length = spillSize then emitModule s 3 (toWord (homeSlice (line * 128))) s.time else s)

end Sys2Proof.Machine
end

