-- ==== Sys2Proof/Machine/Compare.lean ====
section
/-!
DEFINITION. The meanings of the compares and mask algebra (R165, R166).
-/

namespace Sys2Proof.Machine

def execVceq (md vs1 vs2 m o _ _ : Nat) (s : State) : Result := vector (cmpForm relEq 0 md vs1 vs2 m o) s
def execVcne (md vs1 vs2 m o _ _ : Nat) (s : State) : Result := vector (cmpForm relNe 0 md vs1 vs2 m o) s
def execVclt (md vs1 vs2 m o _ _ : Nat) (s : State) : Result := vector (cmpForm relLt 0 md vs1 vs2 m o) s
def execVcle (md vs1 vs2 m o _ _ : Nat) (s : State) : Result := vector (cmpForm relLe 0 md vs1 vs2 m o) s
def execVcun (md vs1 vs2 m o _ _ : Nat) (s : State) : Result := vector (cmpForm relUn 2 md vs1 vs2 m o) s
def execVceqx (md vs1 xs m _ sel : Nat) (s : State) : Result := vector (cmpXForm relEq md vs1 xs m sel) s
def execVcnex (md vs1 xs m _ sel : Nat) (s : State) : Result := vector (cmpXForm relNe md vs1 xs m sel) s
def execVcltx (md vs1 xs m _ sel : Nat) (s : State) : Result := vector (cmpXForm relLt md vs1 xs m sel) s
def execVclex (md vs1 xs m _ sel : Nat) (s : State) : Result := vector (cmpXForm relLe md vs1 xs m sel) s
def execVcgtx (md vs1 xs m _ sel : Nat) (s : State) : Result := vector (cmpXForm relGt md vs1 xs m sel) s
def execVcgex (md vs1 xs m _ sel : Nat) (s : State) : Result := vector (cmpXForm relGe md vs1 xs m sel) s
def execVmand (md ms1 ms2 m : Nat) (s : State) : Result := vector (maskForm (fun a b => a && b) md ms1 ms2 m) s
def execVmor (md ms1 ms2 m : Nat) (s : State) : Result := vector (maskForm (fun a b => a || b) md ms1 ms2 m) s
def execVmxor (md ms1 ms2 m : Nat) (s : State) : Result := vector (maskForm (fun a b => a != b) md ms1 ms2 m) s
def execVmandn (md ms1 ms2 m : Nat) (s : State) : Result := vector (maskForm (fun a b => a && !b) md ms1 ms2 m) s
def execVmnot (md ms1 m : Nat) (s : State) : Result := vector (maskForm (fun a _ => !a) md ms1 0 m) s
def execVmpopc (md ms1 m : Nat) (s : State) : Result := vector (vmpopcForm md ms1 m) s
def execVmfirst (md ms1 m : Nat) (s : State) : Result := vector (vmfirstForm md ms1 m) s

end Sys2Proof.Machine
end

