-- ==== Sys2Proof/Machine/Convert.lean ====
section
/-!
DEFINITION. The meanings of the conversions and reductions (R167 to R171).
-/

namespace Sys2Proof.Machine

def execVcvt (vd vs1 code m rm _ : Nat) (s : State) : Result := vector (vcvtForm false vd vs1 code m rm) s
def execVcvtSat (vd vs1 code m rm _ : Nat) (s : State) : Result := vector (vcvtForm true vd vs1 code m rm) s
def execVunpk (vd vs1 code m rm _ : Nat) (s : State) : Result := vector (vunpkForm vd vs1 code m rm) s
def execVpack (vd vs1 code m rm _ : Nat) (s : State) : Result := vector (vpackForm vd vs1 code m rm) s
def execVrsum (vd vs1 axis m rm _ : Nat) (s : State) : Result := vector (reduceForm 0 idZero vrsumLine vd vs1 axis m rm) s
def execVrmin (vd vs1 axis m _ : Nat) (s : State) : Result := vector (reduceForm 0 idMin vrminLine vd vs1 axis m 0) s
def execVrmax (vd vs1 axis m _ : Nat) (s : State) : Result := vector (reduceForm 0 idMax vrmaxLine vd vs1 axis m 0) s
def execVrand (vd vs1 axis m _ : Nat) (s : State) : Result := vector (reduceForm 1 idOnes (bitLine (· &&& ·)) vd vs1 axis m 0) s
def execVror (vd vs1 axis m _ : Nat) (s : State) : Result := vector (reduceForm 1 idZero (bitLine (· ||| ·)) vd vs1 axis m 0) s
def execVrxor (vd vs1 axis m _ : Nat) (s : State) : Result := vector (reduceForm 1 idZero (bitLine (· ^^^ ·)) vd vs1 axis m 0) s

end Sys2Proof.Machine
end

