-- ==== Sys2Proof/Machine/Channels.lean ====
section
/-!
DEFINITION. Transfer ids of a copy channel and its watermark (R230, R238); parcel windows, the parcel pool and the ends of a post
(R279 to R285).
-/

namespace Sys2Proof.Machine

/-- A change of a channel of the hart in hand. -/
def onChan (s : State) (ch : Nat) (f : Channel → Channel) : State :=
  withHart s fun h => { h with chan := vset h.chan ch (f (vget h.chan ch {})) }

def chanOf (s : State) (ch : Nat) : Channel := vget s.hart.chan ch {}

/-- Whether an id has completed, and its code (R238). -/
def Channel.codeOf (c : Channel) (id : Nat) : Option Nat := (c.stats.find? fun p => p.1 == id).map Prod.snd

/-- The watermark moved past every id that has completed, at most `n` of them. -/
def Channel.raiseW : Nat → Channel → Channel
  | 0, c => c
  | n + 1, c => if (c.codeOf c.w).isSome then Channel.raiseW n { c with w := c.w + 1 } else c

/-- An id completes with a code (R230); the latest 64 statuses below W and those above are kept. -/
def Channel.finishId (c : Channel) (id code : Nat) : Channel :=
  let c := Channel.raiseW (c.stats.length + 1) { c with stats := (id, code) :: c.stats.filter fun p => p.1 != id }
  { c with stats := c.stats.filter fun p => decide (c.w ≤ p.1 + 64) }

/-- Ids launched and not completed (R230). -/
def Channel.incomplete (c : Channel) : Nat :=
  ((List.range (c.next - c.w)).filter fun i => (c.codeOf (c.w + i)).isNone).length

/-- Whether the channel is full (R230, R233). -/
def Channel.isFull (c : Channel) : Bool := decide (16 ≤ c.incomplete)

/-! Windows and the pool. -/

/-- Whether a window holds a mapped parcel (R283). -/
def Window.mapped (x : Window) : Bool := x.state == 1 || x.state == 4 || x.state == 5

/-- The lowest free window of an address space whose limit is at least a size in 64 KiB units (R279). -/
def freeWindow (s : State) (asid size : Nat) : Option Window :=
  (windows s).find? fun x => x.state == 6 && x.asid == asid && decide (size ≤ x.limit)

/-- The window of an address space that holds a mapped parcel with a base, and one whose mapped range holds an address. -/
def parcelAt (s : State) (asid base : Nat) : Option Window :=
  (windows s).find? fun x => x.mapped && x.asid == asid && x.base == base

def parcelOver (s : State) (asid va : Nat) : Option Window :=
  (windows s).find? fun x => x.mapped && x.asid == asid && decide (x.base ≤ va) && decide (va < x.base + 65536 * x.psize)

/-- What is not free in the pool: what is allocated, and the frames that are retired (R386). -/
def poolTaken (s : State) : List (Nat × Nat) := s.pool ++ (retiredFrames s).map fun f => (65536 * f, 65536)

/-- Whether `n` bytes at an address lie in the pool and are free. -/
def poolFits (s : State) (a n : Nat) : Bool :=
  decide (s.regs.ppool.toNat ≤ a) && decide (a + n ≤ s.regs.ppool.toNat + s.regs.ppoolsz.toNat) &&
    (poolTaken s).all fun p => decide (a + n ≤ p.1) || decide (p.1 + p.2 ≤ a)

/-- Pool memory for `n` bytes: the lowest place, a local address (log 15). -/
def poolFree (s : State) (n : Nat) : Option Nat :=
  (((s.regs.ppool.toNat :: (poolTaken s).map fun p => p.1 + p.2).filter fun a => poolFits s a n)).foldl
    (fun best a => match best with
      | some b => some (min a b)
      | none => some a) none

/-- The handle of the parcel that a window holds (R280). -/
def handleOf (s : State) (x : Window) : Nat := s.regs.modid % 4096 * 2 ^ 52 + x.w % 4096 * 2 ^ 40 + x.gen % 2 ^ 40

/-- A window freed, its generation incremented (R280, R284), and its memory given back to the pool. -/
def freeParcel (s : State) (x : Window) : State :=
  let s := writeWindow s { x with state := 6, psize := 0, phys := 0, gen := x.gen + 1 }
  { s with pool := s.pool.filter fun p => p.1 != paLocal x.phys }

/-- An act on the hart, bound or saved, that runs a context. -/
def onContext (s : State) (ctxid : BitVec 32) (f : Hart → Hart) : State :=
  let g (h : Hart) : Hart := if h.ctxid == ctxid then f h else h
  { s with
    hart := if s.hart.bound then g s.hart else s.hart
    others := s.others.map fun h => if h.bound then g h else h
    saved := s.saved.map g }

/-- The transfer id of a post completes (R205, R230). -/
def finishPost (s : State) (t : Transit) (code : Nat) : State :=
  onContext s t.ctxid fun h => { h with chan := vset h.chan t.chan ((vget h.chan t.chan {}).finishId t.id code) }

/-- The window a transit stands in, if it still has the generation the handle names (R280). -/
def transitWindow (s : State) (t : Transit) : Option Window :=
  let x := readWindow s t.win
  if handleOf s x = t.handle then some x else none

/-- A parcel returns to its sender (R284): mapped again, its id RETURNED, an error-queue entry of kind 5. -/
def returnParcel (s : State) (t : Transit) (sub : Nat) : State :=
  let s := { s with transit := s.transit.filter fun x => x.handle != t.handle }
  match transitWindow s t with
  | none => s
  | some x =>
    let s := dropRange (writeWindow s { x with state := 5 }) x.range
    finishPost (errorEntry s t.ctxid 5 11 sub 0 x.base t.dest t.handle) t 6

/-- Places of an arrival queue that are taken: by ARRIVED parcels, and by copies that this module has received and not confirmed yet, so that no
queue ever holds more than 64 (R284, R393). That an unconfirmed copy takes a place is a DESIGN CHOICE (log 113). -/
def claimedIn (s : State) (queue : Nat) : Nat :=
  (s.arrived.filter fun p => p.queue == queue).length + (s.incoming.filter fun p => p.queue == queue).length

/-- Why a delivery to this module fails (R284, R393): the sub-cause. -/
def refusal (s : State) (queue size : Nat) : Option Nat :=
  let q := tget s.arrq queue {}
  if 1023 < queue then some 7
  else if 64 ≤ claimedIn s queue then some 7
  else if !q.en then some 7
  else if !(windows s).any (fun x => x.asid == q.asid && x.state != 0 && decide (size ≤ x.limit)) then some 8
  else if (poolFree s (65536 * size)).isNone then some 8
  else none

/-- The parcel of a handle becomes ARRIVED in a queue of this module, in memory of the pool that takes the sealed contents (R284,
R285). -/
def enterQueue (s : State) (handle queue size phys : Nat) : State :=
  { s with arrived := s.arrived ++ [⟨handle, queue, phys, size⟩] }

end Sys2Proof.Machine
end

