-- ==== Sys2Proof/Machine/Copies.lean ====
section
/-!
DEFINITION. The copy engine (R229 to R239): cpset, cplaunch, cpwait, cpstat, and the end or the fault of a copy.
-/

namespace Sys2Proof.Machine

/-! The descriptor (R231). -/

def cpField (d : BitVec 1536) (lo n : Nat) : Nat := field d.toNat lo n

def cpSrc (d : BitVec 1536) : Nat := cpField d 0 55
def cpDst (d : BitVec 1536) : Nat := cpField d 64 55
def cpSstr (d : BitVec 1536) (i : Nat) : Int := signed 64 (cpField d (128 + 64 * i) 64)
def cpDstr (d : BitVec 1536) (i : Nat) : Int := signed 64 (cpField d (384 + 64 * i) 64)
def cpN (d : BitVec 1536) (i : Nat) : Nat := cpField d (640 + 16 * i) 16
def cpT (d : BitVec 1536) (i : Nat) : Nat := cpField d (704 + 32 * i) 32
def cpSt (d : BitVec 1536) (i : Nat) : Int := signed 32 (cpField d (832 + 32 * i) 32)
def cpFill (d : BitVec 1536) : Nat := cpField d 960 64
def cpSize (d : BitVec 1536) : Nat := 2 ^ cpField d 1024 2
def cpCnten (d : BitVec 1536) : Bool := cpField d 1032 1 == 1
def cpCaddr (d : BitVec 1536) : Nat := cpField d 1088 55
def cpVstart (d : BitVec 1536) : Nat := cpField d 1152 64

def withVstart (d : BitVec 1536) (v : Nat) : BitVec 1536 := BitVec.ofNat 1536 (setField d.toNat 1152 64 v)

/-- Number of elements (R234), and those to transfer. -/
def cpCount (d : BitVec 1536) : Nat := cpN d 0 * cpN d 1 * cpN d 2 * cpN d 3

def cpElems (d : BitVec 1536) : List Nat := (List.range (cpCount d - cpVstart d)).map fun i => cpVstart d + i

/-- Coordinate i of element e. -/
def cpCoord (d : BitVec 1536) (e i : Nat) : Nat :=
  match i with
  | 0 => e % cpN d 0
  | 1 => e / cpN d 0 % cpN d 1
  | 2 => e / (cpN d 0 * cpN d 1) % cpN d 2
  | _ => e / (cpN d 0 * cpN d 1 * cpN d 2)

/-- Source coordinate i of an element, whether the element lies inside the tensor, and its addresses, exact (R234). -/
def cpX (d : BitVec 1536) (e i : Nat) : Int := cpSt d i + cpCoord d e i

def cpInside (d : BitVec 1536) (e : Nat) : Bool := (List.range 4).all fun i => decide (0 ≤ cpX d e i) && decide (cpX d e i < cpT d i)

def cpSum (f : Nat → Int) : Int := f 0 + f 1 + f 2 + f 3

def cpSourceAddr (d : BitVec 1536) (e : Nat) : Int := cpSrc d + cpSum fun i => cpX d e i * cpSstr d i

def cpDestAddr (d : BitVec 1536) (e : Nat) : Int := cpDst d + cpSum fun i => cpCoord d e i * cpDstr d i

/-! The hulls (R233). -/

/-- Lowest and highest byte address of some elements of `n` bytes; none for no element. -/
def hull (n : Nat) (as : List Int) : Option (Int × Int) :=
  match as with
  | [] => none
  | a :: as => some (as.foldl min a, as.foldl max a + n - 1)

def sourceHull (d : BitVec 1536) : Option (Int × Int) := hull (cpSize d) (((cpElems d).filter (cpInside d)).map (cpSourceAddr d))

def destHull (d : BitVec 1536) : Option (Int × Int) := hull (cpSize d) ((cpElems d).map (cpDestAddr d))

/-- Whether a hull stays in the address space. -/
def hullInRange (h : Int × Int) : Bool := decide (0 ≤ h.1) && decide (h.2 < 2 ^ 55)

/-- Whether the launch is refused as OVERLAP. -/
def hullsMeet (d : BitVec 1536) : Bool :=
  match sourceHull d, destHull d with
  | some a, some b => hullInRange a && hullInRange b && decide (a.1 ≤ b.2) && decide (b.1 ≤ a.2)
  | _, _ => false

/-! The elements of a copy (R234 to R236). -/

/-- Rank of a cause (R300). -/
def causeRank (c : Nat) : Nat := if c = 5 then 4 else c

/-- The fault of an element of which source or destination fail (R236). -/
def pairFault (a b : Option ElemFault) : Option ElemFault :=
  match a, b with
  | some f, some g => if causeRank g.why.cause < causeRank f.why.cause then some g else some f
  | some f, none => some f
  | none, g => g

/-- The view of an engine operation of the hart in hand. -/
def engineView (s : State) (priv : Bool) : View := ⟨s.hart.ptroot, s.hart.coreNo, priv⟩

/-- A read by an engine at an exact address: the physical address and the value, or the fault. -/
def enginePull (deadline : Word) (v : View) (a : Int) (n : Nat) (s : State) : State × Except ElemFault (Nat × Nat) :=
  match addrCheck a n 0 with
  | .error f => (s, .error f)
  | .ok va =>
    match engineGet deadline v va n s with
    | (s, .error f) => (s, .error ⟨f, 0, va⟩)
    | (s, .ok x) => (s, .ok x)

/-- The check of an engine's write at an exact address: the addresses, virtual and physical, or the fault. -/
def engineAim (v : View) (a : Int) (n : Nat) (s : State) : State × Except ElemFault (Nat × Nat) :=
  match addrCheck a n 1 with
  | .error f => (s, .error f)
  | .ok va =>
    match translate v 1 va s with
    | (s, .error f) => (s, .error ⟨f, 1, va⟩)
    | (s, .ok pa) => (s, .ok (va, pa))

/-- A write that a copy is going to make. -/
structure Pending where
  elem : Nat
  va : Nat
  pa : Nat
  value : Nat
  /-- where the value was read; none for padding -/
  source : Option Nat
deriving DecidableEq, Repr

/-- One element read and checked (R234). -/
def copyElem (dl : Word) (v : View) (d : BitVec 1536) (e : Nat) (s : State) : State × Except ElemFault Pending :=
  let n := cpSize d
  let r : State × Except ElemFault (Option Nat × Nat) :=
    if cpInside d e then
      let p := enginePull dl v (cpSourceAddr d e) n s
      (p.1, p.2.map fun x => (some x.1, x.2))
    else (s, .ok (none, cpFill d % 2 ^ (8 * n)))
  let w := engineAim v (cpDestAddr d e) n r.1
  match r.2, w.2 with
  | .ok x, .ok p => (w.1, .ok ⟨e, p.1, p.2, x.2, x.1⟩)
  | .error f, .error g => (w.1, .error ((pairFault (some f) (some g)).getD f))
  | .error f, .ok _ => (w.1, .error f)
  | .ok _, .error g => (w.1, .error g)

/-- The elements in order, up to the first that faults: the writes to make, and the fault. -/
def copyElems (dl : Word) (v : View) (d : BitVec 1536) : List Nat → State → State × List Pending × Option (Nat × ElemFault)
  | [], s => (s, [], none)
  | e :: es, s =>
    match copyElem dl v d e s with
    | (s, .error f) => (s, [], some (e, f))
    | (s, .ok p) =>
      let r := copyElems dl v d es s
      (r.1, p :: r.2.1, r.2.2)

/-- Whether a data element that an earlier run of the copy wrote names the place of a padding element (R235). -/
def keptData (x : Copy) (va : Nat) : Bool :=
  (List.range (cpVstart x.desc)).any fun e => decide (x.start ≤ e) && cpInside x.desc e && decide (cpDestAddr x.desc e = va)

/-- The accesses of a committed element counted for their frames (R317). -/
def copyCount (x : Copy) (p : Pending) (s : State) : State :=
  let d := x.desc
  let s := touch s p.pa (strideKind (cpDstr d 0) (cpSize d))
  match p.source with
  | some a => touch s a (strideKind (cpSstr d 0) (cpSize d))
  | none => s

/-- The writes of a copy, which publish their lines (R67): padding first, so that a data element stays; among equals the higher element is last (R235). -/
def copyWrites (v : View) (ch : Nat) (x : Copy) (ps : List Pending) (s : State) : State :=
  let put (s : State) (p : Pending) : State := engineWrite x.deadline s v ch x.id p.va p.pa (leBytes (cpSize x.desc) p.value)
  let s := stampLines s (ps.flatMap fun p => linesAt s p.pa (cpSize x.desc))
  let s := (ps.filter fun p => p.source.isNone && !keptData x p.va).foldl put s
  let s := (ps.filter fun p => p.source.isSome).foldl put s
  ps.foldl (fun s p => copyCount x p s) s

/-- The add of a copy's byte count at its counter (R234). -/
def copyAdd (v : View) (ch : Nat) (x : Copy) (va pa : Nat) (s : State) : State :=
  engineWrite x.deadline (stampLines s (linesAt s pa 8)) v ch x.id va pa (leBytes 8 ((homeRead s pa 8 + cpCount x.desc * cpSize x.desc) % 2 ^ 64))

/-- The completion counter (R234): none, or the fault at element N. -/
def copyCounter (v : View) (ch : Nat) (x : Copy) (s : State) : State × Option (Nat × ElemFault) :=
  let d := x.desc
  if !cpCnten d then (s, none)
  else
    match addrCheck (cpCaddr d) 8 3 with
    | .error f => (s, some (cpCount d, f))
    | .ok va =>
      match locate v 3 va s with
      | (s, .error f) => (s, some (cpCount d, ⟨f, 3, va⟩))
      | (s, .ok pa) =>
        match reachHome s pa with
        | (s, .error f) => (writeFailed (if actsAnyway s pa f then copyAdd v ch x va pa s else s) 2 va pa 8 f x.pc, none)
        | (s, .ok pa) =>
          match checkData s pa 8 with
          | .error f => (writeFailed (lastingError s pa 8) 2 va pa 8 f x.pc, none)
          | .ok _ => (touch (copyAdd v ch x va pa s) pa 1, none)

/-- Where the completion counter of a copy stands. -/
def counterPlace (v : View) (x : Copy) (s : State) : Option Nat :=
  if !cpCnten x.desc then none
  else
    match addrCheck (cpCaddr x.desc) 8 3 with
    | .error _ => none
    | .ok va =>
      match (locate v 3 va s).2 with
      | .ok pa => some pa
      | .error _ => none

/-- A channel that stops on a fault of element `e` (R236). -/
def stopChannel (e : Nat) (f : ElemFault) (c : Channel) : Channel :=
  { c with
    st := .faulted, cause := f.why.cause, sub := f.why.sub, addr := f.va, acc := f.acc, po := f.why.po, reported := false
    queue := match c.queue with
      | [] => []
      | x :: xs => { x with desc := withVstart x.desc e } :: xs }

/-- How far the copy at the head of a channel comes: no copy runs; it must wait, at some lines for a second shadow version; or it has made its reads
and writes, and perhaps met a fault. -/
inductive CopyTry where
  | idle
  | waits (lines : List Nat)
  | ran (s : State) (x : Copy) (fault : Option (Nat × ElemFault))

/-- The physical places that a copy writes, each with its size: those of its elements, and where none faults its counter. -/
def copyPlaces (v : View) (x : Copy) (ps : List Pending) (faults : Bool) (s : State) : List (Nat × Nat) :=
  (ps.map fun p => (p.pa, cpSize x.desc)) ++ if faults then [] else ((counterPlace v x s).map fun pa => (pa, 8)).toList

/-- Whether a copy waits for its writes, or for room to read (R61, R364, R373). -/
def copyWaits (places : List (Nat × Nat)) (ps : List Pending) (s : State) : Bool :=
  (places.any fun p => engineWaits s p.1 p.2) || ps.any fun p => p.source.any fun a => portFull s (homeAddr s a) 0

/-- The copy at the head of a running channel, tried. It waits while one of its writes must (R61, R364, R373). -/
def tryCopy (ch : Nat) (s : State) : CopyTry :=
  let c := chanOf s ch
  match c.st, c.queue with
  | .running, x :: _ =>
    let v := engineView s x.priv
    let r := copyElems x.deadline v x.desc (cpElems x.desc) s
    let places := copyPlaces v x r.2.1 r.2.2.isSome s
    if copyWaits places r.2.1 s then .waits (places.flatMap fun p => linesAt s p.1 p.2)
    else
      let s := copyWrites v ch x r.2.1 r.1
      match r.2.2 with
      | some f => .ran s x (some f)
      | none =>
        let k := copyCounter v ch x s
        .ran k.1 x k.2
  | _, _ => .idle

/-- The next copy of a channel is taken up. -/
def nextCopy (ch : Nat) (s : State) : State :=
  if (chanOf s ch).queue.isEmpty then onChan s ch fun c => { c with st := .idle }
  else schedule (onChan s ch fun c => { c with st := .running }) (.copyComplete s.hart.slot ch)

/-- A copy that has completed: its id is DONE, its bytes are counted, the next copy follows (R234, R266). -/
def endCopy (ch : Nat) (x : Copy) (s : State) : State :=
  let s := onChan s ch fun c => { c.finishId x.id 1 with queue := c.queue.drop 1 }
  nextCopy ch (addPerf s 5 (toWord ((cpCount x.desc - x.start) * cpSize x.desc)))

/-- COPY_COMPLETE (R234): the copy at the head of a channel finishes. Where it faults, COPY_FAULT takes it; where it must wait, it is
tried again. -/
def execCopyComplete (h ch : Nat) (s : State) : Result :=
  .next (onSlot s h fun s =>
    match tryCopy ch s with
    | .ran s' x none => endCopy ch x s'
    | .ran _ _ (some _) => schedule s (.copyFault h ch)
    | .waits lines => schedule (waitAt s lines) (.copyComplete h ch)
    | .idle => s)

/-- COPY_FAULT (R236): the elements below the faulting one commit and the channel stops. A copy whose fault has gone meanwhile, or that must
wait, goes on. -/
def execCopyFault (h ch : Nat) (s : State) : Result :=
  .next (onSlot s h fun s =>
    match tryCopy ch s with
    | .ran s' _ (some (e, f)) => onChan s' ch (stopChannel e f)
    | .ran _ _ none => schedule s (.copyComplete h ch)
    | .waits lines => schedule (waitAt s lines) (.copyComplete h ch)
    | .idle => s)

/-! The four forms. -/

/-- CPSET (R232). -/
def execCpset (xs1 ch : Nat) (s : State) : Result :=
  let va := (rx s xs1).toNat
  if va % 64 ≠ 0 then .next (trapSelf s 3 0 0 0 (toWord va))
  else
    match loadWords va 24 s with
    | (s, .error (f, a)) => .next (trapAccess s f 0 0 a)
    | (s, .ok vs) => .next (retire (onChan s ch fun c => { c with shadow := copyFields (BitVec.ofNat 1536 (packBits 64 vs)) }) 4)

/-- A copy that joins its channel's queue. -/
def launchCopy (ch : Nat) (s : State) : State :=
  let c := chanOf s ch
  let s := onChan s ch fun c => { c with next := c.next + 1, refusal := 1, queue := c.queue ++ [⟨c.next, c.shadow, s.hart.priv, s.hart.pc, cpVstart c.shadow, s.hart.deadline⟩] }
  if c.st == .idle then nextCopy ch s else s

/-- CPLAUNCH (R233). -/
def execCplaunch (xd ch : Nat) (s : State) : Result :=
  let c := chanOf s ch
  if c.isFull then .next (stall s)
  else if hullsMeet c.shadow then finish xd 0 (onChan s ch fun c => { c with refusal := 2 })
  else finish xd (toWord c.next) (launchCopy ch s)

/-- The copies of a channel cancelled (R237). -/
def cancelCopies (ch : Nat) (s : State) : State :=
  onChan s ch fun c => { (c.queue.foldl (fun c x => c.finishId x.id 4) c) with st := .idle, queue := [] }

/-- The id at which a channel is FAULTED. -/
def Channel.faultId (c : Channel) : Option Nat :=
  match c.st, c.queue with
  | .faulted, x :: _ => some x.id
  | _, _ => none

/-- A cpwait that returns: W, and the join of the copies below it (R67, R237). -/
def returnW (xd ch : Nat) (s : State) : Result :=
  let w := (chanOf s ch).w
  finish xd (toWord w) (joinEngine s ch (w - 1))

/-- The trap of a copy's fault, at the cpwait that first finds it. -/
def copyTrap (ch : Nat) (s : State) : State :=
  let c := chanOf s ch
  let e := match c.queue with
    | x :: _ => cpVstart x.desc
    | [] => 0
  let s := onChan s ch fun c => { c with reported := true }
  trapAccess s { cause := c.cause, sub := c.sub, po := c.po } c.acc e c.addr

/-- CPWAIT (R237). -/
def execCpwait (xd xs1 ch : Nat) (s : State) : Result :=
  let c := chanOf s ch
  let q := (rx s xs1).toNat
  if q = 0 then returnW xd ch (if c.faultId.isSome then cancelCopies ch s else s)
  else
    match c.faultId with
    | some id =>
      if id ≤ q then
        if c.reported then .next (stall (nextCopy ch (onChan s ch fun c => { c with reported := false })))
        else .next (copyTrap ch s)
      else if q < c.w then returnW xd ch s else .next (stall s)
    | none => if q < c.w then returnW xd ch s else .next (stall s)

/-- CPSTAT of an id (R238). -/
def cpstatWord (c : Channel) (q : Nat) : Nat :=
  if q = 0 then c.refusal
  else if c.next ≤ q ∨ q + 64 < c.w then 7
  else if c.faultId = some q then
    3 + c.cause * 2 ^ 8 + (match c.queue with
      | x :: _ => cpVstart x.desc % 2 ^ 48
      | [] => 0) * 2 ^ 16
  else (c.codeOf q).getD 0

def execCpstat (xd xs1 ch : Nat) (s : State) : Result :=
  let q := (rx s xs1).toNat
  let v := cpstatWord (chanOf s ch) q
  finish xd (toWord v) (if q ≠ 0 ∧ v = 1 then joinEngine s ch q else s)

end Sys2Proof.Machine
end

