-- ==== Sys2Proof/Machine/Events.lean ====
section
/-!
DEFINITION. Events and notifications (R256 to R259), deadlines (R260, R348).
-/

namespace Sys2Proof.Machine

/-- An event descriptor (R256). -/
structure EventDesc where
  handler : Nat
  kind : Nat
  chan : Nat
  value : Word
  addr : Word
deriving DecidableEq, Repr

def eventOf (d : List Nat) : EventDesc where
  handler := field (d.getD 0 0) 0 55
  kind := field (d.getD 1 0) 0 4
  chan := field (d.getD 1 0) 4 2
  value := toWord (d.getD 2 0)
  addr := toWord (d.getD 3 0)

/-- What a wait finds (R256, R257): an operand it refuses, a fault, a condition that does not hold yet, or one that holds and whether a
phase begins. -/
inductive Awaited where
  | illegal
  | misaligned
  | fault (f : AccFault)
  | holds (b : Bool) (phase : Bool)
deriving DecidableEq, Repr

/-- The test of a kind-4 wait, an atomic load at fabric scope (R257). -/
def awaitWord (d : EventDesc) (s : State) : State × Awaited :=
  if d.addr.toNat % 8 ≠ 0 then (s, .misaligned)
  else
    match atomicAct 0 8 d.addr.toNat 0 0 1 s with
    | (s, .error f) => (s, .fault f)
    | (s, .ok v) => (s, .holds (v != d.value.toNat) true)

/-- The condition of a wait. -/
def await (d : EventDesc) (s : State) : State × Awaited :=
  if d.kind = 4 then awaitWord d s
  else if d.kind = 0 ∨ 4 < d.kind then (s, .illegal)
  else (s, .holds (conditionHolds s d.kind d.chan d.value d.addr) false)

/-- WAIT (R257). -/
def execWait (xd xs1 : Nat) (s : State) : Result :=
  let va := (rx s xs1).toNat
  if va % 32 ≠ 0 then .next (trapSelf s 3 0 0 0 (toWord va))
  else
    match loadWords va 4 s with
    | (s, .error (f, a)) => .next (trapAccess s f 0 0 a)
    | (s, .ok ws) =>
      let d := eventOf ws
      match await d s with
      | (s, .illegal) => .next (illegalOperand s)
      | (s, .misaligned) => .next (trapSelf s 3 0 0 0 d.addr)
      | (s, .fault f) => .next (trapAccess s f 0 0 d.addr.toNat)
      | (s, .holds b ph) => if b then finish xd 1 (if ph then newPhase s else s) else .next (stall s)

/-- NOTIFY (R258). -/
def execNotify (xd xs1 : Nat) (s : State) : Result :=
  let va := (rx s xs1).toNat
  if va % 32 ≠ 0 then .next (trapSelf s 3 0 0 0 (toWord va))
  else
    match loadWords va 4 s with
    | (s, .error (f, a)) => .next (trapAccess s f 0 0 a)
    | (s, .ok ws) =>
      let d := eventOf ws
      if d.kind = 0 ∨ 3 < d.kind ∨ d.handler % 4 ≠ 0 then .next (illegalOperand s)
      else if conditionHolds s d.kind d.chan d.value d.addr then finish xd 1 s
      else finish xd 0 (withHart s fun h => { h with slotN := ⟨true, d.kind, d.chan, d.value, d.addr, toWord d.handler⟩ })

/-- The PC of the next instruction to issue: inside a frame, that of its next instance (R181, R258). -/
def nextPc (h : Hart) : Word :=
  match h.lap with
  | some l => instanceAddr l
  | none => h.pc

/-- The notification fires (R258). A frame that it interrupts is kept with the PC after it. -/
def fire (s : State) : State :=
  withHart s fun h =>
    { h with
      slotN := { h.slotN with armed := false }, nh := true, shadow := vset (vset h.shadow 7 (nextPc h)) 6 (toWord h.slotN.kind)
      nlap := h.lap.map fun l => (l, h.pc), lap := none, pc := alignPc h.slotN.handler, priv := false, waiting := false }

/-- NOTIFICATION (R258): an armed condition that holds fires at an instruction boundary of the hart in hand. -/
def execNotification (s : State) : Result := .next (if s.hart.run == .running && notifies s then fire s else s)

/-- The return from a notification handler (R259): to shadow X31; a frame that was interrupted goes on where it stood, when shadow X31
still names its next instance. -/
def fromHandler (h : Hart) : Hart :=
  let pc := vget h.shadow 7 0
  let back := { h with nh := false, nlap := none, instret := h.instret + 1, waiting := false }
  match h.nlap with
  | some p => if instanceAddr p.1 = pc then { back with lap := some p.1, pc := p.2 } else { back with pc := alignPc pc }
  | none => { back with pc := alignPc pc }

/-- NRET (R259). -/
def execNret (s : State) : Result :=
  if s.hart.nh then .next (withHart s fromHandler) else .next (illegalOperand s)

/-- SETDL (R260). -/
def execSetdl (xd xs1 xs2 : Nat) (s : State) : Result :=
  let v := rx s xs1
  let late := (rx s xs2).getLsbD 0
  finish xd s.hart.deadline (withHart s fun h => { h with deadline := if v = 0 then 0 else heldSum s.time v, lateEn := late })

/-- A late packet of the hart in hand (R348): it counts, unless the frame of the saved context has counted it, and the first one with LATE enabled
makes the hart trap. -/
def lateTrap (s : State) : State :=
  let s := if s.hart.lateDue then s else addPerf s 4 1
  let s := withHart s fun h => { h with lateDue := false }
  if s.hart.lateEn then
    takeTrap (withHart s fun h => { h with lateEn := false }) { cause := 16, rpc := s.hart.pc, w1 := Config.trapWord s.tick }
  else s

/-- LATE (R348): the trap waits for a boundary after older instructions commit. -/
def execLate (h : Nat) (s : State) : Result :=
  .next (onSlot s h fun s =>
    if s.hart.lateEn && (!s.hart.inflight.isEmpty || s.hart.request.isSome) then schedule s (.late h) else lateTrap s)

end Sys2Proof.Machine
end

