-- ==== Sys2Proof/Machine/Parcel.lean ====
section
/-!
DEFINITION. Parcels (R202 to R208, R279 to R286): palloc, pst, pld, post, accept, pfree, and the events of a delivery.
-/

namespace Sys2Proof.Machine

/-- Size of a parcel in 64 KiB units (R202). -/
def parcelUnits (bytes : Nat) : Nat := ceilDiv bytes 65536

def execPalloc (xd xs1 : Nat) (s : State) : Result :=
  let n := (rx s xs1).toNat
  if n = 0 ∨ 2 ^ 30 < n then .next (illegalOperand s)
  else
    let u := parcelUnits n
    match freeWindow s (asidOf s.hart.ptroot) u, poolFree s (65536 * u) with
    | some x, some a =>
      let x := { x with state := 1, psize := u, phys := localPA s a }
      let s := writeWindow s x
      let s := { s with pool := (a, 65536 * u) :: s.pool, memory := mclear s.memory (localPA s a) (65536 * u) }
      finish xd (toWord x.base) (dropRange s x.range)
    | _, _ => finish xd 0 s

/-- The reference that stands for a pointer into a parcel (R203, R281); none when it escapes. -/
def reference (x : Window) (p : Nat) : Option Nat :=
  if p = 0 then some 0
  else if x.base ≤ p ∧ p < x.base + 65536 * x.psize then some (2 ^ 63 + (p - x.base))
  else none

/-- pst (R203): the causes in the order of R38, then the plain store. -/
def execPst (xs1 xs2 : Nat) (s : State) : Result :=
  let a := (rx s xs1).toNat
  if a % 8 ≠ 0 then .next (trapSelf s 3 0 1 0 (toWord a))
  else
    match locate (hartView s) 1 a s with
    | (s, .error f) => .next (trapAccess s f 1 0 a)
    | (s, .ok _) =>
      match (parcelOver s (asidOf s.hart.ptroot) a).bind (fun x => reference x (rx s xs2).toNat) with
      | none => .next (trapSelf s 10 0 1 0 (toWord a))
      | some v =>
        match store a (leBytes 8 v) 1 s with
        | (s, .error f) => .next (trapAccess s f 1 0 a)
        | (s, .ok _) => .next (retire s 4)

/-- What pld makes of a word (R204); none when the reference escapes. -/
def resolveRef (x : Option Window) (w : Nat) : Option Nat :=
  if !w.testBit 63 then some w
  else
    match x with
    | none => none
    | some x => if field w 40 23 ≠ 0 ∨ 65536 * x.psize ≤ field w 0 40 then none else some (x.base + field w 0 40)

def execPld (xd xs1 : Nat) (s : State) : Result :=
  let a := (rx s xs1).toNat
  if a % 8 ≠ 0 then .next (trapSelf s 3 0 0 0 (toWord a))
  else
    match load a 8 1 s with
    | (s, .error f) => .next (trapAccess s f 0 0 a)
    | (s, .ok w) =>
      match resolveRef (parcelOver s (asidOf s.hart.ptroot) a) w with
      | none => .next (trapSelf s 10 0 0 0 (toWord a))
      | some v => finish xd (toWord v) s

/-- What becomes of a post at once: a module that the fabric does not reach, and this module, answer by themselves; the parcel's packets leave for
another one, which answers when the outside world says so. -/
def hand (s : State) (handle dest bytes : Nat) : State :=
  if dest = s.regs.modid % 4096 then schedule s (.parcelConfirm handle)
  else
    match unreachableFor s (dest * 2 ^ 44) (flitsOf bytes) with
    | some sub => schedule (stopSpent s (dest * 2 ^ 44) (flitsOf bytes)) (.parcelDeliveryFail handle sub)
    | none => sent s (dest * 2 ^ 44) bytes

/-- The seal and the hand-over (R205, R284): unpublished bytes of the range are discarded, the window's pages unmapped. -/
def sealParcel (s : State) (x : Window) (dst : Word) (xd : Nat) : State :=
  let ch := bitsOf dst 12 2
  let id := (chanOf s ch).next
  let handle := handleOf s x
  let s := dropRange (writeWindow s { x with state := 3 }) x.range
  let s := onChan s ch fun c => { c with next := id + 1 }
  let t : Transit := ⟨handle, x.w, bitsOf dst 16 16, bitsOf dst 0 12, ch, id, s.hart.ctxid⟩
  hand (retire (wx { s with transit := s.transit ++ [t] } xd (toWord id)) 4) handle t.dest (65536 * x.psize)

def execPost (xd xs1 xs2 : Nat) (s : State) : Result :=
  let dst := rx s xs2
  match parcelAt s (asidOf s.hart.ptroot) (rx s xs1).toNat with
  | none => .next (illegalOperand s)
  | some x =>
    if bitsOf dst 32 32 ≠ 0 ∨ bitsOf dst 14 2 ≠ 0 then .next (illegalOperand s)
    else if (chanOf s (bitsOf dst 12 2)).isFull || portFull s (bitsOf dst 0 12 * 2 ^ 44) (65536 * x.psize) then .next (stall s)
    else
      let p := publishCounted s
      if p.2 then .next (sealParcel p.1 x dst xd) else .next (stall p.1)

/-- The parcel that accept takes (R206): the earliest confirmed one of the queues of the address space. -/
def earliest (s : State) : Option Arrived :=
  s.arrived.find? fun p => (tget s.arrq p.queue {}).en && (tget s.arrq p.queue {}).asid == asidOf s.hart.ptroot

def execAccept (xd : Nat) (s : State) : Result :=
  match earliest s with
  | none => finish xd 0 s
  | some p =>
    match freeWindow s (asidOf s.hart.ptroot) p.size with
    | none => finish xd 0 s
    | some x =>
      let x := { x with state := 4, psize := p.size, phys := localPA s p.phys }
      let s := dropRange { writeWindow s x with arrived := s.arrived.erase p } x.range
      finish xd (toWord x.base) (newPhase s)

def execPfree (xs1 : Nat) (s : State) : Result :=
  match parcelAt s (asidOf s.hart.ptroot) (rx s xs1).toNat with
  | none => .next (illegalOperand s)
  | some x => .next (retire (freeParcel (dropRange s x.range) x) 4)

/-! Delivery. -/

/-- The post of a handle. -/
def transitOf (s : State) (handle : Nat) : Option Transit := s.transit.find? fun t => t.handle == handle

/-- A parcel that this module's own queue takes: memory from the pool, the contents, the queue; the sender's window is freed. -/
def deliverHere (s : State) (t : Transit) (x : Window) : State :=
  match refusal s t.queue x.psize, poolFree s (65536 * x.psize) with
  | none, some a =>
    let n := 65536 * x.psize
    let s := dropNearPA { s with memory := mreplace s.memory (localPA s a) n (mslice s.memory x.phys n), pool := (a, n) :: s.pool } (localPA s a) n
    finishPost (freeParcel (enterQueue s t.handle t.queue x.psize a) x) t 5
  | some sub, _ => returnParcel s t sub
  | none, none => returnParcel s t 8

/-- A post whose delivery is confirmed (R284): its window is freed, its id has ARRIVED. -/
def confirmPost (s : State) (t : Transit) : State :=
  match transitWindow s t with
  | none => { s with transit := s.transit.filter fun x => x.handle != t.handle }
  | some x =>
    if t.dest = s.regs.modid % 4096 then deliverHere { s with transit := s.transit.filter fun x => x.handle != t.handle } t x
    else finishPost (freeParcel { s with transit := s.transit.filter fun x => x.handle != t.handle } x) t 5

/-- An unconfirmed copy given up, its memory given back to the pool. -/
def discardCopy (s : State) (p : Arrived) : State :=
  { s with incoming := s.incoming.erase p, pool := s.pool.filter fun r => r.1 != p.phys }

/-- An unconfirmed copy becomes ARRIVED. One whose queue has been taken from its address space meanwhile is given up: a queue with en = 0 belongs
to no context and holds no parcel (R393; DESIGN CHOICE, log 113). -/
def confirmCopy (s : State) (p : Arrived) : State :=
  if (tget s.arrq p.queue {}).en then enterQueue { s with incoming := s.incoming.erase p } p.handle p.queue p.size p.phys else discardCopy s p

/-- PARCEL_CONFIRM (R285): a parcel that this module posted, or one that it received and holds unconfirmed, becomes ARRIVED. -/
def execParcelConfirm (handle : Nat) (s : State) : Result :=
  match transitOf s handle with
  | some t => .next (confirmPost s t)
  | none =>
    match s.incoming.find? fun p => p.handle == handle with
    | some p => .next (confirmCopy s p)
    | none => .next s

/-- PARCEL_DELIVERY_FAIL (R284): the parcel of a handle is RETURNED with a sub-cause. -/
def execParcelDeliveryFail (handle sub : Nat) (s : State) : Result :=
  match transitOf s handle with
  | some t => .next (returnParcel s t sub)
  | none => .next s

/-- PARCEL_CONFIRM_TIMEOUT (R284): a delivery not confirmed in time. -/
def execParcelConfirmTimeout (handle : Nat) (s : State) : Result :=
  match transitOf s handle with
  | some t => .next (returnParcel s t 1)
  | none => .next s

/-- RECEIVER_DISCARD (R285): an unconfirmed copy is discarded and its memory given back. -/
def execReceiverDiscard (handle : Nat) (s : State) : Result :=
  match s.incoming.find? fun p => p.handle == handle with
  | some p => .next (discardCopy s p)
  | none => .next s

end Sys2Proof.Machine
end

