-- ==== Sys2Proof/Machine/Tasks.lean ====
section
/-!
DEFINITION. Range tasks (R243 to R246, R344) and device-driven graphs (R247, R248, R345), with the request area of the module
(R337).
-/

namespace Sys2Proof.Machine

/-! Range tasks. -/

/-- The task of a record of eight dwords (R243). -/
def taskOf (asid : Nat) (d : List Nat) : Task where
  tag := toWord (d.getD 0 0)
  lo := signed 64 (d.getD 1 0)
  hi := signed 64 (d.getD 2 0)
  grain := d.getD 3 0
  entry := toWord (field (d.getD 4 0) 0 55)
  arg := toWord (d.getD 5 0)
  done := toWord (field (d.getD 6 0) 0 55)
  asid := asid

/-- The record of a task (R243, R245). -/
def taskRecord (t : Task) : List Nat :=
  [t.tag.toNat, wrapTo 64 t.lo, wrapTo 64 t.hi, t.grain, t.entry.toNat, t.arg.toNat, t.done.toNat, 0]

/-- The outcome of an insertion into the queue of the hart's die (R244): whether it counts as done, and the queue. -/
def insertTask (t : Task) (q : List Task) : Nat × List Task :=
  if t.hi ≤ t.lo then (1, q) else if 1024 ≤ q.length then (0, q) else (1, q ++ [t])

/-- TASKADD (R244): the record is read, the hart's writes are published, the task is inserted. -/
def execTaskadd (xd xs1 : Nat) (s : State) : Result :=
  let va := (rx s xs1).toNat
  if va % 64 ≠ 0 then .next (trapSelf s 3 0 0 0 (toWord va))
  else
    match loadWords va 8 s with
    | (s, .error (f, a)) => .next (trapAccess s f 0 0 a)
    | (s, .ok d) =>
      let p := publishCounted s
      if !p.2 then .next (stall p.1)
      else
        let r := insertTask (taskOf (asidOf s.hart.ptroot) d) p.1.die.tasks
        finish xd (toWord r.1) (withDie p.1 fun x => { x with tasks := r.2 })

/-- Span of a task, and the grain it splits by. -/
def Task.span (t : Task) : Nat := (t.hi - t.lo).toNat

def Task.step (t : Task) : Nat := max 1 t.grain

/-- The task that a take of an address space chooses (R245, R344): the largest span, the earliest inserted among equals. -/
def largestTask (asid : Nat) : List Task → Option Task
  | [] => none
  | t :: ts =>
    match largestTask asid ts with
    | none => if t.asid = asid then some t else none
    | some u => if t.asid = asid ∧ u.span ≤ t.span then some t else some u

/-- A piece of a task, and what is left of the task (R245). -/
def splitTask (t : Task) : Task × Option Task :=
  if 2 * t.step ≤ t.span then
    let m : Int := t.lo + (t.span / 2 / t.step * t.step : Nat)
    ({ t with lo := m }, some { t with hi := m })
  else (t, none)

/-- The first occurrence of a task in a queue replaced by what is left of it. -/
def replaceTask (t : Task) (left : Option Task) : List Task → List Task
  | [] => []
  | u :: us => if u = t then left.toList ++ us else u :: replaceTask t left us

/-- TASKGET (R245): a piece of the largest task, written as writes of the hart; the next phase begins. -/
def execTaskget (xd xs1 : Nat) (s : State) : Result :=
  let va := (rx s xs1).toNat
  if va % 64 ≠ 0 then .next (trapSelf s 3 0 1 0 (toWord va))
  else
    match largestTask (asidOf s.hart.ptroot) s.die.tasks with
    | none => finish xd 0 s
    | some t =>
      match checkWords va 8 s with
      | (s, .error (f, a)) => .next (trapAccess s f 1 0 a)
      | (s, .ok _) =>
        let r := splitTask t
        let s := withDie s fun x => { x with tasks := replaceTask t r.2 x.tasks }
        finish xd 1 (newPhase (storeWords va (taskRecord r.1) s))

/-- TASKDONE (R246): an atomic fadd.rel.package on the done word. -/
def execTaskdone (xd xs1 xs2 : Nat) (s : State) : Result :=
  let a := rx s xs1
  let v := rx s xs2
  match atomicCheck s 11 a.toNat 8 with
  | (s, .error f) => .next (trapAccess s f.why f.acc 0 f.va)
  | (s, .ok va) =>
    let p := publishCounted s
    if !p.2 || writeWaits p.1 3 va then .next (stall p.1)
    else
      match atomicAct 11 8 va v.toNat 0 1 p.1 with
      | (s, .error f) => .next (trapAccess s f 3 0 va)
      | (s, .ok old) => finish xd (toWord old + v) s

/-- TASKKILL (R344): the tasks of an address space are discarded where no context of it is live or saved. -/
def execTaskkill (asid : Nat) (s : State) : Result :=
  if (boundHarts s ++ s.saved).any fun h => asidOf h.ptroot == asid then .next s
  else
    let keep (d : Die) : Die := { d with tasks := d.tasks.filter fun t => t.asid != asid }
    .next { s with die := keep s.die, otherDies := s.otherDies.map fun p => (p.1, keep p.2) }

/-! The request area (R337). -/

/-- The lowest free entry. -/
def freeRequest (s : State) : Option Nat := firstIndex (fun i => s.reqs.all fun p => p.1 != i) 1024 0

/-- A request filled in, and its start-request event; nothing changes when no entry is free. -/
def fillRequest (s : State) (r : Request) : Option State :=
  match freeRequest s with
  | none => none
  | some i => some (emitModule { s with reqs := tset s.reqs i r } 6 (toWord i) (toWord r.src))

/-! Graphs. -/

/-- Source number of a graph (R337). -/
def graphSrc (die g : Nat) : Nat := 0x100 + 16 * die + g

/-- The scheduler's view of memory: that of the context that issued the graphgo, with translations of its own. -/
def graphView (die : Nat) (g : Graph) : View := ⟨g.ptroot, 1536 + die, g.priv⟩

/-- A dword read by a graph scheduler (R248): the current version at its home. -/
def graphRead (v : View) (va : Nat) (s : State) : State × Except AccFault Nat :=
  if va % 8 ≠ 0 then (s, .error { cause := 3 })
  else
    match translate v 0 va s with
    | (s, .error f) => (s, .error f)
    | (s, .ok pa) =>
      match checkData s pa 8 with
      | .error f => (lastingError s pa 8, .error f)
      | .ok _ => (s, .ok (homeRead s pa 8))

/-- `n` dwords read. -/
def graphReads (v : View) (va : Nat) : Nat → State → State × Except AccFault (List Nat)
  | 0, s => (s, .ok [])
  | n + 1, s =>
    match graphRead v va s with
    | (s, .error f) => (s, .error f)
    | (s, .ok d) =>
      match graphReads v (va + 8) n s with
      | (s, .error f) => (s, .error f)
      | (s, .ok ds) => (s, .ok (d :: ds))

/-- The store of a status word, a swap at fabric scope: done, failed, or to be tried again while its page moves (R373). -/
def graphStore (v : View) (va st : Nat) (s : State) : State × Option Bool :=
  if va % 8 ≠ 0 then (s, some false)
  else
    match translate v 3 va s with
    | (s, .error _) => (s, some false)
    | (s, .ok pa) =>
      match checkData s pa 8 with
      | .error _ => (lastingError s pa 8, some false)
      | .ok _ => if moving s pa then (s, none) else (outsideWrite s pa (leBytes 8 st), some true)

/-- The graph of a number on a die, and a change of it. -/
def graphOf (s : State) (die g : Nat) : Option Graph := (dieAt s die).graphs.find? fun x => x.id == g

def onGraph (s : State) (die g : Nat) (f : Graph → Graph) : State :=
  onDie s die fun d => { d with graphs := d.graphs.map fun x => if x.id = g then f x else x }

/-- The graph goes on at its next turn. -/
def again (s : State) (die g : Nat) : State := schedule s (.graphNode die g)

/-- A graph leaves its die, and the graph-end event is sent (R248, R342). -/
def leaveGraph (s : State) (die : Nat) (x : Graph) (st : Nat) (stored : Bool) : State :=
  let s := onDie s die fun d => { d with graphs := d.graphs.filter fun y => y.id != x.id }
  emitWith s 8 die 0 0 x.ctxid (asidOf x.ptroot) (toWord x.header) (toWord (st % 2 ^ 32 + (if stored then 0 else 2 ^ 63))) none

/-- A graph ends with a status (R248); while its status word's page moves, the node that ended it is performed again. -/
def endGraph (s : State) (die : Nat) (x : Graph) (st : Nat) : State :=
  match graphStore (graphView die x) x.stat st s with
  | (s, some b) => leaveGraph s die x st b
  | (_, none) => again s die x.id

/-- The header is read (R247). A count of 0 stops the graph at node 0. -/
def startGraph (s : State) (die : Nat) (x : Graph) : State :=
  match graphReads (graphView die x) x.header 2 s with
  | (s, .error _) => leaveGraph s die x (3 + 0xFFFF * 2 ^ 16) false
  | (s, .ok d) =>
    let x := { x with count := field (d.getD 0 0) 0 16, stat := field (d.getD 1 0) 0 55, node := some 0 }
    if x.count = 0 then endGraph s die x 2 else again (onGraph s die x.id fun _ => x) die x.id

/-- The successor of a node is reached: none ends the graph. -/
def reachNode (s : State) (die : Nat) (x : Graph) (n : Nat) : State :=
  if n = 0xFFFF then endGraph s die x 1
  else again (onGraph s die x.id fun y => { y with node := some n, stage := 0, ended := 0 }) die x.id

/-- Address of node `i`. -/
def nodeAddr (x : Graph) (i : Nat) : Nat := x.header + 64 + 64 * i

/-- The fields of a kernel node's request (R337). -/
def kernelFields (x : Graph) (i : Nat) (d : List Nat) : List Nat :=
  let lohi (v : Nat) : List Nat := [v % 2 ^ 32, v / 2 ^ 32 % 2 ^ 32]
  lohi (field (d.getD 1 0) 0 55) ++ lohi (d.getD 2 0) ++ [field (d.getD 0 0) 8 6, 8192, 0, 0] ++ lohi (nodeAddr x i) ++
    lohi (field (d.getD 3 0) 0 55) ++ [0, 0, 0, 0]

/-- Whether an index names a node or none. -/
def successorFits (x : Graph) (n : Nat) : Bool := n == 0xFFFF || decide (n < x.count)

/-- Whether the fields of a node are such that it does not stop the graph (R248). -/
def nodeFits (x : Graph) (d : List Nat) : Bool :=
  let w := d.getD 0 0
  successorFits x (field w 32 16) && successorFits x (field w 48 16) &&
    match field w 0 4 with
    | 1 => [4, 8, 16, 32].contains (field w 8 6) && field w 48 16 == 0xFFFF
    | 2 => true
    | 3 => true
    | _ => false

/-- The first graph of a die whose request waits tries again. -/
def retryRequests (s : State) (die : Nat) : State :=
  match (dieAt s die).graphs.find? fun y => y.stage == 1 with
  | some y => again s die y.id
  | none => s

/-- The request of a kernel node that waits for an entry (R345): graphs of a die take entries in the order in which they reached their
nodes. -/
def requestNode (s : State) (die : Nat) (x : Graph) : State :=
  match (dieAt s die).graphs.find? fun y => y.stage == 1 with
  | none => s
  | some y =>
    if y.id ≠ x.id then s
    else
      match fillRequest s ⟨x.fields, x.ptroot, graphSrc die x.id, 0, 0, 0, x.deadline⟩ with
      | none => s
      | some s => retryRequests (onGraph s die x.id fun y => { y with stage := 2, ended := 0 }) die

/-- A kernel node is reached: its graph goes behind those of the die that already wait. -/
def kernelNode (s : State) (die : Nat) (x : Graph) (i : Nat) (d : List Nat) : State :=
  let x := { x with stage := 1, fields := kernelFields x i d, next := field (d.getD 0 0) 32 16 }
  requestNode (onDie s die fun y => { y with graphs := y.graphs.filter (fun z => z.id != x.id) ++ [x] }) die x

/-- A node is performed (R248). -/
def performNode (s : State) (die : Nat) (x : Graph) (i : Nat) : State :=
  let v := graphView die x
  match graphReads v (nodeAddr x i) 4 s with
  | (s, .error _) => endGraph s die x (3 + i * 2 ^ 16)
  | (s, .ok d) =>
    if !nodeFits x d then endGraph s die x (2 + i * 2 ^ 16)
    else if field (d.getD 0 0) 0 4 = 1 then kernelNode s die x i d
    else
      match graphRead v (field (d.getD 1 0) 0 55) s with
      | (s, .error _) => endGraph s die x (3 + i * 2 ^ 16)
      | (s, .ok p) => reachNode s die x (field (d.getD 0 0) (if p = 0 then 48 else 32) 16)

/-- One act of a graph. -/
def graphTurn (s : State) (die : Nat) (x : Graph) : State :=
  match x.node with
  | none => startGraph s die x
  | some i =>
    match x.stage with
    | 0 => performNode s die x i
    | 1 => requestNode s die x
    | _ => if x.ended = 0 then s else if x.ended = 1 then reachNode s die x x.next else endGraph s die x (4 + i * 2 ^ 16)

/-- GRAPH_NODE (R248): the scheduler of a die performs the next act of a graph. -/
def execGraphNode (die g : Nat) (s : State) : Result :=
  match graphOf s die g with
  | none => .next s
  | some x => .next (graphTurn s die x)

/-- A graph joins its die. -/
def launchGraph (header : Nat) (g : Nat) (s : State) : State :=
  let h := s.hart
  let x : Graph := { id := g, header, ptroot := h.ptroot, priv := h.priv, ctxid := h.ctxid, deadline := h.deadline }
  again (withDie s fun d => { d with graphs := d.graphs ++ [x] }) h.dieNo g

/-- GRAPHGO (R248): the publication, then the hand-over, refused when the die runs 16 graphs. -/
def execGraphgo (xd xs1 : Nat) (s : State) : Result :=
  let va := (rx s xs1).toNat
  if va % 64 ≠ 0 then .next (trapSelf s 3 0 0 0 (toWord va))
  else
    let p := publishCounted s
    if !p.2 then .next (stall p.1)
    else
      match firstIndex (fun g => p.1.die.graphs.all fun x => x.id != g) 16 0 with
      | none => finish xd 0 p.1
      | some g => finish xd 1 (launchGraph va g p.1)

/-- REQFREE (R337, R345): a filled entry is freed; a graph's request that waits takes it, and the host queues go on. -/
def execReqfree (i : Nat) (s : State) : Result :=
  if s.reqs.all fun p => p.1 != i then .next s
  else
    let s := { s with reqs := tdel s.reqs i }
    let s := (List.range 24).foldl retryRequests s
    .next ((List.range 64).foldl (fun s q => if (tget s.hostq q {}).enable then schedule s (.hostQueueTake q) else s) s)

end Sys2Proof.Machine
end

