-- ==== Sys2Proof/Machine/Queues.lean ====
section
/-!
DEFINITION. Record queues (R249 to R252): the descriptor, the delta code, qpost and qtake.
-/

namespace Sys2Proof.Machine

/-- A queue descriptor read at its home (R249). -/
structure Queue where
  pa : Nat
  base : Nat
  lsize : Nat
  head : Nat
  tail : Nat
  posted : Nat
  taken : Nat
deriving DecidableEq, Repr

def readQueue (s : State) (pa : Nat) : Queue :=
  let rd (o n : Nat) := mgetN s.memory (homeAddr s pa + o) n
  { pa, base := field (rd 0 8) 0 55, lsize := field (rd 8 8) 0 6, head := rd 16 8, tail := rd 24 8, posted := rd 32 64, taken := rd 96 64 }

/-- Field `i` of a record of 16 fields. -/
def recField (r i : Nat) : Nat := field r (32 * i) 32

/-- The mask of fields in which two records differ, and the coded length of a mask (R250, R251). -/
def diffMask (r old : Nat) : Nat := packBits 1 ((List.range 16).map fun i => bit (recField r i != recField old i))

def codedLen (mask : Nat) : Nat := 4 + 4 * popCount 16 mask

/-- The coded bytes of a record (R250). -/
def codeRecord (seq mask r : Nat) : List Byte :=
  leBytes 4 (mask + seq % 65536 * 65536) ++
    ((List.range 16).filter fun i => mask.testBit i).flatMap fun i => leBytes 4 (recField r i)

/-- The record that coded fields make of an older one: the fields follow in ascending order (R252). -/
def decodeFields (mask : Nat) (byte : Nat → Nat) (old : Nat) : Nat :=
  packBits 32 ((List.range 16).map fun i =>
    if mask.testBit i then
      let k := 4 + 4 * popCount i mask
      byte k + 256 * byte (k + 1) + 65536 * byte (k + 2) + 16777216 * byte (k + 3)
    else recField old i)

/-- Virtual address of byte `k` of a stream (R250). -/
def Queue.byteAddr (q : Queue) (k : Nat) : Nat := q.base + k % 2 ^ q.lsize

/-- The physical addresses of `n` bytes of a stream, for an access. -/
def streamBytes (acc : Nat) (q : Queue) (k : Nat) : Nat → State → State × Except (AccFault × Nat) (List Nat)
  | 0, s => (s, .ok [])
  | n + 1, s =>
    let va := q.byteAddr k
    match translate (hartView s) acc va s with
    | (s, .error f) => (s, .error (f, va))
    | (s, .ok pa) =>
      match checkData s pa 1 with
      | .error f => (lastingError s pa 1, .error (f, va))
      | .ok _ =>
        match streamBytes acc q (k + 1) n s with
        | (s, .error e) => (s, .error e)
        | (s, .ok pas) => (s, .ok (pa :: pas))

/-- The descriptor that X[xs1] names, for the read-modify-write of an operation (R252). -/
def queueAt (va : Nat) (s : State) : State × Except AccFault Queue :=
  match translate (hartView s) 3 va s with
  | (s, .error f) => (s, .error f)
  | (s, .ok pa) =>
    match checkData s pa 256 with
    | .error f => (lastingError s pa 256, .error f)
    | .ok _ => (s, .ok (readQueue s pa))

/-- Records posted to a queue before this one (R250): counted while the descriptor stands as the last qpost left it (log 17). -/
def postCount (s : State) (q : Queue) : Nat :=
  let p := tget s.posts (homeAddr s q.pa) (0, q.tail, q.posted)
  if p.2 = (q.tail, q.posted) then p.1 else 0

/-- Bytes written at their homes, one by one. -/
def putBytes : List Nat → List Byte → State → State
  | pa :: pas, b :: bs, s => putBytes pas bs (outsideWrite s pa [b])
  | _, _, s => s

/-- The act of a qpost at the home (R251). -/
def postRecord (q : Queue) (r : Nat) (pas : List Nat) (s : State) : State :=
  let n := postCount s q
  let tail := (q.tail + pas.length) % 2 ^ 64
  let s := putBytes pas (codeRecord n (diffMask r q.posted) r) s
  let s := outsideWrite (outsideWrite s (q.pa + 24) (leBytes 8 tail)) (q.pa + 32) (leBytes 64 r)
  { s with posts := tset s.posts (homeAddr s q.pa) (n + 1, tail, r) }

/-- Whether `n` more bytes fit in the ring (R251). -/
def Queue.room (q : Queue) (n : Nat) : Bool := decide ((q.tail + 2 ^ 64 - q.head) % 2 ^ 64 + n ≤ 2 ^ q.lsize)

/-- The misaligned operands of a queue form: the descriptor's, then the record's (R251, R252). -/
def queueMisaligned (a b : Nat) : Option Nat := if a % 256 ≠ 0 then some a else if b % 64 ≠ 0 then some b else none

/-- The request of a queue form, which goes to the home of the descriptor and acts there (R249), under the deadline in force (R260). -/
def queueRequest (q : Queue) (data : Nat) (s : State) : State := request s.hart.deadline s q.pa data

/-- Whether the request waits for room at its port (R364), and whether bytes that a queue form changes lie on a page that is being moved (R373). -/
def queueHeld (q : Queue) (data : Nat) (s : State) : Bool := portFull s (homeAddr s q.pa) data

def queueMoves (q : Queue) (pas : List Nat) (s : State) : Bool := (q.pa :: pas).any (moving s)

/-- What follows once the record is read and the publication is complete. -/
def qpostAct (xd va r : Nat) (s : State) : Result :=
  match queueAt va s with
  | (s, .error f) => .next (trapAccess s f 3 0 va)
  | (s, .ok q) =>
    let n := codedLen (diffMask r q.posted)
    if queueHeld q 64 s then .next (stall s)
    else if !q.room n then finish xd 0 (queueRequest q 64 s)
    else
      match streamBytes 1 q q.tail n s with
      | (s, .error (f, a)) => .next (trapAccess s f 1 0 a)
      | (s, .ok pas) =>
        if queueMoves q pas s then .next (stall s) else finish xd 1 (postRecord q r pas (queueRequest q 64 s))

/-- QPOST (R251). -/
def execQpost (xd xs1 xs2 : Nat) (s : State) : Result :=
  let a := (rx s xs1).toNat
  let b := (rx s xs2).toNat
  match queueMisaligned a b with
  | some va => .next (trapSelf s 3 0 0 0 (toWord va))
  | none =>
    match loadWords b 8 s with
    | (s, .error (f, va)) => .next (trapAccess s f 0 0 va)
    | (s, .ok ws) =>
      let p := publishCounted s
      if p.2 then qpostAct xd a (packBits 64 ws) p.1 else .next (stall p.1)

/-- A coded record found at the head of a queue: its header, its length, the record it makes. -/
structure Coded where
  header : Nat
  len : Nat
  rec_ : Nat
deriving DecidableEq, Repr

/-- The record that bytes at the head of a queue code (R252). -/
def codedAt (q : Queue) (byte : Nat → Nat) : Coded :=
  let h := byte 0 + 256 * byte 1 + 65536 * byte 2 + 16777216 * byte 3
  let mask := h % 65536
  ⟨h, codedLen mask, decodeFields mask byte q.taken⟩

/-- The descriptor after a take (R252). -/
def takeRecord (q : Queue) (c : Coded) (s : State) : State :=
  outsideWrite (outsideWrite s (q.pa + 16) (leBytes 8 ((q.head + c.len) % 2 ^ 64))) (q.pa + 96) (leBytes 64 c.rec_)

/-- The 64 bytes of a record as dwords. -/
def recDwords (r : Nat) : List Nat := (List.range 8).map fun i => field r (64 * i) 64

/-- The take of a record whose bytes stand at `pas`. -/
def qtakeAct (xd b : Nat) (q : Queue) (pas : List Nat) (s : State) : Result :=
  let c := codedAt q fun k => match pas[k]? with
    | some pa => (homeByte s pa).toNat
    | none => 0
  match checkWords b 8 s with
  | (s, .error (f, va)) => .next (trapAccess s f 1 0 va)
  | (s, .ok _) =>
    if queueMoves q [] s then .next (stall s)
    else finish xd 1 (newPhase (storeWords b (recDwords c.rec_) (takeRecord q c (queueRequest q 0 s))))

/-- The header of the record at the head, then all its bytes. -/
def recordBytes (q : Queue) (s : State) : State × Except (AccFault × Nat) (List Nat) :=
  match streamBytes 0 q q.head 4 s with
  | (s, .error e) => (s, .error e)
  | (s, .ok pas) => streamBytes 0 q q.head (codedLen (ofLe (pas.map (homeByte s)) % 65536)) s

/-- QTAKE (R252). -/
def execQtake (xd xs1 xs2 : Nat) (s : State) : Result :=
  let a := (rx s xs1).toNat
  let b := (rx s xs2).toNat
  match queueMisaligned a b with
  | some va => .next (trapSelf s 3 0 0 0 (toWord va))
  | none =>
    match queueAt a s with
    | (s, .error f) => .next (trapAccess s f 3 0 a)
    | (s, .ok q) =>
      if queueHeld q 0 s then .next (stall s)
      else if q.head = q.tail then finish xd 0 (queueRequest q 0 s)
      else
        match recordBytes q s with
        | (s, .error (f, va)) => .next (trapAccess s f 0 0 va)
        | (s, .ok pas) => qtakeAct xd b q pas s

end Sys2Proof.Machine
end

