-- ==== Sys2Proof/Machine/System.lean ====
section
/-!
DEFINITION. System forms (R261 to R267), the words that are no instruction (R132, R133), a trap as such (R302).
-/

namespace Sys2Proof.Machine

/-- A trap whose resume PC is the next instruction, counted in INSTRET (R150, R261). -/
def trapAfter (s : State) (cause : Nat) : State :=
  takeTrap (withHart s fun h => { h with instret := h.instret + 1 }) { cause, rpc := s.hart.pc + 4, w1 := s.hart.ir1 }

/-- ECALL and EBREAK (R261). -/
def execEcall (s : State) : Result := .next (trapAfter s 14)

def execEbreak (s : State) : Result := .next (trapAfter s 15)

/-- TRAPRET (R262, R307). -/
def execTrapret (s : State) : Result := .next (privileged s returnFromTrap)

/-- Whether a tlbinv discards a translation (R263). -/
def discards (asid : Nat) (va flags : Word) (c : Cached) : Bool :=
  let addr := flags.getLsbD 0 || c.vpn == va.toNat / (if c.blk then 2 ^ 29 else 65536)
  addr && (flags.getLsbD 1 || c.glob || c.asid == asid)

/-- TLBINV (R263). -/
def execTlbinv (xs1 xs2 : Nat) (s : State) : Result :=
  .next (privileged s fun s =>
    retire { s with tlb := s.tlb.filter fun c => !discards (asidOf s.hart.ptroot) (rx s xs1) (rx s xs2) c } 4)

/-- HALT (R264). -/
def execHalt (s : State) : Result :=
  .next (privileged s fun s => retire (withHart s fun h => { h with run := .halted }) 4)

/-- HART_RESTART (R264): the management core lets a halted hart fetch again. -/
def execHartRestart (h : Nat) (s : State) : Result :=
  .next (onSlot s h fun s => withHart s fun h => if h.run = .halted then { h with run := .running } else h)

/-- The end of a thread by yield (R265): engines first, then the array, the publication and the end. -/
def yieldEnd (s : State) : State :=
  if !enginesQuiet s then stall s
  else
    let p := publishCounted (withCore s fun c => releaseArray c s.hart.idx)
    if p.2 then endThread (retire p.1 4) 0 1 else stall p.1

/-- YIELD (R265): 0 offers the slot, and the thread goes on while the scheduler leaves it bound. -/
def execYield (xs1 : Nat) (s : State) : Result :=
  let v := rx s xs1
  if v = 0 then .next (retire s 4) else if v = 1 then .next (yieldEnd s) else .next (illegalOperand s)

/-- PERF (R266). -/
def execPerf (xd xs1 : Nat) (s : State) : Result := finish xd (vget s.hart.perf (rx s xs1).toNat 0) s

/-! The lane map (R43, R267). -/

/-- Whether a change of an entry touches a bound lane (R44). -/
def changesBound (s : State) (old new : BitVec 8) : Bool :=
  old != new && ((activeLane old).toList ++ (activeLane new).toList).any (laneBound s s.hart.coreNo)

/-- Whether another active entry already gives a logical lane. -/
def laneTaken (m : Vector (BitVec 8) 34) (p : Nat) (new : BitVec 8) : Bool :=
  match activeLane new with
  | none => false
  | some l => (List.range 34).any fun q => q != p && activeLane (vget m q 0) == some l

/-- LANEMAP (R267). -/
def lanemapAct (xd xs1 xs2 : Nat) (s : State) : State :=
  let p := (rx s xs1).toNat
  if 33 < p then illegalOperand s
  else
    let old := vget s.core.lanemap p 0
    let new := BitVec.ofNat 8 (rx s xs2).toNat
    if xs2 = 0 then retire (wx s xd (old.setWidth 64)) 4
    else if laneState new = 3 || laneTaken s.core.lanemap p new || changesBound s old new then illegalOperand s
    else retire (wx (withCore s fun c => { c with lanemap := vset c.lanemap p new }) xd (old.setWidth 64)) 4

def execLanemap (xd xs1 xs2 : Nat) (s : State) : Result := .next (privileged s (lanemapAct xd xs1 xs2))

/-! Rows without a word that are acts of a hart. -/

/-- ILLEGAL_INSTRUCTION (R132, R133): words that are no instruction, at the program counter. -/
def execIllegalInstruction (w1 w2 pair : Nat) (s : State) : Result := .next (illegalInstr (latch s w1 w2 (pair == 1)))

/-- TRAP (R302): the hart in hand takes a trap. -/
def execTrap (cause sub acc elem addr : Nat) (s : State) : Result :=
  .next (if s.hart.run == .running then trapSelf s cause sub acc elem (toWord addr) else s)

end Sys2Proof.Machine
end

