-- ==== Sys2Proof/Machine/HostQueues.lean ====
section
/-!
DEFINITION. Host queues (R333 to R336), the event ring (R342), arrival-queue registers (R393), power caps (R343).
-/

namespace Sys2Proof.Machine

def hostQueue (s : State) (q : Nat) : HostQueue := tget s.hostq q {}

def onHostQueue (s : State) (q : Nat) (f : HostQueue → HostQueue) : State := { s with hostq := tset s.hostq q (f (hostQueue s q)) }

/-- The descriptor of a host queue (R249, R333): its base is a local physical address too. -/
def hostDesc (s : State) (q : Nat) : Queue :=
  let d := readQueue s (localPA s (hostQueue s q).desc.toNat)
  { d with base := localPA s d.base }

/-- A byte of a host queue's stream. -/
def hostByte (s : State) (d : Queue) (k : Nat) : Nat := (homeByte s (d.byteAddr k)).toNat

/-- The record that stands at byte `k` of a host queue's stream. -/
def hostCoded (s : State) (d : Queue) (k : Nat) : Coded := codedAt d fun i => hostByte s d (k + i)

/-- A queue stops with the host-queue-error event (R334, R336, R342). -/
def stopQueue (s : State) (q : Nat) (d : Queue) : State :=
  emitModule (onHostQueue s q fun x => { x with stopped := true }) 7 (toWord q) (toWord d.head)

/-- The tail that a doorbell names (R334): the low 44 bits replaced, with a carry where the result would be lower. -/
def newTail (old low : Nat) : Nat :=
  let t := old - old % 2 ^ 44 + low % 2 ^ 44
  if t < old then t + 2 ^ 44 else t

/-- How many records end exactly at a tail, from byte `k` up; none where no record ends there. -/
def countRecords (s : State) (d : Queue) (tail : Nat) : Nat → Nat → Option Nat
  | 0, k => if k = tail then some 0 else none
  | n + 1, k =>
    if k = tail then some 0
    else if tail < k then none
    else (countRecords s d tail n (k + (hostCoded s d k).len)).map (· + 1)

/-- Whether a doorbell stops its queue (R334). -/
def doorbellStops (s : State) (d : Queue) (v tail : Nat) : Bool :=
  let gang := field v 44 4
  field v 50 14 != 0 || field v 48 2 == 3 || decide (2 ^ 64 ≤ tail) || decide (d.head + 2 ^ d.lsize < tail) ||
    (decide (2 ≤ gang) && countRecords s d tail 16 d.tail != some gang)

/-- DOORBELL (R334). -/
def execDoorbell (q v : Nat) (s : State) : Result :=
  let d := hostDesc s q
  let tail := newTail d.tail v
  if 63 < q then .next s
  else if doorbellStops s d v tail then .next (stopQueue s q d)
  else
    let gang := field v 44 4
    let gid := if 2 ≤ gang then s.nextGang else 0
    let s := homeWrite s (d.pa + 24) (leBytes 8 tail)
    let s := onHostQueue s q fun x => { x with gangs := x.gangs ++ [⟨tail, gang, field v 48 2, gid⟩] }
    .next (schedule { s with nextGang := if 2 ≤ gang then s.nextGang + 1 else s.nextGang } (.hostQueueTake q))

/-- HQSTAT_ENABLE (R333). -/
def execHqstatEnable (q en : Nat) (s : State) : Result :=
  if 63 < q then .next s
  else .next (schedule (onHostQueue s q fun x => { x with enable := en % 2 == 1 }) (.hostQueueTake q))

/-- HQSTAT_STOPPED_CLEAR (R333). -/
def execHqstatStoppedClear (q : Nat) (s : State) : Result :=
  if 63 < q then .next s
  else .next (schedule (onHostQueue s q fun x => { x with stopped := false }) (.hostQueueTake q))

/-- Whether the fields of a start record are legal (R335). -/
def startFits (r : Nat) : Bool :=
  let f := recField r
  field (f 1) 23 9 == 0 && [4, 8, 16, 32].contains (f 4) && decide (1 ≤ f 5) && decide (f 5 ≤ 8192) && field (f 11) 23 9 == 0 &&
    f 12 == 0 && f 13 == 0 && f 14 == 0 && f 15 == 0

/-- The absolute deadline of a budget (R337). -/
def deadlineOf (s : State) (r : Nat) : Word :=
  let budget := recField r 6 + field (recField r 7) 0 31 * 2 ^ 32
  if budget = 0 then 0 else heldSum s.time (toWord budget)

/-- The gang that the record at a head belongs to (R334). -/
def gangAt (x : HostQueue) (head : Nat) : Gang := (x.gangs.find? fun g => decide (head < g.upto)).getD ⟨0, 0, 0, 0⟩

/-- Whether the unit can take from a queue. -/
def queueReady (s : State) (q : Nat) : Bool :=
  let x := hostQueue s q
  let d := hostDesc s q
  x.enable && !x.stopped && d.head != d.tail

/-- The queue whose turn it is (R336): ascending, one record a queue a turn. -/
def queueTurn (s : State) : Option Nat :=
  (firstIndex (fun i => queueReady s ((s.hqTurn + i) % 64)) 64 0).map fun i => (s.hqTurn + i) % 64

/-- A record taken into the request area, or the queue stopped on it (R336). -/
def takeStart (s : State) (q : Nat) : State :=
  let x := hostQueue s q
  let d := hostDesc s q
  let c := hostCoded s d d.head
  if c.header / 65536 ≠ x.taken % 65536 ∨ !startFits c.rec_ then stopQueue s q d
  else
    let g := gangAt x d.head
    let r : Request := ⟨(List.range 16).map (recField c.rec_), x.pt, q, g.gang, g.place, g.gid, deadlineOf s c.rec_⟩
    match fillRequest s r with
    | none => s
    | some s =>
      let s := takeRecord d c s
      onHostQueue { s with hqTurn := (q + 1) % 64 } q fun x =>
        { x with taken := x.taken + 1, gangs := x.gangs.filter fun g => decide (d.head + c.len < g.upto) }

/-- The unit goes on to the queue whose turn is next. -/
def nextQueue (s : State) : State :=
  match queueTurn s with
  | some q => schedule s (.hostQueueTake q)
  | none => s

/-- HOST_QUEUE_TAKE (R336): the unit takes a record of the queue whose turn it is, while the request area has a free entry. -/
def execHostQueueTake (q : Nat) (s : State) : Result :=
  if (freeRequest s).isNone then .next s
  else if queueTurn s = some q then .next (nextQueue (takeStart s q))
  else .next (nextQueue s)

/-! The event ring (R327, R342). -/

/-- Whether the ring has no room (log 18). -/
def ringFull (r : Regs) : Bool := decide (2 ^ r.evsz ≤ (r.evtail - r.evhead).toNat)

/-- The first waiting record written into the ring; the slot that waited for it becomes free (R340, R342), and a lane that
is to be retired may be free now (R386). -/
def writeRecord (s : State) (n : Notice) (rest : List Notice) : State :=
  let a := localPA s (s.regs.evb.toNat + 32 * (s.regs.evtail.toNat % 2 ^ s.regs.evsz))
  let s := { homeWrite s a (n.words.flatMap fun w => leBytes 8 w.toNat) with events := rest }
  let s := withRegs s fun r => { r with evtail := r.evtail + 1 }
  let s := match n.frees with
    | some k => settleLanes (freeSlot s k)
    | none => s
  if rest.isEmpty || s.agenda.contains .eventRecordWrite then s else schedule s .eventRecordWrite

/-- EVENT_RECORD_WRITE (R342). -/
def execEventRecordWrite (s : State) : Result :=
  match s.events with
  | [] => .next s
  | n :: rest => if ringFull s.regs then .next s else .next (writeRecord s n rest)

/-- The ring may have room again. -/
def ringAgain (s : State) : State := if s.events.isEmpty then s else schedule s .eventRecordWrite

/-- EVHEAD (R342). -/
def execEvhead (v : Nat) (s : State) : Result := .next (ringAgain (withRegs s fun r => { r with evhead := toWord v }))

/-- EVSZ (R342). -/
def execEvsz (v : Nat) (s : State) : Result :=
  if 8 ≤ v ∧ v ≤ 16 then .next (ringAgain (withRegs s fun r => { r with evsz := v })) else .next s

/-- The external interrupt of the management core: raised while the ring holds records (R342). -/
def interruptRaised (r : Regs) : Bool := r.evhead != r.evtail

/-! Arrival queues and caps. -/

/-- ARRIVED parcels in a queue. -/
def arrivedIn (s : State) (n : Nat) : Nat := (s.arrived.filter fun p => p.queue == n).length

/-- ARRIVAL_QUEUE (R393). -/
def execArrivalQueue (n v : Nat) (s : State) : Result :=
  if 1023 < n ∨ (!v.testBit 23 ∧ arrivedIn s n ≠ 0) then .next s
  else .next { s with arrq := tset s.arrq n ⟨v.testBit 23, field v 0 16⟩ }

/-- A core with its caps written (R343): an mcap of 3 is ignored, a vcap of 0 is taken as 1. -/
def writeCaps (v : Nat) (c : Core) : Core :=
  { c with mcap := if field v 16 2 = 3 then c.mcap else field v 16 2, vcap := max 1 (field v 0 14) }

/-- POWER_CAP (R343). -/
def execPowerCap (core v : Nat) (s : State) : Result := if 1535 < core then .next s else .next (onCore s core (writeCaps v))

end Sys2Proof.Machine
end

