-- ==== Sys2Proof/Machine/Slots.lean ====
section
/-!
DEFINITION. The commands of the slot table (R338 to R341): start, restore, pre-empt; and the end of a save (R324 to R326).
-/

namespace Sys2Proof.Machine

/-- The number of a slot of a die. -/
def slotOf (die slot : Nat) : Nat := 512 * die + slot

/-- The bound hart of a core with the nearest lower first lane, and with the nearest higher (R8). -/
def hartBelow (hs : List Hart) (lbase : Nat) : Option Hart :=
  (hs.filter fun h => decide (h.lbase < lbase)).foldl (fun b h =>
    match b with
    | some g => if g.lbase < h.lbase then some h else b
    | none => some h) none

def hartAbove (hs : List Hart) (lbase : Nat) : Option Hart :=
  (hs.filter fun h => decide (lbase < h.lbase)).foldl (fun b h =>
    match b with
    | some g => if h.lbase < g.lbase then some h else b
    | none => some h) none

/-- The index of a new hart (R8). -/
def newIndex (hs : List Hart) (lbase : Nat) : Nat :=
  match hartBelow hs lbase with
  | some h => h.idx + 1
  | none => 0

/-- Whether the index of a new hart is not below that of the next hart up (R8, R340 result 2). -/
def indexClash (hs : List Hart) (lbase : Nat) : Bool :=
  match hartAbove hs lbase with
  | some h => decide (h.idx ≤ newIndex hs lbase)
  | none => false

/-- Whether the fields of a bind record are in range (R339, R340 result 6). -/
def bindFits (x : Slot) : Bool :=
  [4, 8, 16, 32].contains x.psize && decide (1 ≤ x.vlmax) && decide (x.vlmax ≤ 8192) && decide (x.frame.toNat % 65536 = 0)

/-- Whether a slot and those it covers are free and its place is aligned (R340 result 1). -/
def placeFits (s : State) (n psize : Nat) : Bool :=
  decide (slotLbase n % psize = 0) && (List.range (psize / 4)).all fun i => (slotAt s (n + i)).st == 0

/-- A dword of the frame of a bind record, and the first one. -/
def frameDword (s : State) (x : Slot) (o : Nat) : Nat := mgetN s.memory (framePlace s x.frame.toNat o) 8

def frameHead (s : State) (x : Slot) : Nat := frameDword s x 0

/-- Result of a start (R340). -/
def startResult (s : State) (n : Nat) (x : Slot) : Nat :=
  let c := coreNo (slotCx n) (slotCy n)
  if !bindFits x then 6
  else if !placeFits s n x.psize then 1
  else if indexClash (coreHarts s c) (slotLbase n) then 2
  else if effectiveLanes (coreAt s c) (slotLbase n) x.psize = 0 then 8
  else 0

/-- Result of a restore (R325, R340). -/
def restoreResult (s : State) (n : Nat) (x : Slot) : Nat :=
  let c := coreNo (slotCx n) (slotCy n)
  let lanes := effectiveLanes (coreAt s c) (slotLbase n) x.psize
  let d := frameHead s x
  if !bindFits x then 6
  else if !placeFits s n x.psize then 1
  else if indexClash (coreHarts s c) (slotLbase n) then 2
  else if field d 22 6 ≠ x.psize ∨ field d 16 6 ≠ lanes then 3
  else if d.testBit 33 ∧ field (frameDword s x 0x30) 0 14 ≠ n then 4
  else if d.testBit 32 ∧ (coreAt s c).claimant.isSome then 5
  else if lanes = 0 then 8
  else 0

/-- A hart put at its slot, in place of the one that stood there. -/
def placeHart (s : State) (h : Hart) : State :=
  if s.hart.slot = h.slot then { s with hart := h }
  else { s with others := h :: s.others.filter fun x => x.slot != h.slot }

/-- A hart as a bind leaves it before its state is loaded (R8, R339). -/
def seat (s : State) (n : Nat) (x : Slot) (h : Hart) : Hart :=
  let c := coreNo (slotCx n) (slotCy n)
  { h with
    cx := slotCx n, cy := slotCy n, psize := x.psize, lbase := slotLbase n
    lanes := effectiveLanes (coreAt s c) (slotLbase n) x.psize, idx := newIndex (coreHarts s c) (slotLbase n)
    vlmax := x.vlmax, frame := x.frame, tag := x.tag, src := x.src }

/-- A PTROOT value without its reserved bits (R311). -/
def rootFields (v : Word) : Word := v &&& 0x00FFFFFFFFFFFFFF

/-- The thread that a start binds (R14, R340). -/
def startHart (s : State) (n : Nat) (x : Slot) : Hart :=
  let h := seat s n x Hart.reset
  let stack := frameDword s x 0x50
  let tvec := frameDword s x 0x38
  { h with
    run := .running, pc := alignPc x.entry, x := vset (vset h.x 2 (toWord stack)) 4 x.arg, bshape := toWord (h.lanes + 2 ^ 16 + 2 ^ 32)
    vtype := 10, tvec := alignPc (toWord tvec), ctxid := x.ctxid, ptroot := rootFields x.ptroot, deadline := x.dl, lateEn := x.late
    stamp := s.pubs }

/-- The result of a command written (R340). -/
def setResult (s : State) (n r : Nat) : State := onSlotEntry s n fun x => { x with result := r }

/-- START (R340). -/
def execStart (die slot : Nat) (s : State) : Result :=
  if 23 < die ∨ 511 < slot then .next s
  else
    let n := slotOf die slot
    let x := slotAt s n
    let r := startResult s n x
    let s := setResult s n r
    if r ≠ 0 then .next s else .next (markSlots (placeHart s (startHart s n x)) n x.psize 2 1)

/-- Whether the oldest in-flight instruction is a link form, and whether it waits (R254, R255, R324). -/
def linkJob (e : Entry) : Bool :=
  match decodeWord e.w1 with
  | .ok (.nlsend _ _ _ _) => true
  | .ok (.nlrecv _ _ _ _) => true
  | _ => false

def linkWaits (s : State) : Bool :=
  match s.hart.inflight with
  | [] => false
  | e :: _ =>
    linkJob e &&
      match entryJob e with
      | some (.rows f) => f.waits e.cap e.rows s
      | _ => false

/-- A save that falls in a link form that waits stands at that form (R324). -/
def linkPc (h : Hart) : Hart :=
  match h.inflight with
  | [e] => if linkJob e && e.lap.isNone then { h with pc := alignPc e.pc, waiting := true } else h
  | _ => h

/-- The restore of a context saved in a link form goes on with it at its first uncommitted row, unless software moved the PC
(R255, R323). -/
def linkResume (h : Hart) : Hart :=
  match h.inflight with
  | [e] => if linkJob e && e.lap.isNone then (if h.pc = e.pc then { h with pc := h.pc + 4 } else { h with inflight := [] }) else h
  | _ => h

/-- What the model keeps of a saved context beside its frame (log 14); nothing of a frame that the device did not write. -/
def keptHart (s : State) (ctxid : BitVec 32) : Hart :=
  match s.saved.find? fun h => h.ctxid == ctxid with
  | some h => h
  | none => { Hart.reset with stamp := s.pubs }

/-- A barrier arrival that stands (R201): its instance has completed when no barrier of the module still holds it. -/
def standing (s : State) (ctxid : BitVec 32) (a : Arrival) : Arrival :=
  { a with done := a.done || !s.barriers.any fun b => b.named a.scope a.inst a.id && b.arrived.contains ctxid }

/-- The context that a restore binds (R325): from its frame, seated in the slot. -/
def restoreHart (s : State) (n : Nat) (x : Slot) : Hart :=
  let kept := keptHart s (BitVec.ofNat 32 (frameDword s x 0x18))
  let h := hartOfFrame s.memory (framePlace s x.frame.toNat) (seat s n x kept)
  linkResume { h with run := if kept.run = .saving true then .halted else .running, arrival := h.arrival.map (standing s h.ctxid) }

/-- The engines of a restored context take up what its frame says is running. -/
def restartEngines (s : State) (h : Hart) : State :=
  let s := (List.range 4).foldl (fun s c =>
    if (vget h.chan c {}).st = .running then schedule s (.copyComplete h.slot c) else s) s
  match h.rop with
  | some r => if r.st = .running then schedule s (.routingOperationEnd h.slot) else s
  | none => s

/-- The matrix state of a frame that holds a claim (R325). -/
def restoreArray (s : State) (x : Slot) (h : Hart) : State :=
  if (frameHead s x).testBit 32 then
    onCore s h.coreNo (restoreMatrix (frameDword s x) s.memory (framePlace s x.frame.toNat) (asidOf h.ptroot) h.idx)
  else s

/-- A pending swap resumes as TRAPRET does from bank depth, without changing the depth (R325, R326). -/
def resumeSwap (s : State) (x : Slot) (n : Nat) : State :=
  if (frameHead s x).testBit 35 then onSlot s n fun s => resumeBank s s.hart.depth else s

/-- A restored context whose packet was late while it was saved takes the LATE trap (R348); its die's near cache holds nothing of what another die's
alias fence has removed (R70). -/
def wakeRestored (s : State) (h : Hart) : State :=
  onDie (if h.lateDue then schedule s (.late h.slot) else s) h.dieNo fun d => { d with near := [] }

/-- RESTORE (R325, R340). -/
def execRestore (die slot : Nat) (s : State) : Result :=
  if 23 < die ∨ 511 < slot then .next s
  else
    let n := slotOf die slot
    let x := slotAt s n
    let r := restoreResult s n x
    let s := setResult s n r
    if r ≠ 0 then .next s
    else
      let h := restoreHart s n x
      let s := restartEngines (placeHart { s with saved := s.saved.filter fun y => y.ctxid != h.ctxid } h) h
      let s := wakeRestored (restoreArray s x h) h
      .next (resumeSwap (markSlots s n x.psize 2 1) x n)

/-- A hart being saved: it fetches no more (R324), and its frame is the one that the record names when the command is written (R340). -/
def stopFetch (frame : Word) (h : Hart) : Hart := { h with run := .saving (h.run == .halted), frame }

/-- PRE_EMPT (R324, R340). No field of the record is checked for a pre-empt: result 6 is for the fields that a bind uses (DESIGN CHOICE,
log 110). -/
def execPreEmpt (die slot : Nat) (s : State) : Result :=
  if 23 < die ∨ 511 < slot then .next s
  else
    let n := slotOf die slot
    if (slotAt s n).st ≠ 2 ∨ (hartAt s n).isNone then .next (setResult s n 7)
    else
      let s := onSlotEntry (setResult s n 0) n fun x => { x with st := 3 }
      .next (schedule (onSlot s n fun s => withHart s (stopFetch (slotAt s n).frame)) (.contextSaved die slot))

/-- Whether a save waits for something: in-flight instructions, then the engines of the context (R324), then the note of an eviction that is served late
(R348). -/
def saveTurn (die slot : Nat) (s : State) : State :=
  match s.hart.run with
  | .saving _ =>
    if s.hart.held.isSome then schedule (strike s) (.contextSaved die slot)
    else if !s.hart.inflight.isEmpty && !linkWaits s then schedule (commitHead s) (.contextSaved die slot)
    else if s.hart.request.isSome || s.agenda.contains (.late s.hart.slot) || !enginesQuiet s then schedule s (.contextSaved die slot)
    else
      let t := evict s fun _ => true
      if t.agenda.contains (.late s.hart.slot) then schedule t (.contextSaved die slot) else saveContext (withHart s linkPc)
  | _ => s

/-- CONTEXT_SAVED (R324, R340): the save engine finishes a save, or goes on with what it waits for. -/
def execContextSaved (die slot : Nat) (s : State) : Result := .next (onSlot s (slotOf die slot) (saveTurn die slot))

end Sys2Proof.Machine
end

