-- ==== Sys2Proof/Machine/Packets.lean ====
section
/-!
DEFINITION. Request packets at die egress ports, homes and switches (R346, R347, R351, R357 to R360, R374), moves of pages (R372, R373),
hotness counts (R317), writes of memory from outside the cores.
-/

namespace Sys2Proof.Machine

/-! Service (R346, R347). -/

/-- The queued packet of a place that is served next: the earliest stamp, then arrival order (R347). -/
def nextPacket (place : Nat) : List Packet → Option Packet
  | [] => none
  | p :: ps =>
    match nextPacket place ps with
    | none => if p.place = place then some p else none
    | some q => if p.place = place ∧ !stampBefore q.stamp p.stamp then some p else some q

/-- The slack of a stamp as the fabric die sends it with a packet that leaves the module, and the stamp that a module which receives the packet
makes of a slack (R346). -/
def slackOf (s : State) (stamp : Nat) : Int := signed 32 (stamp + 2 ^ 32 - stampAt s.time)

def stampFrom (s : State) (slack : Int) : Nat := ((slack + stampAt s.time) % 2 ^ 32).toNat

/-- Whether a packet was sent by this module. -/
def Packet.ours (s : State) (p : Packet) : Bool := p.id / 2 ^ 27 == ownModule s

/-- Counter 4 of a saved context raised, in its frame (R266, R320, R348). -/
def countSaved (s : State) (h : Hart) : State :=
  let a := h.frame.toNat + 0x1E0
  homeWrite s a (leBytes 8 (homeRead s a 8 + 1))

/-- A late packet of a saved context: its frame counts it, and the first one with LATE enabled is kept for the trap that follows its restore. -/
def lateSaved (s : State) (h : Hart) : State :=
  countSaved { s with saved := s.saved.map fun x => if x.ctxid = h.ctxid then { x with lateDue := x.lateEn } else x } h

/-- A packet of this module served after a deadline of its context (R348): its hart notes it, or a context that is saved. -/
def noteLate (s : State) (p : Packet) : State :=
  if p.ours s && p.fromDeadline && stampBefore p.stamp (stampAt s.time) then
    match (boundHarts s).find? fun h => h.ctxid == p.ctxid with
    | some h => schedule s (.late h.slot)
    | none =>
      match s.saved.find? fun h => h.ctxid == p.ctxid with
      | some h => lateSaved s h
      | none => s
  else s

/-- A packet after a service: it is late at most once. -/
def afterService (s : State) (p : Packet) : Packet :=
  { p with fromDeadline := p.fromDeadline && !stampBefore p.stamp (stampAt s.time) }

/-- Home slices are places 0 to 383, switch outputs 384 to 511, egress ports 512 to 1,023, other modules from 1,024 on. -/
def isHome (place : Nat) : Bool := decide (place < 384)

def isSwitch (place : Nat) : Bool := decide (384 ≤ place) && decide (place < 512)

def isFabric (place : Nat) : Bool := decide (1024 ≤ place)

/-- Whether a request changes its home. -/
def PacketKind.writes : PacketKind → Bool
  | .read _ => false
  | _ => true

/-- Bytes that a request reads at its home. -/
def PacketKind.reads : PacketKind → Nat
  | .read n => n
  | .atomic _ w _ _ => w
  | _ => 0

/-- Whether a request is an add that a switch may combine (R357). -/
def PacketKind.adds : PacketKind → Bool
  | .atomic op _ _ _ => op == 1 || op == 11
  | _ => false

/-- A packet without its queue. -/
def takeOut (s : State) (p : Packet) : State := { s with packets := s.packets.erase p }

/-! Replies and failures (R358 to R361). -/

/-- The hart that awaits a request. -/
def requester (s : State) (id : Nat) : Option Hart := (boundHarts s).find? fun h => h.request.any fun r => r.id == id

/-- An act on the hart that awaits a request. -/
def onRequester (s : State) (id : Nat) (f : Awaiting → State → State) : Option State :=
  (requester s id).map fun h => onSlot s h.slot fun s => s.hart.request.elim s fun r => f r s

/-- The hart that has sent a request for an element of a vector atomic, and an act on that request. -/
def elemRequester (s : State) (id : Nat) : Option Hart := (boundHarts s).find? fun h => h.elems.any fun r => r.id == id

def onElem (s : State) (id : Nat) (f : ElemRequest → ElemRequest) : Option State :=
  (elemRequester s id).map fun h => onSlot s h.slot fun s => withHart s fun h => { h with elems := h.elems.map fun r => if r.id = id then f r else r }

/-- The bytes that a reply carries. -/
def PacketKind.replyData : PacketKind → Nat
  | .read n => n
  | .write _ => 0
  | .atomic op n _ _ => if atomicReturns op then n else 0
  | .parcel _ _ _ _ _ => 0

/-- What became of a request of another module goes back to it: its flits leave (R365), and its slack stands for the stamp of the request (R346). -/
def answerOther (s : State) (p : Packet) (sub old : Nat) (again : Option Nat) : State :=
  sent { s with answers := tset s.answers p.id ⟨sub, old, again, slackOf s p.stamp⟩ } (p.id / 2 ^ 27 * 2 ^ 44)
    (if sub = 0 ∧ again.isNone then p.kind.replyData else 0)

/-- The reply to a request with the old value: it goes to the parts of a combined request, to the hart that awaits it, or to another module; one
that nothing awaits any more is discarded (R358, R359). -/
def deliverReply (s : State) (p : Packet) (old : Nat) : State :=
  match s.combines.find? fun c => c.sent == some p.id with
  | some c => schedule s (.combinedReply c.slot old)
  | none =>
    if p.told then s
    else if !p.ours s then answerOther s p 0 old none
    else
      match onRequester s p.id fun r => atomicReplied r old with
      | some t => t
      | none => (onElem s p.id fun r => { r with old := some old }).getD s

/-- A failed write or atomic in the error queue (R360): one that returns a value is reported by its trap alone. -/
def errorOf (s : State) (p : Packet) (f : AccFault) : State :=
  match p.kind with
  | .write bs => errorEntry s p.ctxid 1 f.cause f.sub bs.length p.va (paModule p.addr) p.pc.toNat
  | .atomic op w _ _ => if atomicReturns op then s else errorEntry s p.ctxid 2 f.cause f.sub w p.va (paModule p.addr) p.pc.toNat
  | _ => s

/-- The report of a failed request, made once (R359 to R361): a hart that awaits it learns it at its access; a write or an atomic without return
enters the error queue with the virtual address and the PC of the instruction; a parcel is RETURNED; another module gets the failure as its reply. -/
def reportFailure (s : State) (p : Packet) (f : AccFault) : State :=
  if p.told then s
  else if !p.ours s then answerOther s p f.sub 0 none
  else
    match onRequester s p.id fun r => atomicFailed r f with
    | some t => t
    | none =>
      match p.kind with
      | .parcel handle _ _ _ _ =>
        match transitOf s handle with
        | some t => returnParcel s t f.sub
        | none => s
      | _ => errorOf ((onElem s p.id fun r => { r with fail := some (f.cause, f.sub) }).getD s) p f

/-- What befalls a request befalls every part of a combined one (R358); `n` bounds how deep requests have combined. -/
def forParts (act : State → Packet → State) : Nat → State → Packet → State
  | 0, s, p => act s p
  | n + 1, s, p =>
    match s.combines.find? fun c => c.sent == some p.id with
    | some c => c.parts.foldl (forParts act n) { s with combines := s.combines.filter fun x => x.slot != c.slot }
    | none => act s p

/-- A failure of a request, and of one that stands in a queue. -/
def failRequest (s : State) (p : Packet) (f : AccFault) : State := forParts (fun s q => reportFailure s q f) (s.combines.length + 1) s p

def failPacket (s : State) (p : Packet) (f : AccFault) : State := failRequest (takeOut s p) p f

/-- A failure of the fabric or of a home with a sub-cause (R301). -/
def remoteFault (sub : Nat) : AccFault := { cause := 11, sub, data := true }

/-! Acts at homes (R63, R282 to R284, R374). -/

/-- Whether an address lies in a parcel that is sealed or in transit at its module (R283). -/
def inTransit (s : State) (pa : Nat) : Bool := remoteTransit s pa || ownTransit s pa

/-- A parcel of another module that this one receives: kept unconfirmed in memory of the pool, with every byte, and confirmed to its sender (R282, R284,
R285). -/
def receiveParcel (s : State) (p : Packet) (handle queue size : Nat) (image : Memory) : State :=
  match refusal s queue size, poolFree s (65536 * size) with
  | none, some a =>
    let n := 65536 * size
    answerOther (dropNearPA { s with
      memory := mreplace s.memory (localPA s a) n image, incoming := s.incoming ++ [⟨handle, queue, a, size⟩]
      pool := (a, n) :: s.pool } (localPA s a) n) p 0 0 none
  | some sub, _ => answerOther s p sub 0 none
  | none, none => answerOther s p 8 0 none

/-- The lines at which the write of another module, a publication, waits for a second shadow version (R61). -/
def stalledLines (s : State) (p : Packet) : List Nat :=
  match p.kind with
  | .write bs => if isHome p.place then (linesAt s p.addr bs.length).filter (shadowBlocks s) else []
  | _ => []

/-- What a request does to its home, and the value that its reply carries. A write publishes its lines (R60). -/
def homeAct (s : State) (p : Packet) : State × Nat :=
  match p.kind with
  | .read n => (s, homeRead s p.addr n)
  | .write bs => (outsideWrite (stampLines s (linesAt s p.addr bs.length)) p.addr bs, 0)
  | .atomic op n v cmp =>
    let old := homeRead s p.addr n
    ({ outsideWrite s p.addr (leBytes n (atomicNew op n old v cmp)) with replies := tset s.replies p.id ⟨homeAddr s p.addr, old⟩ }, old)
  | .parcel _ _ _ _ _ => (s, 0)

/-- A request served by its home (R63, R374): an atomic whose reply is kept is answered with it and does not act again; the register window takes
no request of another module (R301, R332). -/
def actAtHome (s : State) (p : Packet) : State :=
  match p.kind, tfind s.replies p.id with
  | .parcel handle queue size _ image, _ => receiveParcel s p handle queue size image
  | .atomic _ _ _ _, some r => deliverReply s p r.old
  | k, _ =>
    if inRegisters p.addr then failRequest s p (remoteFault 5)
    else if inTransit s p.addr then failRequest s p (remoteFault 2)
    else if uncorrectable s p.addr k.reads then failRequest (lastingError s p.addr k.reads) p (badData s p.addr)
    else
      let r := homeAct s p
      deliverReply r.1 p r.2

/-! Ways (R355, R356, R362 to R366). -/

/-- The queue that a request goes to from an egress port, or from the fabric: its home slice here, or the output of a port. -/
def wayOf (s : State) (p : Packet) : Nat := if paModule p.addr = ownModule s then homeSlice p.addr else 384 + p.port

/-- A request of this module issued again, to where its address is now, by the path that stands open to it (R373, R374). -/
def reissue (s : State) (p : Packet) : State :=
  let a := homeAddr s p.addr
  let f := flitsOf p.kind.data
  if paModule a = ownModule s then enqueue s { p with addr := a, place := homeSlice a }
  else
    match unreachableFor s a f, pathTo s (paModule a) f with
    | none, some w => enqueue s { p with addr := a, port := w.port, hops := w.hops, place := 384 + w.port }
    | sub, _ => failRequest s p (remoteFault (sub.getD 3))

/-- A refusal of a request that has not acted, with the address where it is to be issued again (R373): every part of a combined one gets it (R358). Its
source issues it again, this module its own and another module when it has the refusal (R374). -/
def refuse (s : State) (p : Packet) (again : Nat) : State :=
  forParts (fun s q => if q.told then s else if q.ours s then reissue s q else answerOther s q 0 0 (some again)) (s.combines.length + 1) s p

/-- The place in the fabric where a packet for a module arrives: a module of its path that is not there holds it for good (R355). -/
def arrivalPlace (s : State) (p : Packet) : Nat := 1024 + (p.hops.find? fun m => s.lost.getLsbD m).getD (paModule p.addr)

/-- Whether a packet can leave its switch output: its port has room in its replay buffer (R364). -/
def canLeave (s : State) (p : Packet) : Bool := paModule p.addr == ownModule s || portTakes s p.port (flitsOf p.kind.data)

/-- Whether the counter of its port is spent (R366). -/
def counterSpent (s : State) (p : Packet) : Bool :=
  paModule p.addr != ownModule s && (countFlits (portOf s p.port) (flitsOf p.kind.data)).isNone

/-- A packet leaves by the port of its switch output, with the slack of its stamp; the module that it comes to turns the slack back into a stamp
(R346, R364), on a clock that the model takes to be this module's (log 98). -/
def leave (s : State) (p : Packet) : State :=
  if paModule p.addr = ownModule s then enqueue s { p with place := homeSlice p.addr }
  else enqueue (sendFlits s p.port (flitsOf p.kind.data)) { p with stamp := stampFrom s (slackOf s p.stamp), place := arrivalPlace s p }

/-! Combining (R357, R358). -/

/-- The combining slot that an add joins at a switch output, if one is held there (R357). -/
def openSlot (s : State) (p : Packet) (n : Nat) : Option Combine :=
  s.combines.find? fun c => c.slot / 256 == p.place && c.addr == p.addr && c.width == n && c.sent.isNone

/-- A free slot of the wait buffer of a switch output, 256 entries (R357). -/
def freeSlotAt (s : State) (place : Nat) : Option Nat :=
  firstIndex (fun i => s.combines.all fun c => c.slot != 256 * place + i) 256 0

/-- Parts that wait in the buffer of an output. -/
def waitEntries (s : State) (place : Nat) : Nat :=
  ((s.combines.filter fun c => c.slot / 256 == place).map fun c => c.parts.length).foldl (· + ·) 0

/-- The earlier of two stamps. -/
def earlierStamp (a b : Nat) : Nat := if stampBefore a b then a else b

/-- Whether a packet at a switch output is an add that joins a held request or is held itself: the wait buffer has room, and it is not what this
output has combined (R357). -/
def combines (s : State) (p : Packet) : Bool :=
  p.kind.adds && decide (waitEntries s p.place < 256) && !(s.combines.any fun c => c.sent == some p.id && c.slot / 256 == p.place) &&
    ((openSlot s p p.kind.data).isSome || (freeSlotAt s p.place).isSome)

/-- An add that joins a held request, or is held itself (R357). -/
def combineAdd (s : State) (p : Packet) (n : Nat) : State :=
  match openSlot s p n with
  | some c =>
    let c' := { c with parts := c.parts ++ [p], stamp := earlierStamp c.stamp p.stamp }
    { s with combines := s.combines.map fun x => if x.slot = c.slot then c' else x }
  | none =>
    match freeSlotAt s p.place with
    | none => s
    | some i =>
      schedule { s with combines := s.combines ++ [⟨256 * p.place + i, p.addr, n, [p], p.stamp, none⟩] } (.combineHoldExpiry (256 * p.place + i))

/-- The value of a part, and the sum that a combined request carries (R357). -/
def PacketKind.value : PacketKind → Nat
  | .atomic _ _ v _ => v
  | _ => 0

def Combine.sum (c : Combine) : Nat := (c.parts.map fun p => p.kind.value).foldl (· + ·) 0 % 2 ^ (8 * c.width)

/-- The request that stands for the parts of a slot: their sum, the earliest stamp, a fresh id, the path of the first part (R357). -/
def Combine.request (s : State) (c : Combine) : Packet :=
  let port := c.slot / 256 - 384
  { id := freshId s port, place := c.slot / 256, port, hops := (c.parts.head?.map Packet.hops).getD [], kind := .atomic 1 c.width c.sum 0
    addr := c.addr, stamp := c.stamp, va := 0, pc := 0, ctxid := 0, fromDeadline := false }

/-- COMBINE_HOLD_EXPIRY (R357): the held requests stand at the output as one, in the place of the first of them. -/
def execCombineHoldExpiry (slot : Nat) (s : State) : Result :=
  match s.combines.find? fun c => c.slot == slot && c.sent.isNone with
  | none => .next s
  | some c =>
    let p := c.request s
    .next (schedule { s with
      nextSeq := s.nextSeq + 1, packets := p :: s.packets
      combines := s.combines.map fun x => if x.slot = slot then { x with sent := some p.id } else x } (.packetService p.place))

/-- The replies of the parts of a combined request (R358): the old value plus the values of the parts before. -/
def partReplies (width : Nat) : Nat → List Packet → List (Packet × Nat)
  | _, [] => []
  | o, p :: ps => (p, o) :: partReplies width ((o + p.kind.value) % 2 ^ (8 * width)) ps

/-- COMBINED_REPLY (R358). -/
def execCombinedReply (slot old : Nat) (s : State) : Result :=
  match s.combines.find? fun c => c.slot == slot && c.sent.isSome with
  | none => .next s
  | some c =>
    .next ((partReplies c.width (old % 2 ^ (8 * c.width)) c.parts).foldl (fun s r => deliverReply s r.1 r.2)
      { s with combines := s.combines.filter fun x => x.slot != slot })

/-! The service of a place. -/

/-- A packet served by its home here: one for a page that moves is refused with retry-moving, one for a page that has moved with its new address
(R373). -/
def serveHome (s : State) (p : Packet) : State :=
  if p.kind.writes && moving s p.addr then refuse (takeOut s p) p p.addr
  else if homeAddr s p.addr ≠ p.addr then refuse (takeOut s p) p (homeAddr s p.addr)
  else actAtHome (noteLate (takeOut s p) p) p

/-- Everything that waits at a switch output fails (R366): the packets, and the parts that are held there. -/
def failOutput (s : State) (place : Nat) : State :=
  let held := (s.combines.filter fun c => c.slot / 256 == place && c.sent.isNone).flatMap Combine.parts
  let waiting := s.packets.filter fun x => x.place == place
  (held ++ waiting).foldl (fun s x => failPacket s x (remoteFault 3))
    { s with combines := s.combines.filter fun c => !(c.slot / 256 == place && c.sent.isNone) }

/-- A packet served by a switch output: that of a stopped port fails everything that waits there, and a spent counter stops the port (R366). A packet
that its port has no room for stays first in its queue (R347). -/
def serveSwitch (s : State) (p : Packet) : State :=
  if (portOf s (p.place - 384)).state = 4 then failOutput s p.place
  else if combines s p then combineAdd (noteLate (takeOut s p) p) (afterService s p) p.kind.data
  else if counterSpent s p then haltPort s p.port 3
  else if canLeave s p then leave (noteLate (takeOut s p) p) (afterService s p)
  else s

/-- A packet on the fabric: held where a module of its path is not there, else served by its home. -/
def serveFabric (s : State) (p : Packet) : State :=
  if s.lost.getLsbD (p.place - 1024) then s
  else if p.place ≠ 1024 + paModule p.addr then enqueue (takeOut s p) { p with place := 1024 + paModule p.addr }
  else actAtHome (noteLate (takeOut s p) p) p

/-- The service of a packet at its place. -/
def servePlace (s : State) (p : Packet) : State :=
  if isHome p.place then serveHome s p
  else if isSwitch p.place then serveSwitch s p
  else if isFabric p.place then serveFabric s p
  else enqueue (takeOut s p) { p with place := wayOf s p }

/-- PACKET_SERVICE (R347). A publication that stalls at the home for a second shadow version has not been accepted, and others go on past it (R61,
R351). -/
def execPacketService (place : Nat) (s : State) : Result :=
  match nextPacket place (s.packets.filter fun p => (stalledLines s p).isEmpty) with
  | some p => .next (servePlace s p)
  | none =>
    match nextPacket place s.packets with
    | some p => .next (schedule (waitAt s (stalledLines s p)) (.packetService place))
    | none => .next s

/-- The place of a request that has left for a home. -/
def hasLeft (place : Nat) : Bool := isHome place || isFabric place

/-- MOVED_REFUSAL (R374): the source issues a refused request again, at the new home of its page. -/
def execMovedRefusal (id : Nat) (s : State) : Result :=
  match s.packets.find? fun p => p.id == id && hasLeft p.place && p.ours s with
  | none => .next s
  | some p => .next (refuse (takeOut s p) p (homeAddr s p.addr))

/-- A request of this module that has left and loses its path before a reply is sent on another path (R374). -/
def losePath (s : State) (id : Nat) : State :=
  match s.packets.find? fun p => p.id == id && isFabric p.place && p.ours s with
  | none => s
  | some p => reissue (takeOut s p) p

/-- REPLY_CACHE_EXPIRY (R374). -/
def execReplyCacheExpiry (id : Nat) (s : State) : Result := .next { s with replies := tdel s.replies id }

/-- PACKAGE_DEADLINE (R351): an accepted on-package request that has not completed fails. -/
def execPackageDeadline (id : Nat) (s : State) : Result :=
  match s.packets.find? fun p => p.id == id && isHome p.place with
  | some p => .next (failPacket s p (remoteFault 1))
  | none => .next s

/-- A write or an atomic that is given up may act at its home all the same (R359). -/
def lateAct (s : State) (p : Packet) : State :=
  match delayOf s p.addr with
  | some d => if d.acts && p.kind.writes then (homeAct s p).1 else s
  | none => s

/-- A part of a combined request that has been reported (R359). -/
def markTold (s : State) (id : Nat) : State :=
  { s with combines := s.combines.map fun c => { c with parts := c.parts.map fun p => if p.id = id then { p with told := true } else p } }

/-- FABRIC_DEADLINE (R359): a request that has left the module, alone or as a part of a combined one, and has no reply fails; a reply that comes
later finds nothing that awaits it. -/
def execFabricDeadline (id : Nat) (s : State) : Result :=
  match s.packets.find? fun p => p.id == id && isFabric p.place with
  | some p => .next (failPacket (lateAct s p) p (remoteFault 1))
  | none =>
    match ((s.combines.filter fun c => c.sent.isSome).flatMap Combine.parts).find? fun p => p.id == id with
    | some p => .next (reportFailure (markTold s id) p (remoteFault 1))
    | none => .next s

/-- The module that a request in transit goes to next: the next one of its path (R355); a request that names none takes the minimal path. -/
def Packet.next (s : State) (p : Packet) : Nat := p.hops.headD (nextHop (ownModule s) (paModule p.addr))

/-- A request that the fabric hands over (R346): its slack becomes a stamp; it goes to its home here, or on along its path, by the ports that join
neighbours and by no free port (R353). -/
def receiveRequest (s : State) (p : Packet) : State :=
  let p := { p with stamp := stampFrom s (signed 32 p.stamp), told := false }
  if paModule p.addr = ownModule s then enqueue s { p with place := homeSlice p.addr }
  else
    match leastLoaded s (portsTo s (p.next s)) with
    | some port => enqueue s { p with port, place := 384 + port }
    | none => failRequest s p (remoteFault 3)

/-! Moves of pages (R372, R373). -/

/-- Status of a move slot set, and the move-ended event (R367, R373). -/
def endMove (s : State) (slot : Nat) (m : Move) (st : Nat) : State :=
  emitModule { s with moves := tset s.moves slot { m with status := st } } 13 (toWord slot) (toWord st)

/-- Whether a frame lies in the parcel pool (R282, R372). -/
def inPool (s : State) (frame : Nat) : Bool :=
  decide (s.regs.ppool.toNat ≤ frame * 65536) && decide (frame * 65536 < s.regs.ppool.toNat + s.regs.ppoolsz.toNat)

/-- Whether another slot is moving a frame. -/
def movedElsewhere (s : State) (slot frame : Nat) : Bool := s.moves.any fun p => p.1 != slot && p.2.status == 1 && p.2.source == frame

/-- A local frame of this module as a frame of the fabric. -/
def fabricFrame (s : State) (frame : Nat) : Nat := localPA s (frame * 65536) / 65536

/-- The layout tag of a frame of the fabric (R315). -/
def frameTag (s : State) (frame : Nat) : Bool :=
  let fatb := (tablesOf s (paModule (frame * 65536))).fatb
  fatb != 0 && (mget s.memory (fatb.toNat + frame % 2 ^ 28 / 8)).getLsbD (frame % 8)

/-- How often the page in a frame has moved in the last 1 ms, from whichever module (R373). -/
def recentMoves (s : State) (frame : Nat) : Nat :=
  (s.moved.filter fun p => p.1 == fabricFrame s frame && decide ((s.time - p.2).toNat < 1000000)).length

/-- The bound of R373: the frame is pinned for 64 ms. -/
def pinFrame (s : State) (frame : Nat) : State :=
  let until_ := s.time + 64000000
  let s := withRegs { s with pins := tset s.pins frame until_ } fun r => { r with fpincnt := r.fpincnt + 1 }
  schedule (emitModule s 12 (toWord (frame * 65536)) until_) (.pinExpiry frame)

/-- MOVE (R372, R373): the move starts with the values as they stand, or ends pinned or failed. A slot that is moving or forwarding takes the
field and goes on with what it does. -/
def execMove (slot frame : Nat) (s : State) : Result :=
  let m : Move := { tget s.moves slot {} with old := frame }
  if 15 < slot then .next s
  else if m.status = 1 ∨ m.status = 2 then .next { s with moves := tset s.moves slot m }
  else if inPool s frame || movedElsewhere s slot frame || frameTag s (fabricFrame s frame) != frameTag s m.new then .next (endMove s slot m 4)
  else if s.pins.any fun p => p.1 == frame then .next (endMove s slot m 3)
  else if 2 ≤ recentMoves s frame then .next (pinFrame (endMove s slot m 3) frame)
  else .next (schedule { s with moves := tset s.moves slot { m with status := 1, source := frame, target := m.new } } (.moveEnded slot))

/-- A physical address, or a home line, of a page at its new home. -/
def repage (old new pa : Nat) : Nat := if pa / 65536 = old then new * 65536 + pa % 65536 else pa

def reline (old new l : Nat) : Nat := if l / 512 = old then new * 512 + l % 512 else l

/-- A hart's writes to a page, whose writer the home has recorded (R324), at its new home. -/
def rehome (old new : Nat) (h : Hart) : Hart :=
  { h with
    own := h.own.map fun p => (p.1, { p.2 with pa := repage old new p.2.pa })
    joins := h.joins.map fun j => { j with pa := repage old new j.pa }
    request := h.request.map fun r => { r with pa := repage old new r.pa } }

/-- The line addresses of spilled versions, in the spill area (R328). -/
def respill (s : State) (old new : Nat) (m : Memory) : Memory :=
  s.spill.foldl (fun m i => mputN m (spillAddr s i + 144) 8 (128 * reline old new (mgetN m (spillAddr s i + 144) 8 / 128))) m

/-- The versions, stamps, writers and replies of a page at its new home, and the way there from its old frame and from those it stood in before
(R373). -/
def relocate (s : State) (old new : Nat) : State :=
  let s := onNear s fun t => t.map fun c => (c.1, { c.2 with pa := repage old new c.2.pa })
  { s with
    hart := rehome old new s.hart, others := s.others.map (rehome old new), saved := s.saved.map (rehome old new)
    linePubs := s.linePubs.map fun p => (reline old new p.1, p.2)
    shadows := s.shadows.map fun x => { x with line := reline old new x.line }
    replies := s.replies.map fun p => (p.1, { p.2 with addr := repage old new p.2.addr })
    moved := s.moved.map fun p => (if p.1 = old then new else p.1, p.2)
    posts := s.posts.map fun p => (repage old new p.1, p.2)
    forwards := tset ((tdel s.forwards new).map fun p => (p.1, if p.2 = old then new else p.2)) old new }

/-- A page of this module at its new home, with its bytes; they leave in packets where that is another module (R365, R373). -/
def carryPage (s : State) (old new : Nat) : State :=
  let s := relocate s old new
  sent { s with memory := respill s old new (mreplace s.memory (new * 65536) 65536 (mslice s.memory (old * 65536) 65536)) } (new * 65536) 65536

/-- MOVE_ENDED (R373): the new home takes over, the old frame forwards. -/
def execMoveEnded (slot : Nat) (s : State) : Result :=
  let m := tget s.moves slot {}
  if m.status ≠ 1 then .next s
  else
    let old := fabricFrame s m.source
    let s := carryPage s old m.target
    .next (endMove { s with moved := (m.target, s.time) :: s.moved } slot m 2)

/-- MOVE_RELEASE (R373): the old frame becomes free memory. -/
def execMoveRelease (slot : Nat) (s : State) : Result :=
  let m := tget s.moves slot {}
  if m.status ≠ 2 then .next s
  else .next { s with forwards := tdel s.forwards (fabricFrame s m.source), moves := tset s.moves slot { m with status := 0 } }

/-- PIN_EXPIRY (R373): the pin of a frame ends once its 64 ms have passed. -/
def execPinExpiry (frame : Nat) (s : State) : Result :=
  match s.pins.find? fun p => p.1 == frame with
  | none => .next s
  | some p =>
    if (s.time - p.2).toNat < 2 ^ 63 then .next { s with pins := tdel s.pins frame } else .next (schedule s (.pinExpiry frame))

/-- A page that another module has moved to a frame of this one: its bytes, the times of its moves, the replies kept for it; what this module holds
of it goes to its new home, and requests for the old frame follow it (R72, R373, R374). -/
def receivePage (s : State) (old frame : Nat) (bytes : Memory) (times : List Word) (replies : Table Reply) : State :=
  let f := fabricFrame s frame
  let s := relocate { s with moved := s.moved.filter fun p => p.1 != f && p.1 != old } old f
  dropNearPA { s with
    memory := mreplace s.memory (f * 65536) 65536 bytes
    moved := times.map (fun t => (f, t)) ++ s.moved
    replies := replies.foldl (fun t r => tset t r.1 r.2) s.replies } (f * 65536) 65536

/-- The frame that a page was moved from has been released by its module (R373): its address is ordinary memory again. -/
def frameReleased (s : State) (frame : Nat) : State := { s with forwards := tdel s.forwards frame }

/-! Hotness (R317). -/

/-- One counter of the hotness table raised, held at 2^32 - 1. -/
def addHotness (m : Memory) (a n : Nat) : Memory := mputN m a 4 (min (2 ^ 32 - 1) (mgetN m a 4 + n))

/-- The counts of one frame and kind added to the hotness table of its module; one from another module counts there too. A table address of 0
names none (log 13). -/
def flushCount (s : State) (m : Memory) (k n : Nat) : Memory :=
  let home := k / 4 / 2 ^ 28 % 4096
  let hotb := (tablesOf s home).hotb
  let a := home * 2 ^ 44 + (hotb.toNat + 16 * (k / 4 % 2 ^ 28)) % 2 ^ 44
  if hotb = 0 then m
  else if home = ownModule s then addHotness m (a + 4 * (k % 4)) n
  else addHotness (addHotness m (a + 4 * (k % 4)) n) (a + 12) n

/-- HOTNESS_FLUSH (R317): a core adds its counts to the tables. -/
def execHotnessFlush (core : Nat) (s : State) : Result :=
  .next (onCore { s with memory := (coreAt s core).hot.foldl (fun m p => flushCount s m p.1 p.2) s.memory } core fun c => { c with hot := [] })

/-- HOST_WRITE (R334): bytes of local memory written from outside the cores. The module registers are not memory (R332). -/
def execHostWrite (addr len v : Nat) (s : State) : Result :=
  if inRegisters addr then .next s
  else .next (dropVersions (outsideWrite s (localPA s addr) (leBytes len v)) (homeAddr s (localPA s addr)) len)

end Sys2Proof.Machine
end

