-- ==== Sys2Proof/Machine/Ports.lean ====
section
/-!
DEFINITION. Fabric ports and lasers (R352 to R354, R362 to R371): flits and replay, keys, lane maps, dark wavelengths, retraining,
bring-up.
-/

namespace Sys2Proof.Machine

/-- A port stops (R366): what waits at its output fails with sub-cause 3. -/
def stopPort (s : State) (p sub : Nat) : State := failOutput (haltPort s p sub) (384 + p)

/-- A port with too few lanes stops (R366). -/
def checkLanes (s : State) (p : Nat) : State :=
  if (portOf s p).state = 3 ∧ activeLanes (portOf s p) < 8 then stopPort s p 3 else s

/-! Flits and replay (R362 to R364). -/

/-- Whether sequence `a` has been acknowledged by a cumulative acknowledgement `k`, in 12 bits. -/
def ackedBy (a k : Nat) : Bool := decide ((k + 4096 - a % 4096) % 4096 < 2048)

/-- The receiver's keys after a flit under an index (R365): the first one under a new index installs the pending key and discards the
old. None where no key fits. -/
def takeKey (p : Port) (kidx : Nat) : Option Port :=
  if kidx = p.rxIdx then some p
  else
    match p.rxPend with
    | some k => some { p with rxKey := k, rxIdx := kidx, rxPend := none }
    | none => none

/-- A port after an accepted flit. -/
def acceptFlit (p : Port) (seq ack : Nat) : Port :=
  { p with expect := (seq + 1) % 4096, acked := ack % 4096, replay := p.replay.filter fun f => !ackedBy f.seq ack }

/-- Packets that wait at a port go on, when its replay buffer may have room again or it has come UP. -/
def portAgain (s : State) (port : Nat) : State :=
  if s.packets.any fun p => p.place == 384 + port then schedule s (.packetService (384 + port)) else s

/-- FLIT_RECEIVE (R363): `ok` says that its codewords could be corrected and its tag fits the key of its index. -/
def execFlitReceive (port seq ack kidx ok : Nat) (s : State) : Result :=
  let p := portOf s port
  if p.state ≠ 3 ∨ ok = 0 ∨ seq ≠ p.expect then .next s
  else
    match takeKey p kidx with
    | some p => .next (portAgain (onPort s port fun _ => acceptFlit p seq ack) port)
    | none => .next s

/-- Every unacknowledged flit sent again, oldest first (R364); a flit sent 8 times, or a spent counter, stops the port. -/
def replayPort (s : State) (port : Nat) : State :=
  let p := portOf s port
  if p.replay.any fun f => decide (8 ≤ f.sent) then stopPort s port 3
  else
    match countFlits p p.replay.length with
    | none => stopPort s port 3
    | some p => onPort s port fun _ => { p with replay := p.replay.map fun f => { f with sent := f.sent + 1 } }

/-- REPLAY_TIMEOUT (R364). -/
def execReplayTimeout (port : Nat) (s : State) : Result :=
  if (portOf s port).state ≠ 3 then .next s else .next (replayPort s port)

/-! Keys (R365, R366). -/

/-- The sender's side of a rekey: the pending key takes effect with counter 0. -/
def flipKey (p : Port) : Port :=
  match p.txPend with
  | some k => { p with txKey := k, txPend := none, keyIdx := 1 - p.keyIdx % 2, txctr := 0 }
  | none => p

/-- REKEY (R365). -/
def execRekey (port : Nat) (s : State) : Result := if 127 < port then .next s else .next (onPort s port flipKey)

/-- TXKEY and RXKEY (R365, R367). -/
def execTxkey (port key : Nat) (s : State) : Result :=
  if 127 < port then .next s else .next (onPort s port fun p => { p with txPend := some (key % 2 ^ 256) })

def execRxkey (port key : Nat) (s : State) : Result :=
  if 127 < port then .next s else .next (onPort s port fun p => { p with rxPend := some (key % 2 ^ 256) })

/-! Bring-up (R371). -/

/-- A state below UP written: a stopped port stays stopped while its wavelengths are locked and trained again, since only a write of UP with a
pending key restarts it (R366). -/
def stateBelow (s : State) (port st : Nat) : State :=
  onPort s port fun p => { p with state := if p.state = 4 then 4 else st, upAsked := false }

/-- LINK_LOCK and LINK_TRAIN (R371). -/
def execLinkLock (port : Nat) (s : State) : Result := if 127 < port then .next s else .next (stateBelow s port 1)

def execLinkTrain (port : Nat) (s : State) : Result := if 127 < port then .next s else .next (stateBelow s port 2)

/-- A port UP under the written lane map, which both ends hold. -/
def upPort (p : Port) : Port := { p with state := 3, lanes := p.lmap, rxLanes := p.peerMap, upAsked := false }

/-- A stopped port restarted under new keys, its replay buffer empty (R366). Its sequence numbers start again from 0, of which the rule says nothing
(DESIGN CHOICE, log 111). -/
def restartPort (p : Port) : Port :=
  match p.rxPend with
  | some k => { flipKey (upPort p) with rxKey := k, rxIdx := 1 - p.rxIdx % 2, rxPend := none, replay := [], expect := 0, acked := 0, seq := 0 }
  | none => p

/-- Whether both ends hold the same lane map and at least 8 of its lanes are active (R371). -/
def lanesAgree (p : Port) : Bool := p.peerMap == p.lmap && decide (8 ≤ activeLanes { p with lanes := p.lmap })

/-- A port for which UP has been written becomes UP when both ends agree (R366, R371). -/
def tryUp (s : State) (port : Nat) : State :=
  let p := portOf s port
  if p.upAsked && lanesAgree p then portAgain (onPort s port (if p.state = 4 then restartPort else upPort)) port else s

/-- LOCK_DONE and TRAIN_DONE (R371). -/
def execLockDone (port locked : Nat) (s : State) : Result :=
  let p := portOf s port
  if p.state = 1 ∨ p.state = 4 then .next (tryUp (onPort s port fun p => { p with locked := BitVec.ofNat 18 locked }) port) else .next s

def execTrainDone (port trained : Nat) (s : State) : Result :=
  let p := portOf s port
  if p.state = 2 ∨ p.state = 4 then .next (tryUp (onPort s port fun p => { p with trained := BitVec.ofNat 18 trained }) port) else .next s

/-- A write of LMAP (R368), with which both ends may hold the same lane map (R371). -/
def writeLanes (s : State) (port : Nat) (m : Word) : State := tryUp (onPort s port fun p => { p with lmap := m }) port

/-- LINK_UP (R366, R371): a write of UP to a stopped port without pending keys is ignored, one to a port that is UP changes nothing. -/
def execLinkUp (port : Nat) (s : State) : Result :=
  let p := portOf s port
  if 127 < port ∨ p.state = 3 ∨ (p.state = 4 ∧ (p.txPend.isNone ∨ p.rxPend.isNone)) then .next s
  else .next (tryUp (onPort s port fun p => { p with upAsked := true }) port)

/-- The other end of a port holds a lane map (R371). -/
def peerLanes (s : State) (port : Nat) (m : Word) : State := tryUp (onPort s port fun p => { p with peerMap := m }) port

/-- FREE_PORT_PEER (R353). -/
def execFreePortPeer (port peer : Nat) (s : State) : Result :=
  if 127 < port then .next s else .next (onPort s port fun p => { p with peer := peer % 4096 })

/-! Lanes (R369, R370). -/

/-- The written lane map takes force at a flit boundary; the port replays when the handover completes (R364, R369). -/
def relaned (s : State) (port : Nat) : State :=
  let t := onPort s port fun p => { p with lanes := p.lmap }
  checkLanes (linkEvent (if (portOf s port).state = 3 then replayPort t port else t) port 7 0) port

/-- RELANE (R369). -/
def execRelane (port : Nat) (s : State) : Result := if 127 < port then .next s else .next (relaned s port)

/-- A lane carried by another wavelength from a flit boundary on, and the same of a lane of the receive direction. -/
def moveLane (p : Port) (w code : Nat) : Port := { p with lmap := setLane p.lmap w code, lanes := setLane p.lanes w code }

def moveRxLane (p : Port) (w code : Nat) : Port := { p with rxLanes := setLane p.rxLanes w code }

/-- The lane that rides wavelength 9·f + λ under a lane map. -/
def laneOf (m : Word) (wl : Nat) : Option Nat := firstIndex (fun w => laneWave m w == some wl) 16 0

def laneOn (p : Port) (wl : Nat) : Option Nat := laneOf p.lanes wl

/-- The lanes of both directions that ride a dark wavelength: 0 to 15 transmit, 16 to 31 receive. -/
def darkLanes (p : Port) : List Nat :=
  (List.range 32).filter fun w =>
    if w < 16 then (laneWave p.lanes w).any fun wl => p.dark.getLsbD wl else (laneWave p.rxLanes (w - 16)).any fun wl => p.rxDark.getLsbD wl

def dropLane (p : Port) (w : Nat) : Port := if w < 16 then moveLane p w 15 else moveRxLane p (w - 16) 15

/-- Both ends drop the dark lanes at one flit boundary: the port replays and sends one event, or stops with fewer than 8 lanes (R366, R369). -/
def restripe (s : State) (port : Nat) : State :=
  let p := portOf s port
  let t := onPort s port fun p => (darkLanes p).foldl dropLane p
  if p.state ≠ 3 ∨ (darkLanes p).isEmpty then t
  else if activeLanes (portOf t port) < 8 then stopPort t port 3
  else
    let u := replayPort t port
    if (portOf u port).state = 3 then linkEvent u port 2 0 else u

/-- The link-control flit of this end: one flit of the sender's counter (R365), which stands in no replay buffer (DESIGN CHOICE, log 114). -/
def controlFlit (s : State) (port : Nat) : State :=
  if (portOf s port).state ≠ 3 then s
  else
    match countFlits (portOf s port) 1 with
    | none => stopPort s port 3
    | some x => onPort s port fun _ => x

/-- LINK_CONTROL_FLIT (R369, R370): the ends name the flit boundary from which a lane, 0 to 15 transmit and 16 to 31 receive, rides a wavelength or
is dropped; lane 32 names every lane whose wavelength is dark. A handover between wavelengths loses and replays no flit. -/
def execLinkControlFlit (port lane wl : Nat) (s : State) : Result :=
  if 127 < port ∨ 32 < lane then .next s
  else
    let s := controlFlit s port
    if lane = 32 then .next (restripe s port)
    else .next (checkLanes (onPort s port fun p => if lane < 16 then moveLane p lane wl else moveRxLane p (lane - 16) wl) port)

/-- A wavelength of a port declared dark, 0 to 17 of its transmit fibres and 18 to 35 of its receive fibres: a link-control flit is due, one for all
that go dark before the flit boundary (R369). -/
def darken (s : State) (port wl : Nat) : State :=
  let s := onPort s port fun p => if wl < 18 then { p with dark := p.dark ||| (1#18 <<< wl) } else { p with rxDark := p.rxDark ||| (1#18 <<< (wl - 18)) }
  if s.agenda.contains (.linkControlFlit port 32 15) then s else schedule s (.linkControlFlit port 32 15)

/-- WAVELENGTH_DARK (R369). -/
def execWavelengthDark (port wl : Nat) (s : State) : Result := if 127 < port ∨ 35 < wl then .next s else .next (darken s port wl)

/-- Whether the spare of a wavelength's fibre can take its lane (R370), for a transmit wavelength 0 to 17 and a receive wavelength 18 to 35. Whether the
spare of a receive fibre is locked and trained stands at the other end: the model takes it to be when it is not dark (DESIGN CHOICE, log 114). -/
def spareFree (p : Port) (wl : Nat) : Bool :=
  let spare := 9 * (wl % 18 / 9) + 8
  if wl < 18 then p.lit spare && (laneOn p spare).isNone else !p.rxDark.getLsbD spare && (laneOf p.rxLanes spare).isNone

/-- The lane that rides a wavelength of either direction, and that lane on another wavelength of its fibre. -/
def rides (p : Port) (wl : Nat) : Option Nat := if wl < 18 then laneOn p wl else laneOf p.rxLanes (wl - 18)

def retune (p : Port) (wl w code : Nat) : Port := if wl < 18 then moveLane p w code else moveRxLane p w code

/-- The retraining of a wavelength that a port holds: its lane and its failed attempts. -/
def Port.retraining (p : Port) (wl : Nat) : Option (Nat × Nat) := (p.retrain.find? fun r => r.1 == wl).map Prod.snd

/-- The list of retrainings without that of a wavelength. -/
def Port.retrained (p : Port) (wl : Nat) : Port := { p with retrain := p.retrain.filter fun r => r.1 != wl }

/-- RETRAIN_WINDOW (R370): a wavelength of either direction with more corrected symbols in its window than RTHR is retrained. -/
def execRetrainWindow (port wl count : Nat) (s : State) : Result :=
  let p := portOf s port
  if p.state ≠ 3 ∨ count ≤ s.regs.rthr.toNat ∨ (p.retraining wl).isSome ∨ 35 < wl then .next s
  else
    match rides p wl with
    | none => .next s
    | some w =>
      let s := onPort s port fun p => { retune p wl w (if spareFree p wl then 8 else 15) with retrain := p.retrain ++ [(wl, w, 0)] }
      .next (checkLanes (linkEvent s port 3 0) port)

/-- RETRAIN_ATTEMPT_END (R370): the lane returns, or after three failed attempts stays where it is. -/
def execRetrainAttemptEnd (port wl ok : Nat) (s : State) : Result :=
  match (portOf s port).retraining wl with
  | none => .next s
  | some (w, n) =>
    if ok ≠ 0 then .next (linkEvent (onPort s port fun p => retune (p.retrained wl) wl w (wl % 9)) port 4 0)
    else if 2 ≤ n then .next (linkEvent (onPort s port fun p => p.retrained wl) port 5 0)
    else .next (onPort s port fun p => { p with retrain := p.retrain.map fun r => if r.1 = wl then (wl, w, n + 1) else r })

/-! Lasers (R354, R368). -/

def laserAt (s : State) (l : Nat) : Laser := tget s.lasers l {}

def onLaser (s : State) (l : Nat) (f : Laser → Laser) : State := { s with lasers := tset s.lasers l (f (laserAt s l)) }

/-- The laser module that feeds a transmit wavelength of a port, and its line (R354): set floor(p / 16); data wavelengths 2i and 2i + 1 come from
index i, the spare of a fibre from index fibre mod 4; line j feeds eight fibres, those of four ports. -/
def laserOf (port wl : Nat) : Nat :=
  let fibre := 2 * port + wl / 9
  4 * (port / 16) + if wl % 9 = 8 then fibre % 4 else wl % 9 / 2

def laserLine (port : Nat) : Nat := port % 16 / 4

/-- What a line of a laser module feeds: ports, with their wavelengths. -/
def fedBy (l line : Nat) : List (Nat × Nat) :=
  ((List.range 4).map fun i => 16 * (l / 4) + 4 * line + i).flatMap fun p => ((List.range 18).filter fun wl => laserOf p wl == l).map fun wl => (p, wl)

/-- LASER.ok: all four lines are at power; LASER.dark: a line is below its threshold (R368). -/
def Laser.ok (x : Laser) : Bool := x.power == 15

def Laser.dark (x : Laser) : Bool := x.lost != 0

/-- LASER_ENABLE (R368): a module that is off has no line at power. -/
def execLaserEnable (l en : Nat) (s : State) : Result :=
  if 31 < l then .next s
  else .next (onLaser s l fun x => { x with en := en % 2 == 1, power := if en % 2 = 1 then x.power else 0 })

/-- Whether link-control flits are still due for a line of a laser module that went dark before: lines that go dark together are one loss of the
module (DEDUCED, log 60). -/
def lossDue (s : State) (l : Nat) : Bool :=
  ((List.range 4).filter (laserAt s l).lost.getLsbD).any fun j => (fedBy l j).any fun f => s.agenda.contains (.linkControlFlit f.1 32 15)

/-- LASER_LINE_LOST (R354, R369): the module reports it, once for the lines that it loses together, and the wavelengths that the line feeds go dark.
Line j of laser module m is numbered 4m + j (log 60). -/
def execLaserLineLost (l : Nat) (s : State) : Result :=
  if 127 < l then .next s
  else
    let line := l % 4
    let l := l / 4
    let due := lossDue s l
    let s := onLaser s l fun x => { x with power := x.power &&& ~~~(1#4 <<< line), lost := x.lost ||| (1#4 <<< line) }
    .next ((fedBy l line).foldl (fun s f => darken s f.1 f.2) (if due then s else linkEvent s 0 1 l))

/-- LIGHT_RETURN (R368, R369): a wavelength has light again, and the line that feeds it is at power. -/
def execLightReturn (port wl : Nat) (s : State) : Result :=
  if 127 < port ∨ 35 < wl then .next s
  else if 17 < wl then .next (onPort s port fun p => { p with rxDark := p.rxDark &&& ~~~(1#18 <<< (wl - 18)) })
  else
    let s := onPort s port fun p => { p with dark := p.dark &&& ~~~(1#18 <<< wl) }
    .next (tryUp (onLaser s (laserOf port wl) fun x =>
      { x with power := if x.en then x.power ||| (1#4 <<< laserLine port) else x.power, lost := x.lost &&& ~~~(1#4 <<< laserLine port) }) port)

end Sys2Proof.Machine
end

