-- ==== Sys2Proof/Machine/Fleet.lean ====
section
/-!
DEFINITION. Power, thermal limits, start, freeze, the test port, firmware and attestation (R343, R377 to R392), and writes of module
registers (R332).
-/

namespace Sys2Proof.Machine

/-! Caps from the power limit (R379). -/

/-- The row of the table of R379 that a limit reaches, from 0. -/
def plimRow (plim : Nat) : Nat :=
  if 9600 ≤ plim then 0 else if 8400 ≤ plim then 1 else if 7200 ≤ plim then 2 else if 6000 ≤ plim then 3 else 4

/-- The caps of a row, as the power-cap register takes them. -/
def rowCaps (row : Nat) : Nat :=
  match row with
  | 0 => 8192 + 2 * 2 ^ 16
  | 1 => 4096 + 2 * 2 ^ 16
  | 2 => 2048 + 1 * 2 ^ 16
  | 3 => 1024
  | _ => 512

/-- The caps of a core: the row below while its die is throttled. -/
def coreCaps (s : State) (core : Nat) : Nat :=
  rowCaps (plimRow s.regs.plim + bit (s.regs.throt.getLsbD (dieNo (core % 48) (core / 48))))

/-- The firmware's writes of the power-cap registers of some cores; each takes force when its turn comes (R379). -/
def capWrites (s : State) (cores : List Nat) : State := { s with agenda := s.agenda ++ cores.map fun c => .powerCap c (coreCaps s c) }

/-- PLIM (R378, R379). -/
def execPlim (v : Nat) (s : State) : Result :=
  .next (capWrites (withRegs s fun r => { r with plim := max 4800 (min 9600 v) }) (List.range 1536))

/-- The cores of a die. -/
def dieCores (d : Nat) : List Nat := (List.range 64).map fun c => coreNo (8 * (d % 6) + c % 8) (8 * (d / 6) + c / 8)

/-- The temperature of a die, signed, in 1/16 degree (R378); the highest of the 24 compute dies, of which R387 does not say whether the fabric dies
count among them (DESIGN CHOICE, log 112). -/
def dieTemp (r : Regs) (d : Nat) : Int := signed 16 (vget r.temps d 0)

def hottest (r : Regs) : Int := ((List.range 24).map (dieTemp r)).foldl max (dieTemp r 0)

/-- THROT changed for a die: caps and a thermal event (R379, R387). -/
def setThrottle (s : State) (d : Nat) (on : Bool) : State :=
  if s.regs.throt.getLsbD d = on then s
  else
    let s := withRegs s fun r => { r with throt := if on then r.throt ||| (1#24 <<< d) else r.throt &&& ~~~(1#24 <<< d) }
    emitModule (capWrites s (dieCores d)) 17 (toWord s.regs.throt.toNat) (BitVec.ofInt 64 (hottest s.regs))

/-! Power (R380, R381). -/

/-- What outlasts a loss of power: the retirement log, the firmware image in flash, and what is fused (R380, R390). -/
def keptRegs (r : Regs) : Regs :=
  { rlog := r.rlog, rollback := r.rollback, serial := r.serial, flash := r.flash, fusedKey := r.fusedKey, booted := false }

/-- A module without power: every register, cache, memory byte and frame is lost; other modules and the outside world are as they were. -/
def loseAll (s : State) : State :=
  { State.reset with
    power := .off, regs := keptRegs s.regs, turns := s.turns, tick := s.tick, memory := s.memory.filter fun c => paModule c.1 != ownModule s
    lost := s.lost, peers := s.peers, delays := s.delays }

/-- POWER_LOSS and THERMAL_TRIP (R379, R381). -/
def execPowerLoss (s : State) : Result := .next (loseAll s)

def execThermalTrip (s : State) : Result := .next (loseAll s)

/-- A die's temperature, in 1/16 degree (R379): 115 and above trips, 105 throttles it, below 100 releases it. The firmware that throttles runs
on a booted module only. -/
def dieReading (s : State) (die temp : Nat) : State :=
  let s := withRegs s fun r => { r with temps := vset r.temps die (temp % 65536) }
  if trips temp then loseAll s
  else if !s.regs.booted then s
  else if 1680 ≤ dieTemp s.regs die then setThrottle s die true
  else if dieTemp s.regs die < 1600 then setThrottle s die false
  else s

/-- THROTTLE (R379). -/
def execThrottle (die temp : Nat) (s : State) : Result := if 23 < die then .next s else .next (dieReading s die temp)

/-! Start (R380, R382, R386, R390). -/

/-- The firmware of a module that starts throttles the dies that read 105 °C or more (R379). -/
def hotDies (s : State) : State := (List.range 24).foldl (fun s d => if 1680 ≤ dieTemp s.regs d then setThrottle s d true else s) s

/-- A module that has booted: its id from the straps, the image that runs, the log applied (R380, R382, R386, R391). -/
def bootUp (s : State) (straps version : Nat) : State :=
  let log := s.regs.rlog
  let s := { s with power := .up, membership := 1 <<< (straps % 4096) }
  let s := withRegs s fun r =>
    { r with modid := straps % 4096, fwVersion := version % 65536, fwDigest := r.flash.digest, booted := true, bootFailed := false, rlogBoot := log }
  let s := hotDies (applyLog s log)
  withRegs s fun r => { r with lret := lanesRetired s log, pret := (log.filter fun e => !logIsLane e).length }

/-- Whether the boot ROM accepts the image in flash (R390): its signature verifies, under a key with the fused digest, and its version is not below
the rollback counter. -/
def imageAccepted (r : Regs) (version verified : Nat) : Bool :=
  decide (verified = 1) && r.flash.keyDigest == r.fusedKey && decide (r.rollback ≤ version % 65536)

/-- BOOT (R380, R390): an accepted image starts; otherwise the module stays unbooted and reports the failure. `version` is the
version in the image's header, `verified` says whether its signature verifies, which the model does not compute (log 100). -/
def execBoot (straps version verified : Nat) (s : State) : Result :=
  if s.regs.booted then .next s
  else if imageAccepted s.regs version verified then .next (bootUp s straps version)
  else .next (withRegs { s with power := .up } fun r => { r with bootFailed := true })

/-- FREEZE (R388): every clock stops until a power cycle. -/
def execFreeze (s : State) : Result := .next { s with power := .frozen }

/-! The test port (R389). -/

def execBypass (tdi : Nat) (s : State) : Result :=
  .next (withRegs s fun r => { r with tapIr := 0xFF, tapDr := [toWord (tdi % 2)] })

/-- IDCODE (R389). -/
def idcodeWord : Nat := Config.idRevision.toNat * 2 ^ 28 + 0xA1C3 * 2 ^ 12 + 0x2B5 * 2 + 1

def execIdcode (s : State) : Result := .next (withRegs s fun r => { r with tapIr := 0x01, tapDr := [toWord idcodeWord] })

/-- CHAIN (R389): chains 0 to 25; the bits are not architectural. -/
def execChain (n : Nat) (s : State) : Result :=
  if 25 < n then .next s else .next (withRegs s fun r => { r with tapIr := 0x10 + n, tapDr := Config.scanChain n s.tick })

/-! Attestation (R391, R392). -/

/-- The bytes that the report signs. -/
def reportBody (r : Regs) (nonce : Nat) : List Byte :=
  leBytes 2 r.modid ++ leBytes 6 r.serial.toNat ++ leBytes 2 r.fwVersion ++ leBytes 2 r.rollback ++ leBytes 32 r.fwDigest.toNat ++
    leBytes 32 (Config.logDigest r.rlogBoot).toNat ++ leBytes 32 nonce

/-- ATTESTATION_REQUEST (R391). -/
def execAttestationRequest (nonce : Nat) (s : State) : Result :=
  let body := reportBody s.regs nonce
  let sig := Config.signReport body
  .next (withRegs s fun r => { r with report := body ++ (List.range 384).map fun i => sig.getD i 0 })

/-- ROLLBACK_RAISE (R392). -/
def execRollbackRaise (s : State) : Result := .next (withRegs s fun r => { r with rollback := max r.rollback r.fwVersion })

/-! Register writes (R332). -/

/-- A dword of a bind record written, but for its command (R339). -/
def writeSlot (i v : Nat) (x : Slot) : Slot :=
  match i with
  | 0 => { x with psize := field v 8 6 }
  | 1 => { x with vlmax := field v 0 14, late := v.testBit 15, src := field v 16 16, ctxid := BitVec.ofNat 32 (v / 2 ^ 32) }
  | 2 => { x with frame := toWord v }
  | 3 => { x with tag := toWord v }
  | 4 => { x with ptroot := toWord v }
  | 5 => { x with dl := toWord v }
  | 6 => { x with entry := toWord (field v 0 55) }
  | _ => { x with arg := toWord v }

/-- A command of a slot (R340); reserved commands give result 6. -/
def command (die slot cmd : Nat) (s : State) : Result :=
  match cmd with
  | 0 => .next s
  | 1 => execStart die slot s
  | 2 => execRestore die slot s
  | 3 => execPreEmpt die slot s
  | _ => .next (setResult s (slotOf die slot) 6)

/-- A write into the slot tables. -/
def slotWrite (o v : Nat) (s : State) : Result :=
  let die := o / 0x8000
  let slot := o % 0x8000 / 64
  let s := onSlotEntry s (slotOf die slot) (writeSlot (o % 64 / 8) v)
  if o % 64 = 0 then command die slot (v % 8) s else .next s

/-- A write of module control (R332, R342, R318, R337, R344). The row of EVTAIL at 0x28 gives no access: a write of it is ignored (DESIGN CHOICE,
log 108). -/
def controlWrite (o v : Nat) (s : State) : Result :=
  match o with
  | 0x10 => .next (withRegs s fun r => { r with evb := toWord v })
  | 0x18 => execEvsz v s
  | 0x20 => execEvhead v s
  | 0x40 => .next (withRegs s fun r => { r with fatb := toWord v })
  | 0x48 => .next (withRegs s fun r => { r with hotb := toWord v })
  | 0x50 => .next (withRegs s fun r => { r with winb := toWord v })
  | 0x58 => .next (withRegs s fun r => { r with ppool := toWord v })
  | 0x60 => .next (withRegs s fun r => { r with ppoolsz := toWord v })
  | 0x80 => execReqfree v s
  | 0x88 => execTaskkill (v % 65536) s
  | _ => .next s

/-- A write of HQSTAT (R333): stopped is cleared by a 1, enable takes the written bit. -/
def hqstatWrite (q v : Nat) (s : State) : Result :=
  let s := onHostQueue s q fun x => { x with stopped := x.stopped && !v.testBit 1, enable := v.testBit 0 }
  .next (schedule s (.hostQueueTake q))

/-- A write into a host queue's registers (R333). A new descriptor starts its count of records anew (log 17). -/
def queueWrite (o v : Nat) (s : State) : Result :=
  let q := o / 0x100
  match o % 0x100 with
  | 0x00 => .next (onHostQueue s q fun x => { x with desc := toWord v, taken := 0, gangs := [] })
  | 0x08 => .next (onHostQueue s q fun x => { x with pt := toWord v })
  | 0x10 => execDoorbell q v s
  | 0x18 => hqstatWrite q v s
  | _ => .next s

/-- A dword of the membership map written (R367). -/
def writeMembership (m : BitVec 4096) (i v : Nat) : BitVec 4096 := BitVec.ofNat 4096 (setField m.toNat (64 * i) 64 v)

/-- A write of LCTL (R368): the peer, a rekey, a relane, the state. -/
def lctlWrite (p v : Nat) (s : State) : Result :=
  let s := onPort s p fun x => { x with peer := field v 16 12 }
  let s := if v.testBit 8 then onPort s p flipKey else s
  let s := if v.testBit 7 then relaned s p else s
  match field v 0 3 with
  | 0 => .next (stateBelow s p 0)
  | 1 => execLinkLock p s
  | 2 => execLinkTrain p s
  | 3 => execLinkUp p s
  | _ => .next s

/-- A dword of a pending key written; the other dwords stay. -/
def writeKey (old : Option Nat) (i v : Nat) : Option Nat := some (setField (old.getD 0) (64 * i) 64 v)

/-- A write into a port's registers (R367). -/
def portWrite (o v : Nat) (s : State) : Result :=
  let p := o / 0x100
  match o % 0x100 / 8 with
  | 0 => lctlWrite p v s
  | 2 => .next (writeLanes s p (toWord v))
  | 8 | 9 | 10 | 11 => .next (onPort s p fun x => { x with txPend := writeKey x.txPend (o % 0x100 / 8 - 8) v })
  | 12 | 13 | 14 | 15 => .next (onPort s p fun x => { x with rxPend := writeKey x.rxPend (o % 0x100 / 8 - 12) v })
  | _ => .next s

/-- A write into a move slot (R372): the dword at 16 holds the command. -/
def moveWrite (o v : Nat) (s : State) : Result :=
  let slot := o / 0x20
  match o % 0x20 with
  | 0 => .next { s with moves := tset s.moves slot { tget s.moves slot {} with new := field v 16 40 } }
  | 16 =>
    let t := { s with moves := tset s.moves slot { tget s.moves slot {} with old := field v 36 28 } }
    match v % 4 with
    | 1 => execMove slot (field v 36 28) s
    | 2 => execMoveRelease slot t
    | _ => .next t
  | _ => .next s

/-- A write of the fabric's registers (R367). -/
def fabricWrite (o v : Nat) (s : State) : Result :=
  if o = 0 then .next (withRegs s fun r => { r with errb := toWord v })
  else if o = 8 then .next (withRegs s fun r => { r with rthr := toWord v })
  else if 0x100 ≤ o ∧ o < 0x300 then .next { s with membership := writeMembership s.membership ((o - 0x100) / 8) v }
  else if 0x10000 ≤ o ∧ o < 0x18000 then portWrite (o - 0x10000) v s
  else if 0x20000 ≤ o ∧ o < 0x20800 then (if o % 0x40 = 0 then execLaserEnable ((o - 0x20000) / 0x40) v s else .next s)
  else if 0x30000 ≤ o ∧ o < 0x30200 then moveWrite (o - 0x30000) v s
  else .next s

/-- A write of the telemetry and power registers (R378): TRANS and LAST are cleared by ones. -/
def telemetryWrite (o v : Nat) (s : State) : Result :=
  match o with
  | 0x00 => execPlim (v % 65536) s
  | 0x28 => .next (withRegs s fun r => { r with trans := r.trans &&& ~~~(toWord v) })
  | 0x30 => .next (withRegs s fun r => { r with last := r.last &&& ~~~(toWord v) })
  | _ => .next s

/-- REGISTER_WRITE (R332): a dword written at an offset of the register window. Offsets that no table names are ignored. -/
def execRegisterWrite (off v : Nat) (s : State) : Result :=
  if off % 8 ≠ 0 then .next s
  else if off < 0x10000 then controlWrite off (v % 2 ^ 64) s
  else if 0x100000 ≤ off ∧ off < 0x104000 then queueWrite (off - 0x100000) (v % 2 ^ 64) s
  else if 0x1000000 ≤ off ∧ off < 0x10C0000 then slotWrite (off - 0x1000000) (v % 2 ^ 64) s
  else if 0x3000000 ≤ off ∧ off < 0x3003000 then execPowerCap ((off - 0x3000000) / 8) v s
  else if 0x4000000 ≤ off ∧ off < 0x4040000 then fabricWrite (off - 0x4000000) (v % 2 ^ 64) s
  else if 0x5000000 ≤ off ∧ off < 0x5001000 then telemetryWrite (off - 0x5000000) (v % 2 ^ 64) s
  else if 0x6000000 ≤ off ∧ off < 0x6002000 then execArrivalQueue ((off - 0x6000000) / 8) v s
  else .next s

end Sys2Proof.Machine
end

