-- ==== Sys2Proof/Machine/Float.lean ====
section
/-!
DEFINITION. The meanings of the float brick instructions (R161 to R164).
-/

namespace Sys2Proof.Machine

def execVfadd (vd vs1 vs2 m rm _ _ : Nat) (s : State) : Result := vector ((fltForm fAdd vd vs1 vs2 m).rounding rm) s
def execVfsub (vd vs1 vs2 m rm _ _ : Nat) (s : State) : Result := vector ((fltForm fSub vd vs1 vs2 m).rounding rm) s
def execVfmul (vd vs1 vs2 m rm _ _ : Nat) (s : State) : Result := vector ((fltForm fMul vd vs1 vs2 m).rounding rm) s
def execVfdiv (vd vs1 vs2 m rm _ _ : Nat) (s : State) : Result := vector ((fltForm fDiv vd vs1 vs2 m).rounding rm) s
def execVfsqrt (vd vs1 m rm _ : Nat) (s : State) : Result := vector ((fltOneForm fSqrt vd vs1 m).rounding rm) s
def execVfmin (vd vs1 vs2 m _ _ : Nat) (s : State) : Result := vector (fltForm fMin vd vs1 vs2 m) s
def execVfmax (vd vs1 vs2 m _ _ : Nat) (s : State) : Result := vector (fltForm fMax vd vs1 vs2 m) s
def execVfabs (vd vs1 m _ : Nat) (s : State) : Result := vector (fltOneForm fAbs vd vs1 m) s
def execVfma (vd vs1 vs2 m rm _ _ : Nat) (s : State) : Result := vector (fusedForm false false vd vs1 vs2 m rm) s
def execVfms (vd vs1 vs2 m rm _ _ : Nat) (s : State) : Result := vector (fusedForm false true vd vs1 vs2 m rm) s
def execVfnma (vd vs1 vs2 m rm _ _ : Nat) (s : State) : Result := vector (fusedForm true true vd vs1 vs2 m rm) s
def execVfnms (vd vs1 vs2 m rm _ _ : Nat) (s : State) : Result := vector (fusedForm true false vd vs1 vs2 m rm) s
def execVfaddx (vd vs1 xs m rm _ : Nat) (s : State) : Result := vector ((fltXForm fAdd vd vs1 xs m).rounding rm) s
def execVfsubx (vd vs1 xs m rm _ : Nat) (s : State) : Result := vector ((fltXForm fSub vd vs1 xs m).rounding rm) s
def execVfmulx (vd vs1 xs m rm _ : Nat) (s : State) : Result := vector ((fltXForm fMul vd vs1 xs m).rounding rm) s
def execVfdivx (vd vs1 xs m rm _ : Nat) (s : State) : Result := vector ((fltXForm fDiv vd vs1 xs m).rounding rm) s
def execVfrsubx (vd vs1 xs m rm _ : Nat) (s : State) : Result := vector ((fltXForm fRsub vd vs1 xs m).rounding rm) s
def execVfmaxPropagating (vd vs1 xs m _ : Nat) (s : State) : Result := vector (fltXForm fMaxProp vd vs1 xs m) s
def execVfminx (vd vs1 xs m _ : Nat) (s : State) : Result := vector (fltXForm fMin vd vs1 xs m) s
def execVfmaxx (vd vs1 xs m _ : Nat) (s : State) : Result := vector (fltXForm fMax vd vs1 xs m) s

end Sys2Proof.Machine
end

