-- ==== Sys2Proof/Machine/Integer.lean ====
section
/-!
DEFINITION. The meanings of the integer brick instructions (R159, R160).
-/

namespace Sys2Proof.Machine

def execVadd (vd vs1 vs2 m o _ _ : Nat) (s : State) : Result := vector (intForm opAdd vd vs1 vs2 m o) s
def execVsub (vd vs1 vs2 m o _ _ : Nat) (s : State) : Result := vector (intForm opSub vd vs1 vs2 m o) s
def execVmul (vd vs1 vs2 m o _ _ : Nat) (s : State) : Result := vector (intForm opMul vd vs1 vs2 m o) s
def execVmulh (vd vs1 vs2 m o _ _ : Nat) (s : State) : Result := vector (intForm opMulh vd vs1 vs2 m o) s
def execVmin (vd vs1 vs2 m o _ _ : Nat) (s : State) : Result := vector (intForm opMin vd vs1 vs2 m o) s
def execVmax (vd vs1 vs2 m o _ _ : Nat) (s : State) : Result := vector (intForm opMax vd vs1 vs2 m o) s
def execVaddSat (vd vs1 vs2 m o _ _ : Nat) (s : State) : Result := vector (intForm opAddSat vd vs1 vs2 m o) s
def execVsubSat (vd vs1 vs2 m o _ _ : Nat) (s : State) : Result := vector (intForm opSubSat vd vs1 vs2 m o) s
def execVand (vd vs1 vs2 m o _ _ : Nat) (s : State) : Result := vector (intForm opAnd vd vs1 vs2 m o) s
def execVor (vd vs1 vs2 m o _ _ : Nat) (s : State) : Result := vector (intForm opOr vd vs1 vs2 m o) s
def execVxor (vd vs1 vs2 m o _ _ : Nat) (s : State) : Result := vector (intForm opXor vd vs1 vs2 m o) s
def execVsll (vd vs1 vs2 m o _ _ : Nat) (s : State) : Result := vector (intForm opSll vd vs1 vs2 m o) s
def execVsrl (vd vs1 vs2 m o _ _ : Nat) (s : State) : Result := vector (intForm opSrl vd vs1 vs2 m o) s
def execVsra (vd vs1 vs2 m o _ _ : Nat) (s : State) : Result := vector (intForm opSra vd vs1 vs2 m o) s
def execVmulSat (vd vs1 vs2 m o _ _ : Nat) (s : State) : Result := vector (intForm opMulSat vd vs1 vs2 m o) s
def execVsel (vd vs1 vs2 m o _ _ : Nat) (s : State) : Result := vector (vselForm vd vs1 vs2 m o) s
def execVaddx (vd vs1 xs m _ sel : Nat) (s : State) : Result := vector (intXForm opAdd vd vs1 sel xs m) s
def execVsubx (vd vs1 xs m _ sel : Nat) (s : State) : Result := vector (intXForm opSub vd vs1 sel xs m) s
def execVmulx (vd vs1 xs m _ sel : Nat) (s : State) : Result := vector (intXForm opMul vd vs1 sel xs m) s
def execVminx (vd vs1 xs m _ sel : Nat) (s : State) : Result := vector (intXForm opMin vd vs1 sel xs m) s
def execVmaxx (vd vs1 xs m _ sel : Nat) (s : State) : Result := vector (intXForm opMax vd vs1 sel xs m) s
def execVsllx (vd vs1 xs m _ sel : Nat) (s : State) : Result := vector (intXForm opSll vd vs1 sel xs m) s
def execVsrlx (vd vs1 xs m _ sel : Nat) (s : State) : Result := vector (intXForm opSrl vd vs1 sel xs m) s
def execVsrax (vd vs1 xs m _ sel : Nat) (s : State) : Result := vector (intXForm opSra vd vs1 sel xs m) s

end Sys2Proof.Machine
end

