-- ==== Sys2Proof/Machine/Links.lean ====
section
/-!
DEFINITION. The meanings of the neighbour-link forms (R253 to R255), and the arrival of a row.
-/

namespace Sys2Proof.Machine

def execNlsend (vb xs1 xs2 side : Nat) (s : State) : Result := matrix (nlsendForm vb xs1 xs2 side) s

def execNlrecv (vb xs1 xs2 side : Nat) (s : State) : Result := matrix (nlrecvForm vb xs1 xs2 side) s

/-- NEIGHBOUR_ROW_ARRIVAL (R254): a row arrives in a channel of a core. -/
def execNeighbourRowArrival (core side idx len data : Nat) (s : State) : Result :=
  .next (onCore s core fun c => { c with links := c.links ++ [⟨side, idx, leBytes len data⟩] })

end Sys2Proof.Machine
end

