-- ==== Sys2Proof/Machine/Matrix.lean ====
section
/-!
DEFINITION. The meanings of the matrix forms (R210 to R226), and the latch of a tile.
-/

namespace Sys2Proof.Machine

/-- A matrix form that commits no row: the checks of R211 and R212, then its effect at its place in program order. -/
def arrayForm (act : State → State) (s : State) : Result :=
  if holdsArray s && shapeFits s then .next (act s) else .next (illegalOperand s)

/-- The length that mset grants (R213): the largest of 16, 32 and 64 within the request and the cap. -/
def grantRows (cap want : Nat) : Nat := if 64 ≤ max 16 want ∧ 64 ≤ cap then 64 else if 32 ≤ max 16 want ∧ 32 ≤ cap then 32 else 16

/-- MCAP as a length (R213, R343). -/
def mcapLength (c : Core) : Nat := 16 * 2 ^ c.mcap

def execMset (xd xs : Nat) (s : State) : Result :=
  arrayForm (fun s =>
    let g := grantRows (mcapLength s.core) (rx s xs).toNat
    retire (wx (withCore s fun c => { c with mvl := g }) xd (toWord g)) 4) s

def execMfmt (code st : Nat) (s : State) : Result :=
  arrayForm (fun s => retire (withCore s fun c => { c with afmt := vset c.afmt st code }) 4) s

/-- The array granted to a hart (R210): reset first when another address space held it last. The address space that held it is that of the claim, also
where the holder changes PTROOT while it holds the array (DESIGN CHOICE, log 109). -/
def claimArray (asid idx : Nat) (c : Core) : Core :=
  if c.lastAsid = some asid then { c with claimant := some idx }
  else { c with claimant := some idx, lastAsid := some asid, mvl := 16, afmt := .replicate 4 0, w0 := {}, w1 := {}, acc := [] }

/-- MCLAIM (R215): any hart may issue it. -/
def execMclaim (xd : Nat) (s : State) : Result :=
  if !shapeFits s then .next (illegalOperand s)
  else
    match s.core.claimant with
    | none => finish xd 1 (withCore s (claimArray (asidOf s.hart.ptroot) s.hart.idx))
    | some i => finish xd (if i = s.hart.idx then 1 else 0) s

def execMrel (s : State) : Result := arrayForm (fun s => retire (withCore s fun c => { c with claimant := none }) 4) s

def execWswap (s : State) : Result := arrayForm (fun s => retire (withCore s fun c => { c with w0 := c.w1, w1 := c.w0 }) 4) s

/-- AZERO (R223): every element of an accumulator set to +0. -/
def execAzero (acc : Nat) (s : State) : Result :=
  arrayForm (fun s => retire (withCore s fun c => { c with acc := mclear c.acc (16384 * acc) 16384 }) 4) s

def execWld (xs code sp xp tile : Nat) (s : State) : Result := matrix (wldForm xs code sp xp tile) s
def execMrow (vb acc xs _ st : Nat) (s : State) : Result := matrix (mrowForm vb acc xs st) s
def execAld (acc xs xp : Nat) (s : State) : Result := matrix (aldForm acc xs xp) s
def execAst (acc xs xp ety tr : Nat) (s : State) : Result := matrix (astForm acc xs xp ety tr) s

/-- Whether the oldest in-flight instruction of the hart in hand is a wld. -/
def wldInFlight (s : State) : Bool :=
  match s.hart.inflight with
  | [] => false
  | e :: _ =>
    match decodeWord e.w1 with
    | .ok (.wld _ _ _ _ _) => true
    | _ => false

/-- TILE_LATCH (R218): the wld that a hart has in flight reads its tile and latches it as one unit, or faults. -/
def execTileLatch (h : Nat) (s : State) : Result := .next (onSlot s h fun s => if wldInFlight s then commitHead s else s)

end Sys2Proof.Machine
end

