-- ==== Sys2Proof/Machine/Permute.lean ====
section
/-!
DEFINITION. The meanings of the permutes, broadcast, extraction and coordinates (R172, R173).
-/

namespace Sys2Proof.Machine

def execVmovx (vd xs m sel : Nat) (s : State) : Result := vector (vmovxForm vd xs m sel) s
def execVextx (vd vs1 xs m _ : Nat) (s : State) : Result := vector (vextxForm vd vs1 xs m) s
def execVcoordX (vd xs m sel : Nat) (s : State) : Result := vector (vcoordForm 0 vd xs m sel) s
def execVcoordY (vd xs m sel : Nat) (s : State) : Result := vector (vcoordForm 1 vd xs m sel) s
def execVcoordZ (vd xs m sel : Nat) (s : State) : Result := vector (vcoordForm 2 vd xs m sel) s
def execVtrxy (vd vs1 m _ : Nat) (s : State) : Result := vector (vtrxyForm vd vs1 m) s
def execVslide (vd vs1 amt m axis _ : Nat) (s : State) : Result := vector (vslideForm vd vs1 amt m axis) s
def execVrot (vd vs1 amt m axis _ : Nat) (s : State) : Result := vector (vrotForm vd vs1 amt m axis) s
def execVgidx (vd vs1 vs2 m _ _ : Nat) (s : State) : Result := vector (vgidxForm vd vs1 vs2 m) s

end Sys2Proof.Machine
end

