-- ==== Sys2Proof/Machine/Routing.lean ====
section
/-!
DEFINITION. The routing engine (R240 to R242, R268 to R277): rtset, rtgo, rtcomb, rtwait, rtdrop, and the end or the fault of an
operation.
-/

namespace Sys2Proof.Machine

/-! The descriptor (R268). -/

def rtField (d : BitVec 1024) (lo n : Nat) : Nat := field d.toNat lo n

def rtChoa (d : BitVec 1024) : Nat := rtField d 0 55
def rtSrca (d : BitVec 1024) : Nat := rtField d 64 55
def rtXtab (d : BitVec 1024) : Nat := rtField d 128 55
def rtStata (d : BitVec 1024) : Nat := rtField d 192 55
def rtInva (d : BitVec 1024) : Nat := rtField d 256 55
def rtDropa (d : BitVec 1024) : Nat := rtField d 320 55
def rtOuta (d : BitVec 1024) : Nat := rtField d 384 55
def rtSstr (d : BitVec 1024) : Int := signed 64 (rtField d 448 64)
def rtOstr (d : BitVec 1024) : Int := signed 64 (rtField d 512 64)
def rtT (d : BitVec 1024) : Nat := rtField d 576 32
def rtDcap (d : BitVec 1024) : Nat := rtField d 608 32
def rtE (d : BitVec 1024) : Nat := rtField d 640 17
def rtK (d : BitVec 1024) : Nat := rtField d 672 4
def rtRtype (d : BitVec 1024) : Nat := rtField d 680 2
def rtUnw (d : BitVec 1024) : Bool := rtField d 684 1 == 1
def rtCont (d : BitVec 1024) : Bool := rtField d 685 1 == 1
def rtRsize (d : BitVec 1024) : Nat := rtField d 704 32
def rtPitch (d : BitVec 1024) : Nat := rtField d 768 64

/-- The checks of R271. -/
def routeLegal (d : BitVec 1024) (combine : Bool) : Bool :=
  decide (1 ≤ rtT d) && decide (rtT d ≤ 2 ^ 24) && decide (1 ≤ rtK d) && decide (rtK d ≤ 8) && decide (1 ≤ rtE d) &&
    decide (rtE d ≤ 65536) && decide (4 ≤ rtRsize d) && decide (rtRsize d ≤ 65536) && decide (rtRsize d % 4 = 0) &&
    decide (rtRsize d ≤ rtPitch d) && decide (rtPitch d % 4 = 0) && decide (rtChoa d % (if rtUnw d then 4 else 8) = 0) &&
    decide (rtStata d % 8 = 0) && decide (rtDropa d % 8 = 0) && decide (rtXtab d % 4 = 0) && decide (rtInva d % 4 = 0) &&
    decide (rtSrca d % 4 = 0) && decide (rtOuta d % 4 = 0) &&
    (!combine || (decide (rtRtype d ≠ 3) && decide (rtOstr d % 4 = 0)))

/-! The reads and writes of an operation. -/

/-- A routing operation as it runs: the state, the fault that stopped it with its element, whether it must wait, the drop records written, whether a remote write failed, the flags raised. -/
structure Route where
  s : State
  /-- the deadline in force at the launch (R346) -/
  deadline : Word := 0
  err : Option (Nat × ElemFault) := none
  /-- home lines at which it must wait; none while it goes on -/
  hold : Option (List Nat) := none
  /-- lines it has published -/
  lines : List Nat := []
  drops : Nat := 0
  rerr : Bool := false
  flags : Nat := 0

/-- Whether the operation goes on. -/
def Route.goes (r : Route) : Bool := r.err.isNone && r.hold.isNone

/-- A read of `n` bytes at an exact address for a token, aligned to `u`. -/
def Route.pull (v : View) (a : Int) (n u tok : Nat) (count : Bool) (r : Route) : Route × Nat :=
  if !r.goes then (r, 0)
  else
    match addrCheck a u 0 with
    | .error f => ({ r with err := some (tok, f) }, 0)
    | .ok va =>
      match engineGet r.deadline v va n r.s with
      | (s, .error f) => ({ r with s, err := some (tok, ⟨f, 0, va⟩) }, 0)
      | (s, .ok p) =>
        if portFull r.s (homeAddr r.s p.1) 0 then ({ r with hold := some [] }, 0)
        else ({ r with s := if count then touch s p.1 2 else s }, p.2)

/-- A write at an exact address for a token, aligned to `u`: a failure of a remote home enters the error queue where `report`
(R276). -/
def Route.push (v : View) (op : RouteOp) (a : Int) (bs : List Byte) (u tok : Nat) (count : Bool) (report : Nat) (r : Route) : Route :=
  if !r.goes then r
  else
    match addrCheck a u 1 with
    | .error f => { r with err := some (tok, f) }
    | .ok va =>
      match locate v 1 va r.s with
      | (s, .error f) => { r with s, err := some (tok, ⟨f, 1, va⟩) }
      | (s, .ok pa) =>
        match reachHome s pa with
        | (s, .error f) =>
          let s := if actsAnyway s pa f then engineWrite r.deadline s v 4 op.num va pa bs else s
          { r with s := if report = 0 then s else writeFailed s 3 va pa report f op.pc, rerr := true }
        | (s, .ok pa) =>
          let lines := (linesAt s pa bs.length).filter fun l => !r.lines.contains l
          if engineWaits s pa bs.length && !lines.isEmpty then { r with hold := some lines }
          else
            let s := engineWrite r.deadline (stampLines s lines) v 4 op.num va pa bs
            { r with s := if count then touch s pa 2 else s, lines := r.lines ++ lines }

/-- A row read in units of 4 bytes. -/
def Route.pullRow (v : View) (a : Int) (tok : Nat) : Nat → Nat → Route → Route × List Byte
  | 0, _, r => (r, [])
  | n + 1, o, r =>
    let p := r.pull v (a + o) 4 4 tok (o == 0)
    let q := Route.pullRow v a tok n (o + 4) p.1
    (q.1, leBytes 4 p.2 ++ q.2)

/-- A row written in units of 4 bytes; failures are reported line by line. -/
def Route.pushRow (v : View) (op : RouteOp) (a : Int) (tok o : Nat) (bs : List Byte) : Nat → Route → Route
  | 0, r => r
  | n + 1, r =>
    let at_ := (a + o).toNat % 128
    let report := if o = 0 ∨ at_ = 0 then min (128 - at_) bs.length else 0
    Route.pushRow v op a tok (o + 4) (bs.drop 4) n (r.push v op (a + o) (bs.take 4) 4 tok (o == 0) report)

/-! Tables. -/

/-- Expert of choice (t, k), and its gate as an f32 (R270). -/
def Route.choice (v : View) (d : BitVec 1024) (t k : Nat) (r : Route) : Route × Nat × Nat :=
  let i := t * rtK d + k
  if rtUnw d then
    let p := r.pull v (rtChoa d + 4 * i : Nat) 4 4 t false
    (p.1, p.2, 0x3F800000)
  else
    let p := r.pull v (rtChoa d + 8 * i : Nat) 8 8 t false
    (p.1, p.2 % 2 ^ 32, p.2 / 2 ^ 32)

/-- Capacity and a base of an expert (R269). -/
def Route.capacity (v : View) (d : BitVec 1024) (x : Nat) (r : Route) : Route × Nat :=
  r.pull v (rtXtab d + 32 * x + 16 : Nat) 4 4 (rtT d) false

def Route.base (v : View) (d : BitVec 1024) (x off : Nat) (r : Route) : Route × Nat :=
  let p := r.pull v (rtXtab d + 32 * x + off : Nat) 4 4 (rtT d) false
  let q := p.1.pull v (rtXtab d + 32 * x + off + 4 : Nat) 4 4 (rtT d) false
  (q.1, (p.2 + q.2 * 2 ^ 32) % 2 ^ 55)

/-! Dispatch (R272 to R274). -/

/-- The pairs (t, k) in ascending order. -/
def pairs (d : BitVec 1024) : List (Nat × Nat) := (List.range (rtT d * rtK d)).map fun i => (i / rtK d, i % rtK d)

/-- The counting pass: D by expert. -/
def countPass (v : View) (d : BitVec 1024) (r : Route) : Route × Array Nat :=
  (pairs d).foldl (fun p tk =>
    let c := p.1.choice v d tk.1 tk.2
    (c.1, if c.2.1 < rtE d then p.2.modify c.2.1 (· + 1) else p.2)) (r, Array.replicate (rtE d) 0)

/-- Capacities and dispatch bases of all experts. -/
def expertPass (v : View) (d : BitVec 1024) (r : Route) : Route × Array Nat × Array Nat :=
  (List.range (rtE d)).foldl (fun p x =>
    let b := p.1.base v d x 0
    let c := b.1.capacity v d x
    (c.1, p.2.1.push c.2, p.2.2.push b.2)) (r, #[], #[])

/-- The exclusive prefix sums of the kept counts. -/
def prefixSums (dem caps : Array Nat) (e : Nat) : Array Nat :=
  ((List.range e).foldl (fun (p : Array Nat × Nat) x => (p.1.push p.2, p.2 + min (dem.getD x 0) (caps.getD x 0))) (#[], 0)).1

/-- An entry of the inverse table written (R273). -/
def Route.setInv (v : View) (op : RouteOp) (t k : Nat) (i : Int) (r : Route) : Route :=
  r.push v op (rtInva op.desc + 4 * (t * rtK op.desc + k) : Nat) (leBytes 4 (wrapTo 32 i)) 4 t false 4

/-- A drop record written, if there is room (R274). -/
def Route.drop (v : View) (op : RouteOp) (t k x : Nat) (r : Route) : Route :=
  if !r.goes ∨ rtDcap op.desc ≤ r.drops then r
  else
    let r := r.push v op (rtDropa op.desc + 8 * r.drops : Nat) (leBytes 8 (t + k * 2 ^ 24 + x * 2 ^ 32)) 8 t false 8
    { r with drops := r.drops + 1 }

/-- Address of a row of an expert buffer (R272, R275). -/
def rowAddr (d : BitVec 1024) (base0 base i j : Nat) : Int := if rtCont d then base0 + i * rtPitch d else base + j * rtPitch d

/-- One pair of the assignment pass. -/
def assign (v : View) (op : RouteOp) (caps bases sums : Array Nat) (p : Route × Array Nat) (tk : Nat × Nat) : Route × Array Nat :=
  let d := op.desc
  let c := p.1.choice v d tk.1 tk.2
  let x := c.2.1
  let j := p.2.getD x 0
  if x = 0xFFFFFFFF then (c.1.setInv v op tk.1 tk.2 (-1), p.2)
  else if rtE d ≤ x ∨ caps.getD x 0 ≤ j then ((c.1.setInv v op tk.1 tk.2 (-1)).drop v op tk.1 tk.2 x, p.2)
  else
    let i := sums.getD x 0 + j
    let r := c.1.setInv v op tk.1 tk.2 i
    let row := Route.pullRow v (rtSrca d + tk.1 * rtSstr d) tk.1 (rtRsize d / 4) 0 r
    (Route.pushRow v op (rowAddr d (bases.getD 0 0) (bases.getD x 0) i j) tk.1 0 row.2 (rtRsize d / 4) row.1,
      p.2.modify x (· + 1))

/-- The statistics array written (R273). -/
def statPass (v : View) (op : RouteOp) (dem sums : Array Nat) (r : Route) : Route :=
  (List.range (rtE op.desc)).foldl (fun r x =>
    r.push v op (rtStata op.desc + 8 * x : Nat) (leBytes 8 (dem.getD x 0 % 2 ^ 32 + sums.getD x 0 % 2 ^ 32 * 2 ^ 32)) 8
      (rtT op.desc) false 8) r

/-- A dispatch (R272). -/
def dispatch (v : View) (op : RouteOp) (s : State) : Route :=
  let d := op.desc
  let a := countPass v d { s, deadline := op.deadline }
  let b := expertPass v d a.1
  let sums := prefixSums a.2 b.2.1 (rtE d)
  let c := (pairs d).foldl (assign v op b.2.1 b.2.2 sums) (b.1, Array.replicate (rtE d) 0)
  statPass v op a.2 sums c.1

/-! Combine (R275). -/

/-- The format of the rows. -/
def rowFmt (d : BitVec 1024) : Fmt :=
  match rtRtype d with
  | 0 => f32
  | 1 => bf16
  | _ => f16

/-- One slot added to a row of accumulators: g·v + acc, rounded once (R275). -/
def fuseRow (fmt : Fmt) (g : Nat) (row : List Byte) (accs : List Nat) (fl : Nat) : List Nat × Nat :=
  let n := fmt.w / 8
  (List.range accs.length).foldl (fun p j =>
    let x := mulNum (f32.decode g) (fmt.decode (ofLe ((row.drop (j * n)).take n)))
    let y := addNum false x.1 (f32.decode (accs.getD j 0))
    let z := Elem.ofNum (.flt f32) 0 0 false false y.1
    (p.1 ++ [z.1], p.2 ||| x.2 ||| y.2 ||| z.2)) ([], fl)

/-- One slot of a token. -/
def combineSlot (v : View) (d : BitVec 1024) (t : Nat) (p : Route × List Nat) (k : Nat) : Route × List Nat :=
  let a := p.1.pull v (rtInva d + 4 * (t * rtK d + k) : Nat) 4 4 t false
  let c := a.1.choice v d t k
  let i := signed 32 a.2
  let x := c.2.1
  if !c.1.goes ∨ i < 0 ∨ rtE d ≤ x then (c.1, p.2)
  else
    let st := c.1.pull v (rtStata d + 8 * x : Nat) 8 8 (rtT d) false
    let cap := st.1.capacity v d x
    let j2 : Int := i - (st.2 / 2 ^ 32 : Nat)
    if !cap.1.goes ∨ j2 < 0 ∨ cap.2 ≤ j2 then (cap.1, p.2)
    else
      let b := cap.1.base v d (if rtCont d then 0 else x) 8
      let row := Route.pullRow v (rowAddr d b.2 b.2 i.toNat j2.toNat) t (rtRsize d / 4) 0 b.1
      if !row.1.goes then (row.1, p.2)
      else
        let f := fuseRow (rowFmt d) c.2.2 row.2 p.2 row.1.flags
        ({ row.1 with flags := f.2 }, f.1)

/-- One token: its slots, then its output row. -/
def combineToken (v : View) (op : RouteOp) (r : Route) (t : Nat) : Route :=
  let d := op.desc
  let n := (rowFmt d).w / 8
  let a := (List.range (rtK d)).foldl (combineSlot v d t) (r, List.replicate (rtRsize d / n) 0)
  let out := a.2.map fun x => convert (.flt f32) (.flt (rowFmt d)) 0 0 false false x
  let r := { a.1 with flags := out.foldl (fun f p => f ||| p.2) a.1.flags }
  Route.pushRow v op (rtOuta d + t * rtOstr d) t 0 (out.flatMap fun p => leBytes n p.1) (rtRsize d / 4) r

/-- A combine (R275). -/
def combineRows (v : View) (op : RouteOp) (s : State) : Route := (List.range (rtT op.desc)).foldl (combineToken v op) { s, deadline := op.deadline }

/-! Launch, end and fault. -/

/-- The operation of the hart in hand run to its end, if one is in flight. -/
def runRoute (s : State) : Option (RouteOp × Route) :=
  match s.hart.rop with
  | some op =>
    if op.st == .running then
      let v := engineView s op.priv
      some (op, if op.combine then combineRows v op s else dispatch v op s)
    else none
  | none => none

/-- The record of the hart's latest operation changed, and of its latest dispatch with it (R242). -/
def setRoute (op : RouteOp) (s : State) : State :=
  withHart s fun h => { h with rop := some op, rdisp := if op.combine then h.rdisp else some op }

/-- ROUTING_OPERATION_END (R241): the operation's writes are made and published. Where it faults, ROUTING_FAULT takes it. -/
def execRoutingOperationEnd (h : Nat) (s : State) : Result :=
  .next (onSlot s h fun s =>
    match runRoute s with
    | none => s
    | some (op, r) =>
      match r.hold with
      | some lines => schedule (waitAt s lines) (.routingOperationEnd h)
      | none =>
        if r.err.isSome then schedule s (.routingFault h)
        else setRoute { op with st := .done, drops := r.drops, rerr := r.rerr, flags := toWord (r.flags * 256) } r.s)

/-- ROUTING_FAULT (R276): the operation stops on its fault. One whose fault has gone meanwhile, or that must wait, goes on. -/
def execRoutingFault (h : Nat) (s : State) : Result :=
  .next (onSlot s h fun s =>
    match runRoute s with
    | none => s
    | some (op, r) =>
      match r.err with
      | none => schedule s (.routingOperationEnd h)
      | some (e, f) =>
        setRoute { op with st := .faulted, cause := f.why.cause, sub := f.why.sub, acc := f.acc, elem := e, addr := f.va
                           po := f.why.po, reported := false } r.s)

/-- Whether an operation of the hart in hand is in flight. -/
def routing (s : State) : Bool :=
  match s.hart.rop with
  | some op => op.st == .running
  | none => false

/-- An operation launched (R240). -/
def launchRoute (combine : Bool) (xd : Nat) (s : State) : Result :=
  if routing s then .next (stall s)
  else if !routeLegal s.hart.rdesc combine then .next (illegalOperand s)
  else
    let op : RouteOp := { num := s.hart.rnext, combine, desc := s.hart.rdesc, priv := s.hart.priv, pc := s.hart.pc, deadline := s.hart.deadline }
    let s := withHart (setRoute op s) fun h => { h with rnext := h.rnext + 1 }
    finish xd (toWord op.num) (schedule s (.routingOperationEnd s.hart.slot))

/-- RTSET (R240). -/
def execRtset (xs1 : Nat) (s : State) : Result :=
  let va := (rx s xs1).toNat
  if routing s then .next (stall s)
  else if va % 64 ≠ 0 then .next (trapSelf s 3 0 0 0 (toWord va))
  else
    match loadWords va 16 s with
    | (s, .error (f, a)) => .next (trapAccess s f 0 0 a)
    | (s, .ok vs) => .next (retire (withHart s fun h => { h with rdesc := routeFields (BitVec.ofNat 1024 (packBits 64 vs)) }) 4)

def execRtgo (xd : Nat) (s : State) : Result := launchRoute false xd s

def execRtcomb (xd : Nat) (s : State) : Result := launchRoute true xd s

/-- The fault of an operation found by an rtwait (R241): a trap the first time, then the operation runs again. -/
def routeFault (op : RouteOp) (s : State) : State :=
  if op.reported then
    stall (schedule (setRoute { op with st := .running, reported := false } s) (.routingOperationEnd s.hart.slot))
  else
    trapAccess (setRoute { op with reported := true } s) { cause := op.cause, sub := op.sub, po := op.po } op.acc op.elem op.addr

/-- RTWAIT (R241): the join of the operation, its drop count and its flags. -/
def execRtwait (xd : Nat) (s : State) : Result :=
  match s.hart.rop with
  | none => finish xd 0 s
  | some op =>
    match op.st with
    | .running => .next (stall s)
    | .faulted => .next (routeFault op s)
    | .done =>
      let s := withHart (setRoute { op with flags := 0 } s) fun h => { h with fpctl := h.fpctl ||| op.flags }
      finish xd (toWord (op.drops + bit op.rerr * 2 ^ 32)) (joinEngine s 4 op.num)

/-- RTDROP (R242). -/
def execRtdrop (xd xs1 : Nat) (s : State) : Result :=
  if routing s then .next (stall s)
  else
    match s.hart.rdisp with
    | none => finish xd (if xs1 = 0 then 0 else -1) s
    | some op =>
      if op.st ≠ .done then finish xd (-1) s
      else if xs1 = 0 then finish xd (toWord op.drops) s
      else
        let i := (rx s xs1).toNat
        if op.drops ≤ i then finish xd (-1) s
        else
          let a := rtDropa op.desc + 8 * i
          match load a 8 1 s with
          | (s, .error f) => .next (trapAccess s f 0 0 a)
          | (s, .ok v) => finish xd (toWord v) s

end Sys2Proof.Machine
end

