-- ==== Sys2Proof/Machine/Shape.lean ====
section
/-!
DEFINITION. The meanings of the configuration forms (R174 to R181): shape, type, granted length, offsets, adjacency, and the repeat
frame.
-/

namespace Sys2Proof.Machine

/-- A configuration form (R174): the old value to xd; with a source register, the new value, unless the entry refuses it. -/
def configForm (xd xs1 : Nat) (old : Word) (legal : Word → Bool) (write : Hart → Word → Hart) (s : State) : Result :=
  if xs1 = 0 then finish xd old s
  else if legal (rx s xs1) then finish xd old (withHart s fun h => write h (rx s xs1))
  else .next (illegalOperand s)

def execBshape (xd xs1 : Nat) (s : State) : Result :=
  configForm xd xs1 s.hart.bshape shapeLegal (fun h v => reshape h (v &&& shapeMask) h.vtype) s

def execVtype (xd xs1 : Nat) (s : State) : Result :=
  configForm xd xs1 s.hart.vtype typeLegal (fun h v => reshape h h.bshape (v &&& 15)) s

def execSetofs (xd xs1 n : Nat) (s : State) : Result :=
  configForm xd xs1 ((vget s.hart.offs n 0).setWidth 64) (fun _ => true) (fun h v => { h with offs := vset h.offs n (v.setWidth 12) }) s

/-- The values of an adjacency entry that ADJ takes (R21, R176). -/
def adjLegal (v : Word) : Bool := decide (adjKind v < 8) && !(adjKind v == 7 && bitsOf v 8 1 == 1)

def execAdj (xd xs1 reg face : Nat) (s : State) : Result :=
  configForm xd xs1 (vget s.hart.adj (6 * reg + face) 0) adjLegal
    (fun h v => { h with adj := vset h.adj (6 * reg + face) (v &&& adjMask) }) s

/-- VLCAP (R177): the lesser of the start record's ceiling and the power cap of the core. -/
def vlcap (s : State) : Nat := min s.hart.vlmax s.core.vcap

/-- The length vlset grants (R177). -/
def grant (s : State) (want : Nat) : Nat :=
  min want (min s.hart.maxvl (vlcap s) / (shapeY s.hart.bshape * shapeZ s.hart.bshape))

def execVlset (xd xs1 : Nat) (s : State) : Result :=
  let g := grant s (rx s xs1).toNat
  finish xd (toWord g)
    (if g = 0 then s else withHart s fun h => reshape h (toWord (setField h.bshape.toNat 0 14 g)) h.vtype)

/-! LAP (R178 to R181). -/

/-- The words of a frame of `n` instructions from an address (R179, first): the fetch fault with its address, or the words. -/
def fetchFrame (va : Word) : Nat → State → State × Except (AccFault × Word) (List (Nat × Option Nat))
  | 0, s => (s, .ok [])
  | n + 1, s =>
    match fetchWord s va with
    | (s, .error f) => (s, .error (f, va))
    | (s, .ok w) =>
      if isOfs w then
        match fetchWord s (va + 4) with
        | (s, .error f) => (s, .error (f, va + 4))
        | (s, .ok w2) =>
          match fetchFrame (va + 8) n s with
          | (s, .error e) => (s, .error e)
          | (s, .ok ws) => (s, .ok ((w, some w2) :: ws))
      else
        match fetchFrame (va + 4) n s with
        | (s, .error e) => (s, .error e)
        | (s, .ok ws) => (s, .ok ((w, none) :: ws))

/-- Whether a word belongs to the majors a frame may hold. -/
def frameMajor (w : Nat) : Bool := decide (16 ≤ field w 26 6) && decide (field w 26 6 ≤ 28)

/-- Whether a frame instruction may stand in a frame (R179, second). -/
def frameLegal (p : Nat × Option Nat) : Bool :=
  match p.2 with
  | none => frameMajor p.1 && (decodePair p.1 0).isOk
  | some w2 => frameMajor w2 && (decodePair p.1 w2).isOk

/-- Bytes of a frame. -/
def frameBytes (fr : List (Nat × Option Nat)) : Nat := (fr.map fun p => if p.2.isSome then 8 else 4).foldl (· + ·) 0

/-- The trap of an offending frame word (R179). -/
def frameTrap (p : Nat × Option Nat) (s : State) : State :=
  takeTrap s { cause := 1, rpc := s.hart.pc, w1 := p.1, w2 := p.2.getD 0, pair := p.2.isSome }

/-- The trap of a frame word whose fetch faults: at the LAP, with the address of the word (R179). -/
def frameFetchFault (f : AccFault) (va : Word) (s : State) : State :=
  takeTrap s { cause := f.cause, sub := f.sub, acc := 2, fetch := true, addr := va, po := f.po, rpc := s.hart.pc, w1 := s.hart.ir1 }

/-- The state of a frame that starts (R178, R181). -/
def newLap (s : State) (fr : List (Nat × Option Nat)) (count : Nat) (op : Word) : Lap where
  frame := fr
  base := s.hart.pc + 4
  count := count
  sd := signed 5 (bitsOf op 0 5)
  s1 := signed 5 (bitsOf op 8 5)
  s2 := signed 5 (bitsOf op 16 5)
  k := 0
  idx := 0

/-- Whether every brick field stays in 0 to 31 in every replay (R179): the fields move by equal steps, so the last replay decides. -/
def lapInRange (l : Lap) : Bool :=
  l.count == 0 || l.frame.all fun p => strideInRange l (l.count - 1) (p.2.getD p.1)

def execLap (xs1 xs2 : Nat) (s : State) : Result :=
  let op := rx s xs2
  let count := (rx s xs1).toNat
  match fetchFrame (s.hart.pc + 4) (bitsOf op 24 4 + 1) s with
  | (s, .error (f, va)) => .next (frameFetchFault f va s)
  | (s, .ok fr) =>
    match fr.find? fun p => !frameLegal p with
    | some p => .next (frameTrap p s)
    | none =>
      let l := newLap s fr count op
      if 65536 < count then .next (illegalOperand s)
      else if !lapInRange l then .next (illegalOperand s)
      else
        .next (withHart (retireTo s (s.hart.pc + 4 + toWord (frameBytes fr))) fun h =>
          { h with lap := if count = 0 then none else some l })

end Sys2Proof.Machine
end

