-- ==== Sys2Proof/Machine/Dispatch.lean ====
section
/-!
DEFINITION. The meaning of each instruction and of each row without a word, one arm each.
-/

namespace Sys2Proof.Machine

def exec (i : Instr) (s : State) : Host.Outcome State Fault Refusal :=
  match i with
  | .add xd xs1 xs2 => Sys2Proof.Machine.execAdd xd xs1 xs2 s
  | .sub xd xs1 xs2 => Sys2Proof.Machine.execSub xd xs1 xs2 s
  | .and xd xs1 xs2 => Sys2Proof.Machine.execAnd xd xs1 xs2 s
  | .or xd xs1 xs2 => Sys2Proof.Machine.execOr xd xs1 xs2 s
  | .xor xd xs1 xs2 => Sys2Proof.Machine.execXor xd xs1 xs2 s
  | .sll xd xs1 xs2 => Sys2Proof.Machine.execSll xd xs1 xs2 s
  | .srl xd xs1 xs2 => Sys2Proof.Machine.execSrl xd xs1 xs2 s
  | .sra xd xs1 xs2 => Sys2Proof.Machine.execSra xd xs1 xs2 s
  | .slt xd xs1 xs2 => Sys2Proof.Machine.execSlt xd xs1 xs2 s
  | .sltZ xd xs1 xs2 => Sys2Proof.Machine.execSltZ xd xs1 xs2 s
  | .min xd xs1 xs2 => Sys2Proof.Machine.execMin xd xs1 xs2 s
  | .max xd xs1 xs2 => Sys2Proof.Machine.execMax xd xs1 xs2 s
  | .minZ xd xs1 xs2 => Sys2Proof.Machine.execMinZ xd xs1 xs2 s
  | .maxZ xd xs1 xs2 => Sys2Proof.Machine.execMaxZ xd xs1 xs2 s
  | .clz xd xs1 => Sys2Proof.Machine.execClz xd xs1 s
  | .popc xd xs1 => Sys2Proof.Machine.execPopc xd xs1 s
  | .sel xd xs1 xs2 => Sys2Proof.Machine.execSel xd xs1 xs2 s
  | .mul xd xs1 xs2 => Sys2Proof.Machine.execMul xd xs1 xs2 s
  | .mulh xd xs1 xs2 => Sys2Proof.Machine.execMulh xd xs1 xs2 s
  | .mulhZ xd xs1 xs2 => Sys2Proof.Machine.execMulhZ xd xs1 xs2 s
  | .div xd xs1 xs2 => Sys2Proof.Machine.execDiv xd xs1 xs2 s
  | .divZ xd xs1 xs2 => Sys2Proof.Machine.execDivZ xd xs1 xs2 s
  | .rem xd xs1 xs2 => Sys2Proof.Machine.execRem xd xs1 xs2 s
  | .remZ xd xs1 xs2 => Sys2Proof.Machine.execRemZ xd xs1 xs2 s
  | .addi xd xs1 imm => Sys2Proof.Machine.execAddi xd xs1 imm s
  | .andi xd xs1 imm => Sys2Proof.Machine.execAndi xd xs1 imm s
  | .ori xd xs1 imm => Sys2Proof.Machine.execOri xd xs1 imm s
  | .xori xd xs1 imm => Sys2Proof.Machine.execXori xd xs1 imm s
  | .slli xd xs1 amt => Sys2Proof.Machine.execSlli xd xs1 amt s
  | .srli xd xs1 amt => Sys2Proof.Machine.execSrli xd xs1 amt s
  | .srai xd xs1 amt => Sys2Proof.Machine.execSrai xd xs1 amt s
  | .slti xd xs1 imm => Sys2Proof.Machine.execSlti xd xs1 imm s
  | .lui xd imm => Sys2Proof.Machine.execLui xd imm s
  | .addpc xd imm => Sys2Proof.Machine.execAddpc xd imm s
  | .ldsS8 xd xs1 imm => Sys2Proof.Machine.execLdsS8 xd xs1 imm s
  | .ldsZ8 xd xs1 imm => Sys2Proof.Machine.execLdsZ8 xd xs1 imm s
  | .ldsS16 xd xs1 imm => Sys2Proof.Machine.execLdsS16 xd xs1 imm s
  | .ldsZ16 xd xs1 imm => Sys2Proof.Machine.execLdsZ16 xd xs1 imm s
  | .ldsS32 xd xs1 imm => Sys2Proof.Machine.execLdsS32 xd xs1 imm s
  | .ldsZ32 xd xs1 imm => Sys2Proof.Machine.execLdsZ32 xd xs1 imm s
  | .ldsZ64 xd xs1 imm => Sys2Proof.Machine.execLdsZ64 xd xs1 imm s
  | .stsZ8 xd xs1 imm => Sys2Proof.Machine.execStsZ8 xd xs1 imm s
  | .stsZ16 xd xs1 imm => Sys2Proof.Machine.execStsZ16 xd xs1 imm s
  | .stsZ32 xd xs1 imm => Sys2Proof.Machine.execStsZ32 xd xs1 imm s
  | .stsZ64 xd xs1 imm => Sys2Proof.Machine.execStsZ64 xd xs1 imm s
  | .beq xs1 xs2 off => Sys2Proof.Machine.execBeq xs1 xs2 off s
  | .bne xs1 xs2 off => Sys2Proof.Machine.execBne xs1 xs2 off s
  | .blt xs1 xs2 off => Sys2Proof.Machine.execBlt xs1 xs2 off s
  | .bge xs1 xs2 off => Sys2Proof.Machine.execBge xs1 xs2 off s
  | .bltZ xs1 xs2 off => Sys2Proof.Machine.execBltZ xs1 xs2 off s
  | .bgeZ xs1 xs2 off => Sys2Proof.Machine.execBgeZ xs1 xs2 off s
  | .jal xd off => Sys2Proof.Machine.execJal xd off s
  | .jalr xd xs1 imm => Sys2Proof.Machine.execJalr xd xs1 imm s
  | .csrrw xd xs1 csr => Sys2Proof.Machine.execCsrrw xd xs1 csr s
  | .csrrs xd xs1 csr => Sys2Proof.Machine.execCsrrs xd xs1 csr s
  | .csrrc xd xs1 csr => Sys2Proof.Machine.execCsrrc xd xs1 csr s
  | .vadd vd vs1 vs2 m o c1 c2 => Sys2Proof.Machine.execVadd vd vs1 vs2 m o c1 c2 s
  | .vsub vd vs1 vs2 m o c1 c2 => Sys2Proof.Machine.execVsub vd vs1 vs2 m o c1 c2 s
  | .vmul vd vs1 vs2 m o c1 c2 => Sys2Proof.Machine.execVmul vd vs1 vs2 m o c1 c2 s
  | .vmulh vd vs1 vs2 m o c1 c2 => Sys2Proof.Machine.execVmulh vd vs1 vs2 m o c1 c2 s
  | .vmin vd vs1 vs2 m o c1 c2 => Sys2Proof.Machine.execVmin vd vs1 vs2 m o c1 c2 s
  | .vmax vd vs1 vs2 m o c1 c2 => Sys2Proof.Machine.execVmax vd vs1 vs2 m o c1 c2 s
  | .vaddSat vd vs1 vs2 m o c1 c2 => Sys2Proof.Machine.execVaddSat vd vs1 vs2 m o c1 c2 s
  | .vsubSat vd vs1 vs2 m o c1 c2 => Sys2Proof.Machine.execVsubSat vd vs1 vs2 m o c1 c2 s
  | .vand vd vs1 vs2 m o c1 c2 => Sys2Proof.Machine.execVand vd vs1 vs2 m o c1 c2 s
  | .vor vd vs1 vs2 m o c1 c2 => Sys2Proof.Machine.execVor vd vs1 vs2 m o c1 c2 s
  | .vxor vd vs1 vs2 m o c1 c2 => Sys2Proof.Machine.execVxor vd vs1 vs2 m o c1 c2 s
  | .vsll vd vs1 vs2 m o c1 c2 => Sys2Proof.Machine.execVsll vd vs1 vs2 m o c1 c2 s
  | .vsrl vd vs1 vs2 m o c1 c2 => Sys2Proof.Machine.execVsrl vd vs1 vs2 m o c1 c2 s
  | .vsra vd vs1 vs2 m o c1 c2 => Sys2Proof.Machine.execVsra vd vs1 vs2 m o c1 c2 s
  | .vmulSat vd vs1 vs2 m o c1 c2 => Sys2Proof.Machine.execVmulSat vd vs1 vs2 m o c1 c2 s
  | .vsel vd vs1 vs2 m o c1 c2 => Sys2Proof.Machine.execVsel vd vs1 vs2 m o c1 c2 s
  | .vfadd vd vs1 vs2 m rm c1 c2 => Sys2Proof.Machine.execVfadd vd vs1 vs2 m rm c1 c2 s
  | .vfsub vd vs1 vs2 m rm c1 c2 => Sys2Proof.Machine.execVfsub vd vs1 vs2 m rm c1 c2 s
  | .vfmul vd vs1 vs2 m rm c1 c2 => Sys2Proof.Machine.execVfmul vd vs1 vs2 m rm c1 c2 s
  | .vfdiv vd vs1 vs2 m rm c1 c2 => Sys2Proof.Machine.execVfdiv vd vs1 vs2 m rm c1 c2 s
  | .vfsqrt vd vs1 m rm c1 => Sys2Proof.Machine.execVfsqrt vd vs1 m rm c1 s
  | .vfmin vd vs1 vs2 m c1 c2 => Sys2Proof.Machine.execVfmin vd vs1 vs2 m c1 c2 s
  | .vfmax vd vs1 vs2 m c1 c2 => Sys2Proof.Machine.execVfmax vd vs1 vs2 m c1 c2 s
  | .vfabs vd vs1 m c1 => Sys2Proof.Machine.execVfabs vd vs1 m c1 s
  | .vfma vd vs1 vs2 m rm c1 c2 => Sys2Proof.Machine.execVfma vd vs1 vs2 m rm c1 c2 s
  | .vfms vd vs1 vs2 m rm c1 c2 => Sys2Proof.Machine.execVfms vd vs1 vs2 m rm c1 c2 s
  | .vfnma vd vs1 vs2 m rm c1 c2 => Sys2Proof.Machine.execVfnma vd vs1 vs2 m rm c1 c2 s
  | .vfnms vd vs1 vs2 m rm c1 c2 => Sys2Proof.Machine.execVfnms vd vs1 vs2 m rm c1 c2 s
  | .vceq md vs1 vs2 m o c1 c2 => Sys2Proof.Machine.execVceq md vs1 vs2 m o c1 c2 s
  | .vcne md vs1 vs2 m o c1 c2 => Sys2Proof.Machine.execVcne md vs1 vs2 m o c1 c2 s
  | .vclt md vs1 vs2 m o c1 c2 => Sys2Proof.Machine.execVclt md vs1 vs2 m o c1 c2 s
  | .vcle md vs1 vs2 m o c1 c2 => Sys2Proof.Machine.execVcle md vs1 vs2 m o c1 c2 s
  | .vcun md vs1 vs2 m o c1 c2 => Sys2Proof.Machine.execVcun md vs1 vs2 m o c1 c2 s
  | .vmand md ms1 ms2 m => Sys2Proof.Machine.execVmand md ms1 ms2 m s
  | .vmor md ms1 ms2 m => Sys2Proof.Machine.execVmor md ms1 ms2 m s
  | .vmxor md ms1 ms2 m => Sys2Proof.Machine.execVmxor md ms1 ms2 m s
  | .vmandn md ms1 ms2 m => Sys2Proof.Machine.execVmandn md ms1 ms2 m s
  | .vmnot md ms1 m => Sys2Proof.Machine.execVmnot md ms1 m s
  | .vmpopc md ms1 m => Sys2Proof.Machine.execVmpopc md ms1 m s
  | .vmfirst md ms1 m => Sys2Proof.Machine.execVmfirst md ms1 m s
  | .vcvt vd vs1 code m rm c1 => Sys2Proof.Machine.execVcvt vd vs1 code m rm c1 s
  | .vcvtSat vd vs1 code m rm c1 => Sys2Proof.Machine.execVcvtSat vd vs1 code m rm c1 s
  | .vunpk vd vs1 code m rm c1 => Sys2Proof.Machine.execVunpk vd vs1 code m rm c1 s
  | .vpack vd vs1 code m rm c1 => Sys2Proof.Machine.execVpack vd vs1 code m rm c1 s
  | .vrsum vd vs1 axis m rm c1 => Sys2Proof.Machine.execVrsum vd vs1 axis m rm c1 s
  | .vrmin vd vs1 axis m c1 => Sys2Proof.Machine.execVrmin vd vs1 axis m c1 s
  | .vrmax vd vs1 axis m c1 => Sys2Proof.Machine.execVrmax vd vs1 axis m c1 s
  | .vrand vd vs1 axis m c1 => Sys2Proof.Machine.execVrand vd vs1 axis m c1 s
  | .vror vd vs1 axis m c1 => Sys2Proof.Machine.execVror vd vs1 axis m c1 s
  | .vrxor vd vs1 axis m c1 => Sys2Proof.Machine.execVrxor vd vs1 axis m c1 s
  | .vaddx vd vs1 xs m c1 sel => Sys2Proof.Machine.execVaddx vd vs1 xs m c1 sel s
  | .vsubx vd vs1 xs m c1 sel => Sys2Proof.Machine.execVsubx vd vs1 xs m c1 sel s
  | .vmulx vd vs1 xs m c1 sel => Sys2Proof.Machine.execVmulx vd vs1 xs m c1 sel s
  | .vminx vd vs1 xs m c1 sel => Sys2Proof.Machine.execVminx vd vs1 xs m c1 sel s
  | .vmaxx vd vs1 xs m c1 sel => Sys2Proof.Machine.execVmaxx vd vs1 xs m c1 sel s
  | .vsllx vd vs1 xs m c1 sel => Sys2Proof.Machine.execVsllx vd vs1 xs m c1 sel s
  | .vsrlx vd vs1 xs m c1 sel => Sys2Proof.Machine.execVsrlx vd vs1 xs m c1 sel s
  | .vsrax vd vs1 xs m c1 sel => Sys2Proof.Machine.execVsrax vd vs1 xs m c1 sel s
  | .vfaddx vd vs1 xs m rm c1 => Sys2Proof.Machine.execVfaddx vd vs1 xs m rm c1 s
  | .vfsubx vd vs1 xs m rm c1 => Sys2Proof.Machine.execVfsubx vd vs1 xs m rm c1 s
  | .vfmulx vd vs1 xs m rm c1 => Sys2Proof.Machine.execVfmulx vd vs1 xs m rm c1 s
  | .vfdivx vd vs1 xs m rm c1 => Sys2Proof.Machine.execVfdivx vd vs1 xs m rm c1 s
  | .vfmaxPropagating vd vs1 xs m c1 => Sys2Proof.Machine.execVfmaxPropagating vd vs1 xs m c1 s
  | .vfminx vd vs1 xs m c1 => Sys2Proof.Machine.execVfminx vd vs1 xs m c1 s
  | .vfmaxx vd vs1 xs m c1 => Sys2Proof.Machine.execVfmaxx vd vs1 xs m c1 s
  | .vfrsubx vd vs1 xs m rm c1 => Sys2Proof.Machine.execVfrsubx vd vs1 xs m rm c1 s
  | .vceqx md vs1 xs m c1 sel => Sys2Proof.Machine.execVceqx md vs1 xs m c1 sel s
  | .vcnex md vs1 xs m c1 sel => Sys2Proof.Machine.execVcnex md vs1 xs m c1 sel s
  | .vcltx md vs1 xs m c1 sel => Sys2Proof.Machine.execVcltx md vs1 xs m c1 sel s
  | .vclex md vs1 xs m c1 sel => Sys2Proof.Machine.execVclex md vs1 xs m c1 sel s
  | .vcgtx md vs1 xs m c1 sel => Sys2Proof.Machine.execVcgtx md vs1 xs m c1 sel s
  | .vcgex md vs1 xs m c1 sel => Sys2Proof.Machine.execVcgex md vs1 xs m c1 sel s
  | .vmovx vd xs m sel => Sys2Proof.Machine.execVmovx vd xs m sel s
  | .vextx vd vs1 xs m c1 => Sys2Proof.Machine.execVextx vd vs1 xs m c1 s
  | .vcoordX vd xs m sel => Sys2Proof.Machine.execVcoordX vd xs m sel s
  | .vcoordY vd xs m sel => Sys2Proof.Machine.execVcoordY vd xs m sel s
  | .vcoordZ vd xs m sel => Sys2Proof.Machine.execVcoordZ vd xs m sel s
  | .vtrxy vd vs1 m c1 => Sys2Proof.Machine.execVtrxy vd vs1 m c1 s
  | .vslide vd vs1 amt m axis c1 => Sys2Proof.Machine.execVslide vd vs1 amt m axis c1 s
  | .vrot vd vs1 amt m axis c1 => Sys2Proof.Machine.execVrot vd vs1 amt m axis c1 s
  | .vgidx vd vs1 vs2 m c1 c2 => Sys2Proof.Machine.execVgidx vd vs1 vs2 m c1 c2 s
  | .bshape xd xs1 => Sys2Proof.Machine.execBshape xd xs1 s
  | .vtype xd xs1 => Sys2Proof.Machine.execVtype xd xs1 s
  | .vlset xd xs1 => Sys2Proof.Machine.execVlset xd xs1 s
  | .lap xs1 xs2 => Sys2Proof.Machine.execLap xs1 xs2 s
  | .setofs xd xs1 n => Sys2Proof.Machine.execSetofs xd xs1 n s
  | .adj xd xs1 reg face => Sys2Proof.Machine.execAdj xd xs1 reg face s
  | .sset xs1 n => Sys2Proof.Machine.execSset xs1 n s
  | .sget xs1 n => Sys2Proof.Machine.execSget xs1 n s
  | .sbase xd xs1 n => Sys2Proof.Machine.execSbase xd xs1 n s
  | .vld vd sn m c => Sys2Proof.Machine.execVld vd sn m c s
  | .vldAdv vd sn m c => Sys2Proof.Machine.execVldAdv vd sn m c s
  | .vst vd sn m c => Sys2Proof.Machine.execVst vd sn m c s
  | .vstAdv vd sn m c => Sys2Proof.Machine.execVstAdv vd sn m c s
  | .vgath vd sn m mode vi c => Sys2Proof.Machine.execVgath vd sn m mode vi c s
  | .vscat vd sn m mode vi c => Sys2Proof.Machine.execVscat vd sn m mode vi c s
  | .spld vd m vi c => Sys2Proof.Machine.execSpld vd m vi c s
  | .spst vd m vi c => Sys2Proof.Machine.execSpst vd m vi c s
  | .atomAld d xs1 b scope acq rel v w => Sys2Proof.Machine.execAtomAld d xs1 b scope acq rel v w s
  | .atomAadd d xs1 b scope acq rel v w => Sys2Proof.Machine.execAtomAadd d xs1 b scope acq rel v w s
  | .atomAmin d xs1 b scope acq rel v w => Sys2Proof.Machine.execAtomAmin d xs1 b scope acq rel v w s
  | .atomAmax d xs1 b scope acq rel v w => Sys2Proof.Machine.execAtomAmax d xs1 b scope acq rel v w s
  | .atomAminZ d xs1 b scope acq rel v w => Sys2Proof.Machine.execAtomAminZ d xs1 b scope acq rel v w s
  | .atomAmaxZ d xs1 b scope acq rel v w => Sys2Proof.Machine.execAtomAmaxZ d xs1 b scope acq rel v w s
  | .atomAand d xs1 b scope acq rel v w => Sys2Proof.Machine.execAtomAand d xs1 b scope acq rel v w s
  | .atomAor d xs1 b scope acq rel v w => Sys2Proof.Machine.execAtomAor d xs1 b scope acq rel v w s
  | .atomAxor d xs1 b scope acq rel v w => Sys2Proof.Machine.execAtomAxor d xs1 b scope acq rel v w s
  | .atomSwap d xs1 b scope acq rel v w => Sys2Proof.Machine.execAtomSwap d xs1 b scope acq rel v w s
  | .atomCas d xs1 b scope acq rel v w => Sys2Proof.Machine.execAtomCas d xs1 b scope acq rel v w s
  | .atomFadd d xs1 b scope acq rel v w => Sys2Proof.Machine.execAtomFadd d xs1 b scope acq rel v w s
  | .atomAst d xs1 b scope acq rel v w => Sys2Proof.Machine.execAtomAst d xs1 b scope acq rel v w s
  | .phase scope => Sys2Proof.Machine.execPhase scope s
  | .bar xs1 xs2 scope => Sys2Proof.Machine.execBar xs1 xs2 scope s
  | .fenceAlias => Sys2Proof.Machine.execFenceAlias s
  | .palloc xd xs1 => Sys2Proof.Machine.execPalloc xd xs1 s
  | .pst xs1 xs2 => Sys2Proof.Machine.execPst xs1 xs2 s
  | .pld xd xs1 => Sys2Proof.Machine.execPld xd xs1 s
  | .post xd xs1 xs2 => Sys2Proof.Machine.execPost xd xs1 xs2 s
  | .accept xd => Sys2Proof.Machine.execAccept xd s
  | .pfree xs1 => Sys2Proof.Machine.execPfree xs1 s
  | .mset xd xs => Sys2Proof.Machine.execMset xd xs s
  | .mfmt code st => Sys2Proof.Machine.execMfmt code st s
  | .mclaim xd => Sys2Proof.Machine.execMclaim xd s
  | .mrel => Sys2Proof.Machine.execMrel s
  | .wld xs code sp xp tile => Sys2Proof.Machine.execWld xs code sp xp tile s
  | .wswap => Sys2Proof.Machine.execWswap s
  | .mrow vb acc xs c st => Sys2Proof.Machine.execMrow vb acc xs c st s
  | .azero acc => Sys2Proof.Machine.execAzero acc s
  | .ald acc xs xp => Sys2Proof.Machine.execAld acc xs xp s
  | .ast acc xs xp ety tr => Sys2Proof.Machine.execAst acc xs xp ety tr s
  | .cpset xs1 ch => Sys2Proof.Machine.execCpset xs1 ch s
  | .cplaunch xd ch => Sys2Proof.Machine.execCplaunch xd ch s
  | .cpwait xd xs1 ch => Sys2Proof.Machine.execCpwait xd xs1 ch s
  | .cpstat xd xs1 ch => Sys2Proof.Machine.execCpstat xd xs1 ch s
  | .rtset xs1 => Sys2Proof.Machine.execRtset xs1 s
  | .rtgo xd => Sys2Proof.Machine.execRtgo xd s
  | .rtcomb xd => Sys2Proof.Machine.execRtcomb xd s
  | .rtwait xd => Sys2Proof.Machine.execRtwait xd s
  | .rtdrop xd xs1 => Sys2Proof.Machine.execRtdrop xd xs1 s
  | .taskadd xd xs1 => Sys2Proof.Machine.execTaskadd xd xs1 s
  | .taskget xd xs1 => Sys2Proof.Machine.execTaskget xd xs1 s
  | .taskdone xd xs1 xs2 => Sys2Proof.Machine.execTaskdone xd xs1 xs2 s
  | .graphgo xd xs1 => Sys2Proof.Machine.execGraphgo xd xs1 s
  | .qpost xd xs1 xs2 => Sys2Proof.Machine.execQpost xd xs1 xs2 s
  | .qtake xd xs1 xs2 => Sys2Proof.Machine.execQtake xd xs1 xs2 s
  | .nlsend vb xs1 xs2 side => Sys2Proof.Machine.execNlsend vb xs1 xs2 side s
  | .nlrecv vb xs1 xs2 side => Sys2Proof.Machine.execNlrecv vb xs1 xs2 side s
  | .wait xd xs1 => Sys2Proof.Machine.execWait xd xs1 s
  | .notify xd xs1 => Sys2Proof.Machine.execNotify xd xs1 s
  | .nret => Sys2Proof.Machine.execNret s
  | .setdl xd xs1 xs2 => Sys2Proof.Machine.execSetdl xd xs1 xs2 s
  | .ecall => Sys2Proof.Machine.execEcall s
  | .ebreak => Sys2Proof.Machine.execEbreak s
  | .trapret => Sys2Proof.Machine.execTrapret s
  | .tlbinv xs1 xs2 => Sys2Proof.Machine.execTlbinv xs1 xs2 s
  | .halt => Sys2Proof.Machine.execHalt s
  | .yield xs1 => Sys2Proof.Machine.execYield xs1 s
  | .perf xd xs1 => Sys2Proof.Machine.execPerf xd xs1 s
  | .lanemap xd xs1 xs2 => Sys2Proof.Machine.execLanemap xd xs1 xs2 s
  | .ofs dx1 dy1 dz1 dx2 dy2 dz2 ovr w2 => Sys2Proof.Machine.execOfs dx1 dy1 dz1 dx2 dy2 dz2 ovr w2 s
  | .illegalInstruction w1 w2 pair => Sys2Proof.Machine.execIllegalInstruction w1 w2 pair s
  | .trap cause sub acc elem addr => Sys2Proof.Machine.execTrap cause sub acc elem addr s
  | .elementGroupCommit => Sys2Proof.Machine.execElementGroupCommit s
  | .notification => Sys2Proof.Machine.execNotification s
  | .late h => Sys2Proof.Machine.execLate h s
  | .publicationComplete h => Sys2Proof.Machine.execPublicationComplete h s
  | .barrierComplete scope inst id => Sys2Proof.Machine.execBarrierComplete scope inst id s
  | .pacerTranslate h sn => Sys2Proof.Machine.execPacerTranslate h sn s
  | .copyComplete h ch => Sys2Proof.Machine.execCopyComplete h ch s
  | .copyFault h ch => Sys2Proof.Machine.execCopyFault h ch s
  | .routingOperationEnd h => Sys2Proof.Machine.execRoutingOperationEnd h s
  | .routingFault h => Sys2Proof.Machine.execRoutingFault h s
  | .tileLatch h => Sys2Proof.Machine.execTileLatch h s
  | .neighbourRowArrival core side idx len data => Sys2Proof.Machine.execNeighbourRowArrival core side idx len data s
  | .graphNode die g => Sys2Proof.Machine.execGraphNode die g s
  | .parcelConfirm handle => Sys2Proof.Machine.execParcelConfirm handle s
  | .parcelDeliveryFail handle sub => Sys2Proof.Machine.execParcelDeliveryFail handle sub s
  | .retrainAttemptEnd port wl ok => Sys2Proof.Machine.execRetrainAttemptEnd port wl ok s
  | .linkUp port => Sys2Proof.Machine.execLinkUp port s
  | .moveEnded slot => Sys2Proof.Machine.execMoveEnded slot s
  | .pinExpiry frame => Sys2Proof.Machine.execPinExpiry frame s
  | .hostQueueTake q => Sys2Proof.Machine.execHostQueueTake q s
  | .contextSaved die slot => Sys2Proof.Machine.execContextSaved die slot s
  | .eventRecordWrite => Sys2Proof.Machine.execEventRecordWrite s
  | .hotnessFlush core => Sys2Proof.Machine.execHotnessFlush core s
  | .nearCacheEviction h line => Sys2Proof.Machine.execNearCacheEviction h line s
  | .shadowStallTimeout line => Sys2Proof.Machine.execShadowStallTimeout line s
  | .parcelConfirmTimeout handle => Sys2Proof.Machine.execParcelConfirmTimeout handle s
  | .receiverDiscard handle => Sys2Proof.Machine.execReceiverDiscard handle s
  | .packetService place => Sys2Proof.Machine.execPacketService place s
  | .packageDeadline id => Sys2Proof.Machine.execPackageDeadline id s
  | .fabricDeadline id => Sys2Proof.Machine.execFabricDeadline id s
  | .combineHoldExpiry slot => Sys2Proof.Machine.execCombineHoldExpiry slot s
  | .combinedReply slot old => Sys2Proof.Machine.execCombinedReply slot old s
  | .movedRefusal id => Sys2Proof.Machine.execMovedRefusal id s
  | .replyCacheExpiry id => Sys2Proof.Machine.execReplyCacheExpiry id s
  | .flitReceive port seq ack kidx ok => Sys2Proof.Machine.execFlitReceive port seq ack kidx ok s
  | .replayTimeout port => Sys2Proof.Machine.execReplayTimeout port s
  | .linkControlFlit port lane wl => Sys2Proof.Machine.execLinkControlFlit port lane wl s
  | .wavelengthDark port wl => Sys2Proof.Machine.execWavelengthDark port wl s
  | .laserLineLost l => Sys2Proof.Machine.execLaserLineLost l s
  | .retrainWindow port wl count => Sys2Proof.Machine.execRetrainWindow port wl count s
  | .lockDone port locked => Sys2Proof.Machine.execLockDone port locked s
  | .trainDone port trained => Sys2Proof.Machine.execTrainDone port trained s
  | .linkLock port => Sys2Proof.Machine.execLinkLock port s
  | .linkTrain port => Sys2Proof.Machine.execLinkTrain port s
  | .freePortPeer port peer => Sys2Proof.Machine.execFreePortPeer port peer s
  | .rekey port => Sys2Proof.Machine.execRekey port s
  | .relane port => Sys2Proof.Machine.execRelane port s
  | .txkey port key => Sys2Proof.Machine.execTxkey port key s
  | .rxkey port key => Sys2Proof.Machine.execRxkey port key s
  | .laserEnable l en => Sys2Proof.Machine.execLaserEnable l en s
  | .move slot frame => Sys2Proof.Machine.execMove slot frame s
  | .moveRelease slot => Sys2Proof.Machine.execMoveRelease slot s
  | .doorbell q v => Sys2Proof.Machine.execDoorbell q v s
  | .hqstatEnable q en => Sys2Proof.Machine.execHqstatEnable q en s
  | .hqstatStoppedClear q => Sys2Proof.Machine.execHqstatStoppedClear q s
  | .reqfree n => Sys2Proof.Machine.execReqfree n s
  | .taskkill asid => Sys2Proof.Machine.execTaskkill asid s
  | .start die slot => Sys2Proof.Machine.execStart die slot s
  | .restore die slot => Sys2Proof.Machine.execRestore die slot s
  | .preEmpt die slot => Sys2Proof.Machine.execPreEmpt die slot s
  | .evhead v => Sys2Proof.Machine.execEvhead v s
  | .evsz v => Sys2Proof.Machine.execEvsz v s
  | .arrivalQueue n v => Sys2Proof.Machine.execArrivalQueue n v s
  | .powerCap core v => Sys2Proof.Machine.execPowerCap core v s
  | .plim v => Sys2Proof.Machine.execPlim v s
  | .throttle die temp => Sys2Proof.Machine.execThrottle die temp s
  | .thermalTrip => Sys2Proof.Machine.execThermalTrip s
  | .powerLoss => Sys2Proof.Machine.execPowerLoss s
  | .boot straps version verified => Sys2Proof.Machine.execBoot straps version verified s
  | .freeze => Sys2Proof.Machine.execFreeze s
  | .bypass tdi => Sys2Proof.Machine.execBypass tdi s
  | .idcode => Sys2Proof.Machine.execIdcode s
  | .chain n => Sys2Proof.Machine.execChain n s
  | .attestationRequest nonce => Sys2Proof.Machine.execAttestationRequest nonce s
  | .rollbackRaise => Sys2Proof.Machine.execRollbackRaise s
  | .registerWrite off v => Sys2Proof.Machine.execRegisterWrite off v s
  | .hartRestart h => Sys2Proof.Machine.execHartRestart h s
  | .lightReturn port wl => Sys2Proof.Machine.execLightReturn port wl s
  | .hostWrite addr len v => Sys2Proof.Machine.execHostWrite addr len v s

end Sys2Proof.Machine
end

