-- ==== Sys2Proof/Machine/Registers.lean ====
section
/-!
DEFINITION. Reads of the module registers by the host and the management core (R3, R332, R333, R337, R339, R343, R367, R368, R372, R378, R393).
-/

namespace Sys2Proof.Machine

/-- A dword of module control (R332, R342, R318); REQFREE and TASKKILL are write-only. -/
def controlRead (r : Regs) (o : Nat) : Nat :=
  match o with
  | 0x00 => r.modid % 4096
  | 0x10 => r.evb.toNat
  | 0x18 => r.evsz
  | 0x20 => r.evhead.toNat
  | 0x28 => r.evtail.toNat
  | 0x40 => r.fatb.toNat
  | 0x48 => r.hotb.toNat
  | 0x50 => r.winb.toNat
  | 0x58 => r.ppool.toNat
  | 0x60 => r.ppoolsz.toNat
  | _ => 0

/-- A dword of a host queue's registers (R333): the doorbell is write-only. -/
def queueRead (x : HostQueue) (o : Nat) : Nat :=
  match o with
  | 0x00 => x.desc.toNat
  | 0x08 => x.pt.toNat
  | 0x18 => bit x.stopped * 2 + bit x.enable
  | _ => 0

/-- Dword `i` of a bind record (R339): the command is write-only. -/
def slotRead (x : Slot) (i : Nat) : Nat :=
  match i with
  | 0 => x.result % 256 * 2 ^ 40 + x.st % 16 * 2 ^ 28 + x.psize % 64 * 2 ^ 8
  | 1 => x.ctxid.toNat * 2 ^ 32 + x.src % 65536 * 2 ^ 16 + bit x.late * 2 ^ 15 + x.vlmax % 2 ^ 14
  | 2 => x.frame.toNat
  | 3 => x.tag.toNat
  | 4 => x.ptroot.toNat
  | 5 => x.dl.toNat
  | 6 => x.entry.toNat
  | _ => x.arg.toNat

/-- Dword `i` of an entry of the request area (R337). -/
def requestRead (r : Request) (i : Nat) : Nat :=
  if i < 8 then r.fields.getD (2 * i) 0 % 2 ^ 32 + r.fields.getD (2 * i + 1) 0 % 2 ^ 32 * 2 ^ 32
  else
    match i with
    | 8 => r.pt.toNat
    | 9 => r.src % 2 ^ 16 + r.gang % 16 * 2 ^ 16 + r.place % 4 * 2 ^ 20 + r.gid % 2 ^ 32 * 2 ^ 32
    | 10 => r.deadline.toNat
    | _ => 0

/-- LSTAT (R368): its bits 36 and 37 say that the spare of a transmit fibre carries a lane, its bits 38 and 39 that of a receive fibre. -/
def lstatWord (p : Port) : Nat :=
  p.sub % 256 * 2 ^ 48 + activeLanes p * 2 ^ 40 +
    (bit (laneOf p.lanes 8).isSome + bit (laneOf p.lanes 17).isSome * 2 + bit (laneOf p.rxLanes 8).isSome * 4 +
      bit (laneOf p.rxLanes 17).isSome * 8) * 2 ^ 36 + p.trained.toNat * 2 ^ 18 + p.locked.toNat

/-- Dword `i` of a port's registers (R367, R368): the keys are write-only. -/
def portRead (p : Port) (i : Nat) : Nat :=
  match i with
  | 0 => p.peer % 4096 * 2 ^ 16 + p.state % 8
  | 1 => lstatWord p
  | 2 => p.lmap.toNat
  | 3 => p.txctr % 2 ^ 64
  | _ => 0

/-- LASER (R368). -/
def laserRead (x : Laser) : Nat := bit x.dark * 4 + bit x.ok * 2 + bit x.en

/-- Dword `i` of a move slot (R372). -/
def moveRead (m : Move) (i : Nat) : Nat :=
  match i with
  | 0 => m.new % 2 ^ 40 * 2 ^ 16
  | 2 => m.old % 2 ^ 28 * 2 ^ 36 + m.status % 16 * 2 ^ 4
  | _ => 0

/-- A dword of the fabric's registers (R367). -/
def fabricRead (s : State) (o : Nat) : Nat :=
  if o = 0 then s.regs.errb.toNat
  else if o = 8 then s.regs.rthr.toNat
  else if o = 0x10 then s.regs.fpincnt.toNat
  else if 0x100 ≤ o ∧ o < 0x300 then field s.membership.toNat (64 * ((o - 0x100) / 8)) 64
  else if 0x10000 ≤ o ∧ o < 0x18000 then portRead (portOf s ((o - 0x10000) / 0x100)) (o % 0x100 / 8)
  else if 0x20000 ≤ o ∧ o < 0x20800 then (if o % 0x40 = 0 then laserRead (laserAt s ((o - 0x20000) / 0x40)) else 0)
  else if 0x30000 ≤ o ∧ o < 0x30200 then moveRead (tget s.moves ((o - 0x30000) / 0x20) {}) (o % 0x20 / 8)
  else 0

/-- A telemetry register (R378). -/
def telemetryRead (r : Regs) (o : Nat) : Nat :=
  match o with
  | 0x00 => r.plim
  | 0x08 => r.pwr % 65536
  | 0x10 => r.vin % 65536
  | 0x18 => r.cool % 2 ^ 32
  | 0x20 => r.throt.toNat
  | 0x28 => r.trans.toNat
  | 0x30 => r.last.toNat
  | 0x38 => r.lret % 65536
  | 0x40 => r.pret % 2 ^ 32
  | _ => if 0x100 ≤ o ∧ o < 0x100 + 8 * 42 then vget r.temps ((o - 0x100) / 8) 0 % 65536 else 0

/-- An arrival-queue register (R393). -/
def arrivalRead (s : State) (n : Nat) : Nat :=
  let q := tget s.arrq n {}
  bit q.en * 2 ^ 23 + arrivedIn s n % 128 * 2 ^ 16 + q.asid % 65536

/-- What a module that has not booted reports through the links, at every offset: its IDCODE, and the boot-failure status (R390; the places of the two
are a DESIGN CHOICE, log 100). -/
def unbootedStatus (r : Regs) : Nat := idcodeWord % 2 ^ 32 + bit r.bootFailed * 2 ^ 32

/-- The dword at an offset of the register window as the host and the management core read it: 0 where no table names it (R332). -/
def readRegister (s : State) (off : Nat) : Nat :=
  if !s.regs.booted then unbootedStatus s.regs
  else if off % 8 ≠ 0 then 0
  else if off < 0x10000 then controlRead s.regs off
  else if 0x100000 ≤ off ∧ off < 0x104000 then queueRead (hostQueue s ((off - 0x100000) / 0x100)) (off % 0x100)
  else if 0x1000000 ≤ off ∧ off < 0x10C0000 then slotRead (slotAt s ((off - 0x1000000) / 64)) (off % 64 / 8)
  else if 0x2000000 ≤ off ∧ off < 0x2020000 then
    match tfind s.reqs ((off - 0x2000000) / 128) with
    | some r => requestRead r (off % 128 / 8)
    | none => 0
  else if 0x3000000 ≤ off ∧ off < 0x3003000 then
    (coreAt s ((off - 0x3000000) / 8)).mcap % 4 * 2 ^ 16 + (coreAt s ((off - 0x3000000) / 8)).vcap % 2 ^ 14
  else if 0x4000000 ≤ off ∧ off < 0x4040000 then fabricRead s (off - 0x4000000)
  else if 0x5000000 ≤ off ∧ off < 0x5001000 then telemetryRead s.regs (off - 0x5000000)
  else if 0x6000000 ≤ off ∧ off < 0x6002000 then arrivalRead s ((off - 0x6000000) / 8)
  else 0

end Sys2Proof.Machine
end

