-- ==== Sys2Proof/Machine/Inputs.lean ====
section
/-!
DEFINITION. What comes from outside the module and has no row in the opcode table (log 99): errors that arrays and memory show (R383 to R387),
readings of sensors (R378, R379), the flash (R390), the fabric and other modules (R346, R371, R373, R374, R381), reads of registers (R332).
-/

namespace Sys2Proof.Machine

/-! Errors (R383 to R387). -/

/-- A transient error (R384): it counts, and nothing else happens. -/
def transientError (s : State) : State := withRegs s fun r => { r with trans := r.trans + 1 }

/-- An error found in an HBM4E location, by local address (R384, R386): a frame with an uncorrectable one, or with lasting correctable ones at three
locations, is retired. -/
def memoryError (s : State) (addr : Nat) (d : Defect) : State :=
  let pa := localPA s addr
  let f := addr / 65536
  match d with
  | .transient => transientError s
  | .corrected =>
    let seen := (addr :: tget s.frameErrors f []).dedup
    let s := countLasting { s with frameErrors := tset s.frameErrors f seen } pa (toWord pa) 0
    if 3 ≤ seen.length then retireFrame s f else s
  | .uncorrectable =>
    retireFrame (countLasting { s with badBytes := if s.badBytes.contains pa then s.badBytes else pa :: s.badBytes } pa (toWord pa) 0x100) f

/-- The thread whose state an uncorrectable error has destroyed ends without its end publication (R342, R345, R385). -/
def destroyThread (s : State) (h : Option Hart) : State :=
  match h with
  | some h => onSlot s h.slot fun s => endThread s 2 2
  | none => s

/-- What an uncorrectable error of an array does besides (R385): 3 the thread of the lane's partition ends, 4 the scratchpad byte traps when it
is read, by its physical lane, 5 the claimant ends; 1 and 2, home slices and near caches, are repaired, or where `lane` says that no spare row is
left the machine check is sent. -/
def destroyArray (s : State) (core array lane phys offset : Nat) : State :=
  match array with
  | 3 => destroyThread s ((coreHarts s core).find? fun h => decide (h.lbase ≤ lane) && decide (lane < h.lbase + h.psize))
  | 4 => onCore s core fun c => { c with badScratch := (16384 * phys + offset) :: c.badScratch }
  | 5 => destroyThread s ((coreHarts s core).find? fun h => (coreAt s core).claimant == some h.idx)
  | _ => if lane ≠ 0 then emitModule s 11 (toWord offset) 6 else s

/-- The physical lane that an error of a brick file or a scratchpad is in; none where no lane gives the logical one. -/
def errorLane (s : State) (core array lane : Nat) : Option Nat := if array = 3 ∨ array = 4 then physicalLane (coreAt s core) lane else some lane

/-- An error found in an array (R384 to R387). -/
def arrayError (s : State) (core array lane offset : Nat) (d : Defect) : State :=
  match errorLane s core array lane with
  | none => s
  | some p =>
    match d with
    | .transient => transientError s
    | .corrected => arrayLasting s core array p offset false
    | .uncorrectable => destroyArray (arrayLasting s core array p offset true) core array lane p offset

/-! Readings (R378, R379). -/

/-- Input power and voltage: power above the peak limit of 11,000 W trips. -/
def powerReading (s : State) (watts millivolts : Nat) : State :=
  if 11000 < watts then loseAll s else withRegs s fun r => { r with pwr := watts % 65536, vin := millivolts % 65536 }

/-- A sensor: 0 to 23 are those of the compute dies, 24 and 25 those of the fabric dies, which trip too (R378, R379). -/
def sensorReading (s : State) (t reading : Nat) : State :=
  if t < 24 then dieReading s t reading
  else if t < 26 ∧ trips reading then loseAll s
  else if t < 42 then withRegs s fun r => { r with temps := vset r.temps t (reading % 65536) }
  else s

/-- What an input does to a module whose clocks run. -/
def execInput (x : Input) (s : State) : State :=
  match x with
  | .request p => receiveRequest s p
  | .pathLost id => losePath s id
  | .delays ds => { s with delays := ds }
  | .tables m p => { s with peers := tset s.peers (m % 4096) p }
  | .lost m gone => { s with lost := if gone then s.lost ||| (1#4096 <<< (m % 4096)) else s.lost &&& ~~~(1#4096 <<< (m % 4096)) }
  | .laneMap port m => if 127 < port then s else peerLanes s port m
  | .pageIn old frame bytes times replies => receivePage s old frame bytes times replies
  | .frameReleased frame => frameReleased s frame
  | .memoryError addr d => memoryError s addr d
  | .arrayError core array lane offset d => arrayError s core array lane offset d
  | .powerReading w mv => powerReading s w mv
  | .coolantReading flow inlet => withRegs s fun r => { r with cool := flow % 65536 * 2 ^ 16 + inlet % 65536 }
  | .sensor t reading => sensorReading s t reading
  | .flash i => withRegs s fun r => { r with flash := i }
  | .readRegister off => withRegs s fun r => { r with readData := toWord (readRegister s off) }

/-- What an input does to a frozen module: its power stage still trips, and the flash can be written (R379, R388). -/
def frozenInput (x : Input) (s : State) : Option State :=
  match x with
  | .powerReading w _ => if 11000 < w then some (loseAll s) else some s
  | .sensor t reading => if t < 26 ∧ trips reading then some (loseAll s) else some s
  | .flash _ => some (execInput x s)
  | .lost _ _ => some (execInput x s)
  | .delays _ => some (execInput x s)
  | .tables _ _ => some (execInput x s)
  | _ => none

/-- What an input does to a module without power. -/
def unpoweredInput (x : Input) (s : State) : Option State :=
  match x with
  | .flash _ => some (execInput x s)
  | .lost _ _ => some (execInput x s)
  | .delays _ => some (execInput x s)
  | .tables _ _ => some (execInput x s)
  | _ => none

end Sys2Proof.Machine
end

