-- ==== Sys2Proof/Machine/Turn.lean ====
section
/-!
DEFINITION. What a step does around an instruction: the turn of a hart, of an engine, of the outside world (log 6). `run` is the
meaning of a row.
-/

namespace Sys2Proof.Machine

/-- The instruction a fetch found, with its words latched; an illegal word or a faulted fetch takes its trap (R118). -/
def runFetched (run : Instr → State → Result) (s : State) : Fetched → Result
  | .instr i w1 w2 pair => run i (latch s w1 w2 pair)
  | .illegal w1 w2 pair => run (.illegalInstruction w1 w2 (bit pair)) s
  | .fault f va w1 => .next (fetchFault s f va w1)

/-- The next instance of the frame that runs (R180). -/
def runInstance (run : Instr → State → Result) (s : State) (l : Lap) : Result :=
  let w := instanceWords l
  runFetched run s (classify w.1 (w.2.getD 0))

/-! Issue behind a held fault (R36, R37, R133 to R136; log 3). -/

/-- How many instructions at most issue behind a held fault before it strikes (log 3). -/
def behindLimit : Nat := 380

/-- The major code of an instruction, and of the instruction behind a prefix. -/
def majorOf (w1 w2 : Nat) : Nat := if isOfs w1 then field w2 26 6 else field w1 26 6

/-- Whether a younger instruction may need what an entry leaves in a mask or a scalar register (R135, R153). -/
def leavesScalar (e : Entry) : Bool :=
  let w := if e.pair then e.w2 else e.w1
  field w 26 6 == 0x14 || field w 26 6 == 0x15 || field w 26 6 == 0x1A || (field w 26 6 == 0x1B && field w 0 3 == 1)

/-- Whether shape and type stand as an entry captured them (R154). -/
def sameShape (h : Hart) (e : Entry) : Bool := e.cap.bshape == h.bshape && e.cap.vtype == h.vtype

/-- The word of an entry behind its prefix, and its major code. -/
def Entry.word (e : Entry) : Nat := if e.pair then e.w2 else e.w1

def Entry.major (e : Entry) : Nat := field e.word 26 6

/-- Whether an instruction waits for an older one in flight: a matrix form for every older matrix form (R212), a VLD with c = 0 for every older
memory form that names its stream register (R188). -/
def waitsFor (w : Nat) (e : Entry) : Bool :=
  (field w 26 6 == 0x28 && (e.major == 0x27 || e.major == 0x28)) ||
    (field w 26 6 == 0x1F && !w.testBit 1 && decide (0x1F ≤ e.major) && decide (e.major ≤ 0x21) && field e.word 17 4 == field w 17 4)

/-- Whether an instruction issues while an older one holds a fault: scalar forms that touch no memory, the VCFG forms, and brick,
memory and matrix forms while a slot is free, shape and type have not changed since (R154) and no older one makes them wait. Everything else waits for the older ones, so the trap
comes first. -/
def goesBehind (h : Hart) (w1 w2 : Nat) : Bool :=
  let m := majorOf w1 w2
  let f := h.held.elim 0 Held.behind
  decide (f < behindLimit) && !h.inflight.any leavesScalar &&
    ((decide (1 ≤ m) && decide (m ≤ 9)) || m == 0x0C || m == 0x0D || m == 0x0E || m == 0x1D ||
      (((decide (0x10 ≤ m) && decide (m ≤ 0x1C) && m != 0x15) || (decide (0x1F ≤ m) && decide (m ≤ 0x22)) || m == 0x28) &&
        decide (h.inflight.length < 4) && !h.held.any Held.reshaped && h.inflight.all (sameShape h) && !h.inflight.any (waitsFor (if isOfs w1 then w2 else w1))))

/-- One more instruction has issued behind the held fault. -/
def countBehind (s : State) : State :=
  withHart s fun h => { h with held := h.held.map fun f => { f with behind := f.behind + 1 } }

/-- What a fetch found, behind a held fault. -/
def runBehind (run : Instr → State → Result) (s : State) : Fetched → Result
  | .instr i w1 w2 pair => if goesBehind s.hart w1 w2 then run i (latch (countBehind s) w1 w2 pair) else .next (strike s)
  | .illegal _ _ _ => .next (strike s)
  | .fault _ _ _ => .next (strike s)

/-- The turn of a hart that holds a fault: the next instruction issues behind it, or the trap is taken. -/
def heldTurn (run : Instr → State → Result) (s : State) : Result :=
  if notifies s then .next (strike s)
  else
    match s.hart.lap with
    | some l => runBehind run s (classify (instanceWords l).1 ((instanceWords l).2.getD 0))
    | none => runBehind run (fetch s).1 (fetch s).2

/-- The next act of the hart in hand: a notification that is due, an in-flight instruction being resumed, the next instance of a
frame, or the instruction at the program counter. A hart without a thread, halted, being saved or awaiting a reply does nothing. A hart that
waits in a form stands at an instruction boundary, so a notification fires there and nret runs the form again (DESIGN CHOICE, log 106). -/
def hartTurn (run : Instr → State → Result) (s : State) : Result :=
  match s.hart.run with
  | .running =>
    if s.hart.request.isSome then .next s
    else if s.hart.held.isSome then heldTurn run s
    else if notifies s then run .notification s
    else if !s.hart.inflight.isEmpty then run .elementGroupCommit s
    else
      match s.hart.lap with
      | some l => runInstance run s l
      | none => runFetched run (fetch s).1 (fetch s).2
  | _ => .next s

/-- The first act that waits in the agenda. -/
def engineTurn (run : Instr → State → Result) (s : State) : Result :=
  match s.agenda with
  | [] => .next s
  | i :: rest => run i { s with agenda := rest }

/-- Whether a row has no word: only such a row is an act of the outside world or of an engine. -/
def wordless (i : Instr) : Bool := encode i == 0

/-- What may happen to a module without power, and to a frozen one, whose power stage still trips (R379, R380, R388, R389). -/
def actsUnpowered : Instr → Bool
  | .boot _ _ _ => true
  | _ => false

def actsFrozen : Instr → Bool
  | .bypass _ => true
  | .idcode => true
  | .chain _ => true
  | .powerLoss => true
  | .thermalTrip => true
  | .throttle _ t => trips t
  | _ => false

/-- What may happen to a module that has power and no firmware that verifies: it reports its IDCODE through the links (R390). -/
def actsUnbooted : Instr → Bool
  | .boot _ _ _ => true
  | .freeze => true
  | i => actsFrozen i

/-- What reaches a module that has power and no firmware that verifies: readings, the flash, what the outside world is like, and reads of its status
(R390). -/
def reachesUnbooted : Input → Bool
  | .request _ => false
  | .pageIn _ _ _ _ _ => false
  | .frameReleased _ => false
  | .pathLost _ => false
  | _ => true

/-- The next turn of a module whose clocks run. Without a scheduled turn, the hart in hand and the acts that wait take turns. -/
def poweredTurn (run : Instr → State → Result) (inp : Input → State → State) (s : State) : Result :=
  match s.turns with
  | .hart n :: rest => hartTurn run (focus { s with turns := rest } n)
  | .event i :: rest =>
    if wordless i && (s.regs.booted || actsUnbooted i) then run i { s with turns := rest } else .next { s with turns := rest }
  | .input x :: rest => .next (if s.regs.booted || reachesUnbooted x then inp x { s with turns := rest } else { s with turns := rest })
  | .engine :: rest => engineTurn run { s with turns := rest }
  | [] => if s.agenda.isEmpty || s.tick % 2 == 1 then hartTurn run s else engineTurn run s

/-- The outside world's turn where the clocks stand. -/
def outsideTurn (run : Instr → State → Result) (inp : Input → State → Option State) (acts : Instr → Bool) (f : Fault) (s : State) : Result :=
  match s.turns with
  | .event i :: rest => if acts i then run i { s with turns := rest } else .fault f
  | .input x :: rest =>
    match inp x { s with turns := rest } with
    | some t => .next t
    | none => .fault f
  | _ => .fault f

end Sys2Proof.Machine
end

