-- ==== Sys2Proof/Machine/Step.lean ====
section
/-!
DEFINITION. One step of the module, and the loader of one instruction.
-/

namespace Sys2Proof.Machine

/-- One step: a module without power or frozen stands still but for what the outside world may do to it; else time passes and the
next turn is taken. -/
def step (s : State) : Host.Outcome State Fault Refusal :=
  match s.power with
  | .off => outsideTurn exec unpoweredInput actsUnpowered .unpowered s
  | .frozen => outsideTurn exec frozenInput actsFrozen .frozen s
  | .up => poweredTurn exec execInput (clock s)

/-- The state with the instruction whose bits are `w` where the next step fetches it (log 8). -/
def State.withFetchWord (s : State) (nbits w : Nat) : State :=
  placeCode s (wordBytes (w % 2 ^ nbits) ++ wordBytes (w % 2 ^ nbits / 4294967296))

end Sys2Proof.Machine
end

