-- ==== Sys2Proof/Laws/PerInstr.lean ====
section
/-!
SUPPORT. Decoding an encoded instruction gives it back, one lemma per constructor; the fields of a word, one lemma per layout.
-/

namespace Sys2Proof.Laws.RoundTrip

set_option Elab.async false

/-- Whether the words of a term make an instruction: of a prefix pair, when the second word is one (R132). -/
def HasWords : Instr → Prop
  | .ofs _ _ _ _ _ _ _ w2 => ∃ j, decodeWord w2 = .ok j
  | _ => True

/-- A well-formed instruction that has words is what its bytes decode to, whatever follows them. -/
def Statement (i : Instr) : Prop :=
  wellFormed i = true → encode i ≠ 0 → HasWords i → ∀ rest, decode (encodeBytes i ++ rest) = .ok (i, 4 * (encodeWords i).length)

theorem leWord_wordBytes {w : Nat} (h : w < 4294967296) (rest : List Byte) : leWord (wordBytes w ++ rest) = w := by
  simp only [wordBytes, List.cons_append, leWord, BitVec.toNat_ofNat]
  omega

theorem of_word {i : Instr} (hws : encodeWords i = [encode i]) (hlt : encode i < 4294967296) (hno : field (encode i) 26 6 ≠ 63)
    (hc : candidate (encode i) = some i) (hw : wellFormed i = true) (rest : List Byte) :
    decode (encodeBytes i ++ rest) = .ok (i, 4 * (encodeWords i).length) := by
  have hd : decodeWord (encode i) = .ok i := by simp [decodeWord, hc, hw]
  have ho : isOfs (encode i) = false := by simpa [isOfs] using hno
  simp only [encodeBytes, hws, List.flatMap_cons, List.flatMap_nil, List.append_nil, decode, leWord_wordBytes hlt, decodePair, ho, hd]
  rfl

theorem layout1 (a b c M F0 w : Nat) (hM : M < 64) (ha : a < 32) (hb : b < 32) (hc : c < 32) (hF0 : F0 < 2048)
    (hw : M * 67108864 + F0 * 1 + a * 2097152 + b * 65536 + c * 2048 = w) :
    w < 4294967296 ∧ field w 26 6 = M ∧ field w 0 11 = F0 ∧ field w 21 5 = a ∧ field w 16 5 = b ∧ field w 11 5 = c := by
  simp only [field]
  refine ⟨?_, ?_, ?_, ?_, ?_, ?_⟩ <;> omega

theorem layout2 (a b M F0 w : Nat) (hM : M < 64) (ha : a < 32) (hb : b < 32) (hF0 : F0 < 2048)
    (hw : M * 67108864 + F0 * 1 + a * 2097152 + b * 65536 = w) :
    w < 4294967296 ∧ field w 26 6 = M ∧ field w 0 11 = F0 ∧ field w 21 5 = a ∧ field w 16 5 = b := by
  simp only [field]
  refine ⟨?_, ?_, ?_, ?_, ?_⟩ <;> omega

theorem layout3 (a b c M w : Nat) (hM : M < 64) (ha : a < 32) (hb : b < 32) (hc : c < 65536)
    (hw : M * 67108864 + a * 2097152 + b * 65536 + c * 1 = w) :
    w < 4294967296 ∧ field w 26 6 = M ∧ field w 21 5 = a ∧ field w 16 5 = b ∧ field w 0 16 = c := by
  simp only [field]
  refine ⟨?_, ?_, ?_, ?_, ?_⟩ <;> omega

theorem layout4 (a b c M F0 w : Nat) (hM : M < 64) (ha : a < 32) (hb : b < 32) (hc : c < 64) (hF0 : F0 < 4)
    (hw : M * 67108864 + F0 * 64 + a * 2097152 + b * 65536 + c * 1 = w) :
    w < 4294967296 ∧ field w 26 6 = M ∧ field w 6 2 = F0 ∧ field w 21 5 = a ∧ field w 16 5 = b ∧ field w 0 6 = c := by
  simp only [field]
  refine ⟨?_, ?_, ?_, ?_, ?_, ?_⟩ <;> omega

theorem layout5 (a b M w : Nat) (hM : M < 64) (ha : a < 32) (hb : b < 2097152)
    (hw : M * 67108864 + a * 2097152 + b * 1 = w) :
    w < 4294967296 ∧ field w 26 6 = M ∧ field w 21 5 = a ∧ field w 0 21 = b := by
  simp only [field]
  refine ⟨?_, ?_, ?_, ?_⟩ <;> omega

theorem layout6 (a b c M F0 w : Nat) (hM : M < 64) (ha : a < 32) (hb : b < 32) (hc : c < 8192) (hF0 : F0 < 8)
    (hw : M * 67108864 + F0 * 8192 + a * 2097152 + b * 65536 + c * 1 = w) :
    w < 4294967296 ∧ field w 26 6 = M ∧ field w 13 3 = F0 ∧ field w 21 5 = a ∧ field w 16 5 = b ∧ field w 0 13 = c := by
  simp only [field]
  refine ⟨?_, ?_, ?_, ?_, ?_, ?_⟩ <;> omega

theorem layout7 (a b c M F0 w : Nat) (hM : M < 64) (ha : a < 32) (hb : b < 32) (hc : c < 4096) (hF0 : F0 < 4)
    (hw : M * 67108864 + F0 * 16384 + a * 2097152 + b * 65536 + c * 1 = w) :
    w < 4294967296 ∧ field w 26 6 = M ∧ field w 14 2 = F0 ∧ field w 21 5 = a ∧ field w 16 5 = b ∧ field w 0 12 = c := by
  simp only [field]
  refine ⟨?_, ?_, ?_, ?_, ?_, ?_⟩ <;> omega

theorem layout8 (a b c d e f g M F0 w : Nat) (hM : M < 64) (ha : a < 32) (hb : b < 32) (hc : c < 32) (hd : d < 8) (he : e < 8) (hf : f < 2) (hg : g < 2) (hF0 : F0 < 8)
    (hw : M * 67108864 + F0 * 1 + a * 2097152 + b * 65536 + c * 2048 + d * 256 + e * 32 + f * 16 + g * 8 = w) :
    w < 4294967296 ∧ field w 26 6 = M ∧ field w 0 3 = F0 ∧ field w 21 5 = a ∧ field w 16 5 = b ∧ field w 11 5 = c ∧ field w 8 3 = d ∧ field w 5 3 = e ∧ field w 4 1 = f ∧ field w 3 1 = g := by
  simp only [field]
  refine ⟨?_, ?_, ?_, ?_, ?_, ?_, ?_, ?_, ?_, ?_⟩ <;> omega

theorem layout9 (a b c d e M F0 w : Nat) (hM : M < 64) (ha : a < 32) (hb : b < 32) (hc : c < 8) (hd : d < 8) (he : e < 2) (hF0 : F0 < 8)
    (hw : M * 67108864 + F0 * 1 + a * 2097152 + b * 65536 + c * 256 + d * 32 + e * 16 = w) :
    w < 4294967296 ∧ field w 26 6 = M ∧ field w 0 3 = F0 ∧ field w 21 5 = a ∧ field w 16 5 = b ∧ field w 8 3 = c ∧ field w 5 3 = d ∧ field w 4 1 = e := by
  simp only [field]
  refine ⟨?_, ?_, ?_, ?_, ?_, ?_, ?_, ?_⟩ <;> omega

theorem layout10 (a b c d e f M F0 w : Nat) (hM : M < 64) (ha : a < 32) (hb : b < 32) (hc : c < 32) (hd : d < 8) (he : e < 2) (hf : f < 2) (hF0 : F0 < 8)
    (hw : M * 67108864 + F0 * 1 + a * 2097152 + b * 65536 + c * 2048 + d * 256 + e * 16 + f * 8 = w) :
    w < 4294967296 ∧ field w 26 6 = M ∧ field w 0 3 = F0 ∧ field w 21 5 = a ∧ field w 16 5 = b ∧ field w 11 5 = c ∧ field w 8 3 = d ∧ field w 4 1 = e ∧ field w 3 1 = f := by
  simp only [field]
  refine ⟨?_, ?_, ?_, ?_, ?_, ?_, ?_, ?_, ?_⟩ <;> omega

theorem layout11 (a b c d M F0 w : Nat) (hM : M < 64) (ha : a < 32) (hb : b < 32) (hc : c < 8) (hd : d < 2) (hF0 : F0 < 8)
    (hw : M * 67108864 + F0 * 1 + a * 2097152 + b * 65536 + c * 256 + d * 16 = w) :
    w < 4294967296 ∧ field w 26 6 = M ∧ field w 0 3 = F0 ∧ field w 21 5 = a ∧ field w 16 5 = b ∧ field w 8 3 = c ∧ field w 4 1 = d := by
  simp only [field]
  refine ⟨?_, ?_, ?_, ?_, ?_, ?_, ?_⟩ <;> omega

theorem layout12 (a b c d e f g M F0 w : Nat) (hM : M < 64) (ha : a < 8) (hb : b < 32) (hc : c < 32) (hd : d < 8) (he : e < 8) (hf : f < 2) (hg : g < 2) (hF0 : F0 < 8)
    (hw : M * 67108864 + F0 * 1 + a * 2097152 + b * 65536 + c * 2048 + d * 256 + e * 32 + f * 16 + g * 8 = w) :
    w < 4294967296 ∧ field w 26 6 = M ∧ field w 0 3 = F0 ∧ field w 21 3 = a ∧ field w 16 5 = b ∧ field w 11 5 = c ∧ field w 8 3 = d ∧ field w 5 3 = e ∧ field w 4 1 = f ∧ field w 3 1 = g := by
  simp only [field]
  refine ⟨?_, ?_, ?_, ?_, ?_, ?_, ?_, ?_, ?_, ?_⟩ <;> omega

theorem layout13 (a b c d M F0 w : Nat) (hM : M < 64) (ha : a < 8) (hb : b < 8) (hc : c < 8) (hd : d < 8) (hF0 : F0 < 8)
    (hw : M * 67108864 + F0 * 1 + a * 2097152 + b * 65536 + c * 2048 + d * 256 = w) :
    w < 4294967296 ∧ field w 26 6 = M ∧ field w 0 3 = F0 ∧ field w 21 3 = a ∧ field w 16 3 = b ∧ field w 11 3 = c ∧ field w 8 3 = d := by
  simp only [field]
  refine ⟨?_, ?_, ?_, ?_, ?_, ?_, ?_⟩ <;> omega

theorem layout14 (a b c M F0 w : Nat) (hM : M < 64) (ha : a < 8) (hb : b < 8) (hc : c < 8) (hF0 : F0 < 8)
    (hw : M * 67108864 + F0 * 1 + a * 2097152 + b * 65536 + c * 256 = w) :
    w < 4294967296 ∧ field w 26 6 = M ∧ field w 0 3 = F0 ∧ field w 21 3 = a ∧ field w 16 3 = b ∧ field w 8 3 = c := by
  simp only [field]
  refine ⟨?_, ?_, ?_, ?_, ?_, ?_⟩ <;> omega

theorem layout15 (a b c d e f M F0 w : Nat) (hM : M < 64) (ha : a < 32) (hb : b < 32) (hc : c < 32) (hd : d < 8) (he : e < 8) (hf : f < 2) (hF0 : F0 < 8)
    (hw : M * 67108864 + F0 * 1 + a * 2097152 + b * 65536 + c * 2048 + d * 256 + e * 32 + f * 16 = w) :
    w < 4294967296 ∧ field w 26 6 = M ∧ field w 0 3 = F0 ∧ field w 21 5 = a ∧ field w 16 5 = b ∧ field w 11 5 = c ∧ field w 8 3 = d ∧ field w 5 3 = e ∧ field w 4 1 = f := by
  simp only [field]
  refine ⟨?_, ?_, ?_, ?_, ?_, ?_, ?_, ?_, ?_⟩ <;> omega

theorem layout16 (a b c d e f M F0 w : Nat) (hM : M < 64) (ha : a < 32) (hb : b < 32) (hc : c < 4) (hd : d < 8) (he : e < 8) (hf : f < 2) (hF0 : F0 < 8)
    (hw : M * 67108864 + F0 * 1 + a * 2097152 + b * 65536 + c * 2048 + d * 256 + e * 32 + f * 16 = w) :
    w < 4294967296 ∧ field w 26 6 = M ∧ field w 0 3 = F0 ∧ field w 21 5 = a ∧ field w 16 5 = b ∧ field w 11 2 = c ∧ field w 8 3 = d ∧ field w 5 3 = e ∧ field w 4 1 = f := by
  simp only [field]
  refine ⟨?_, ?_, ?_, ?_, ?_, ?_, ?_, ?_, ?_⟩ <;> omega

theorem layout17 (a b c d e M F0 w : Nat) (hM : M < 64) (ha : a < 32) (hb : b < 32) (hc : c < 4) (hd : d < 8) (he : e < 2) (hF0 : F0 < 8)
    (hw : M * 67108864 + F0 * 1 + a * 2097152 + b * 65536 + c * 2048 + d * 256 + e * 16 = w) :
    w < 4294967296 ∧ field w 26 6 = M ∧ field w 0 3 = F0 ∧ field w 21 5 = a ∧ field w 16 5 = b ∧ field w 11 2 = c ∧ field w 8 3 = d ∧ field w 4 1 = e := by
  simp only [field]
  refine ⟨?_, ?_, ?_, ?_, ?_, ?_, ?_, ?_⟩ <;> omega

theorem layout18 (a b c d e M F0 w : Nat) (hM : M < 64) (ha : a < 32) (hb : b < 32) (hc : c < 32) (hd : d < 8) (he : e < 2) (hF0 : F0 < 8)
    (hw : M * 67108864 + F0 * 1 + a * 2097152 + b * 65536 + c * 2048 + d * 256 + e * 16 = w) :
    w < 4294967296 ∧ field w 26 6 = M ∧ field w 0 3 = F0 ∧ field w 21 5 = a ∧ field w 16 5 = b ∧ field w 11 5 = c ∧ field w 8 3 = d ∧ field w 4 1 = e := by
  simp only [field]
  refine ⟨?_, ?_, ?_, ?_, ?_, ?_, ?_, ?_⟩ <;> omega

theorem layout19 (a b c d e f M F0 w : Nat) (hM : M < 64) (ha : a < 8) (hb : b < 32) (hc : c < 32) (hd : d < 8) (he : e < 2) (hf : f < 2) (hF0 : F0 < 8)
    (hw : M * 67108864 + F0 * 1 + a * 2097152 + b * 65536 + c * 2048 + d * 256 + e * 16 + f * 8 = w) :
    w < 4294967296 ∧ field w 26 6 = M ∧ field w 0 3 = F0 ∧ field w 21 3 = a ∧ field w 16 5 = b ∧ field w 11 5 = c ∧ field w 8 3 = d ∧ field w 4 1 = e ∧ field w 3 1 = f := by
  simp only [field]
  refine ⟨?_, ?_, ?_, ?_, ?_, ?_, ?_, ?_, ?_⟩ <;> omega

theorem layout20 (a b c d M F0 w : Nat) (hM : M < 64) (ha : a < 32) (hb : b < 32) (hc : c < 8) (hd : d < 2) (hF0 : F0 < 8)
    (hw : M * 67108864 + F0 * 1 + a * 2097152 + b * 2048 + c * 256 + d * 8 = w) :
    w < 4294967296 ∧ field w 26 6 = M ∧ field w 0 3 = F0 ∧ field w 21 5 = a ∧ field w 11 5 = b ∧ field w 8 3 = c ∧ field w 3 1 = d := by
  simp only [field]
  refine ⟨?_, ?_, ?_, ?_, ?_, ?_, ?_⟩ <;> omega

theorem layout21 (a b M F0 F1 F2 w : Nat) (hM : M < 64) (ha : a < 32) (hb : b < 32) (hF0 : F0 < 8) (hF1 : F1 < 32) (hF2 : F2 < 8)
    (hw : M * 67108864 + F0 * 256 + F1 * 8 + F2 * 1 + a * 2097152 + b * 65536 = w) :
    w < 4294967296 ∧ field w 26 6 = M ∧ field w 8 3 = F0 ∧ field w 3 5 = F1 ∧ field w 0 3 = F2 ∧ field w 21 5 = a ∧ field w 16 5 = b := by
  simp only [field]
  refine ⟨?_, ?_, ?_, ?_, ?_, ?_, ?_⟩ <;> omega

theorem layout22 (a b M F0 F1 F2 w : Nat) (hM : M < 64) (ha : a < 32) (hb : b < 32) (hF0 : F0 < 8) (hF1 : F1 < 32) (hF2 : F2 < 8)
    (hw : M * 67108864 + F0 * 256 + F1 * 8 + F2 * 1 + a * 65536 + b * 2048 = w) :
    w < 4294967296 ∧ field w 26 6 = M ∧ field w 8 3 = F0 ∧ field w 3 5 = F1 ∧ field w 0 3 = F2 ∧ field w 16 5 = a ∧ field w 11 5 = b := by
  simp only [field]
  refine ⟨?_, ?_, ?_, ?_, ?_, ?_, ?_⟩ <;> omega

theorem layout23 (a b c M F0 F1 w : Nat) (hM : M < 64) (ha : a < 32) (hb : b < 32) (hc : c < 8) (hF0 : F0 < 8) (hF1 : F1 < 32)
    (hw : M * 67108864 + F0 * 256 + F1 * 8 + a * 2097152 + b * 65536 + c * 1 = w) :
    w < 4294967296 ∧ field w 26 6 = M ∧ field w 8 3 = F0 ∧ field w 3 5 = F1 ∧ field w 21 5 = a ∧ field w 16 5 = b ∧ field w 0 3 = c := by
  simp only [field]
  refine ⟨?_, ?_, ?_, ?_, ?_, ?_, ?_⟩ <;> omega

theorem layout24 (a b c d M F0 w : Nat) (hM : M < 64) (ha : a < 32) (hb : b < 32) (hc : c < 32) (hd : d < 8) (hF0 : F0 < 8)
    (hw : M * 67108864 + F0 * 256 + a * 2097152 + b * 65536 + c * 8 + d * 1 = w) :
    w < 4294967296 ∧ field w 26 6 = M ∧ field w 8 3 = F0 ∧ field w 21 5 = a ∧ field w 16 5 = b ∧ field w 3 5 = c ∧ field w 0 3 = d := by
  simp only [field]
  refine ⟨?_, ?_, ?_, ?_, ?_, ?_, ?_⟩ <;> omega

theorem layout25 (a b M F0 w : Nat) (hM : M < 64) (ha : a < 32) (hb : b < 16) (hF0 : F0 < 128)
    (hw : M * 67108864 + F0 * 16 + a * 65536 + b * 1 = w) :
    w < 4294967296 ∧ field w 26 6 = M ∧ field w 4 7 = F0 ∧ field w 16 5 = a ∧ field w 0 4 = b := by
  simp only [field]
  refine ⟨?_, ?_, ?_, ?_, ?_⟩ <;> omega

theorem layout26 (a b c M F0 w : Nat) (hM : M < 64) (ha : a < 32) (hb : b < 32) (hc : c < 16) (hF0 : F0 < 128)
    (hw : M * 67108864 + F0 * 16 + a * 2097152 + b * 65536 + c * 1 = w) :
    w < 4294967296 ∧ field w 26 6 = M ∧ field w 4 7 = F0 ∧ field w 21 5 = a ∧ field w 16 5 = b ∧ field w 0 4 = c := by
  simp only [field]
  refine ⟨?_, ?_, ?_, ?_, ?_, ?_⟩ <;> omega

theorem layout27 (a b c d M F0 w : Nat) (hM : M < 64) (ha : a < 32) (hb : b < 16) (hc : c < 8) (hd : d < 2) (hF0 : F0 < 8)
    (hw : M * 67108864 + F0 * 2048 + a * 2097152 + b * 131072 + c * 16384 + d * 2 = w) :
    w < 4294967296 ∧ field w 26 6 = M ∧ field w 11 3 = F0 ∧ field w 21 5 = a ∧ field w 17 4 = b ∧ field w 14 3 = c ∧ field w 1 1 = d := by
  simp only [field]
  refine ⟨?_, ?_, ?_, ?_, ?_, ?_, ?_⟩ <;> omega

theorem layout28 (a b c d e f M F0 w : Nat) (hM : M < 64) (ha : a < 32) (hb : b < 16) (hc : c < 8) (hd : d < 2) (he : e < 32) (hf : f < 2) (hF0 : F0 < 16)
    (hw : M * 67108864 + F0 * 4 + a * 2097152 + b * 131072 + c * 16384 + d * 2048 + e * 64 + f * 2 = w) :
    w < 4294967296 ∧ field w 26 6 = M ∧ field w 2 4 = F0 ∧ field w 21 5 = a ∧ field w 17 4 = b ∧ field w 14 3 = c ∧ field w 11 1 = d ∧ field w 6 5 = e ∧ field w 1 1 = f := by
  simp only [field]
  refine ⟨?_, ?_, ?_, ?_, ?_, ?_, ?_, ?_, ?_⟩ <;> omega

theorem layout29 (a b c d M F0 w : Nat) (hM : M < 64) (ha : a < 32) (hb : b < 8) (hc : c < 32) (hd : d < 2) (hF0 : F0 < 16)
    (hw : M * 67108864 + F0 * 4 + a * 2097152 + b * 16384 + c * 64 + d * 2 = w) :
    w < 4294967296 ∧ field w 26 6 = M ∧ field w 2 4 = F0 ∧ field w 21 5 = a ∧ field w 14 3 = b ∧ field w 6 5 = c ∧ field w 1 1 = d := by
  simp only [field]
  refine ⟨?_, ?_, ?_, ?_, ?_, ?_, ?_⟩ <;> omega

theorem layout30 (a b c d e f g h M F0 w : Nat) (hM : M < 64) (ha : a < 32) (hb : b < 32) (hc : c < 32) (hd : d < 4) (he : e < 2) (hf : f < 2) (hg : g < 2) (hh : h < 4) (hF0 : F0 < 16)
    (hw : M * 67108864 + F0 * 128 + a * 2097152 + b * 65536 + c * 2048 + d * 32 + e * 16 + f * 8 + g * 4 + h * 1 = w) :
    w < 4294967296 ∧ field w 26 6 = M ∧ field w 7 4 = F0 ∧ field w 21 5 = a ∧ field w 16 5 = b ∧ field w 11 5 = c ∧ field w 5 2 = d ∧ field w 4 1 = e ∧ field w 3 1 = f ∧ field w 2 1 = g ∧ field w 0 2 = h := by
  simp only [field]
  refine ⟨?_, ?_, ?_, ?_, ?_, ?_, ?_, ?_, ?_, ?_, ?_⟩ <;> omega

theorem layout31 (a M F0 w : Nat) (hM : M < 64) (ha : a < 4) (hF0 : F0 < 512)
    (hw : M * 67108864 + F0 * 4 + a * 1 = w) :
    w < 4294967296 ∧ field w 26 6 = M ∧ field w 2 9 = F0 ∧ field w 0 2 = a := by
  simp only [field]
  refine ⟨?_, ?_, ?_, ?_⟩ <;> omega

theorem layout32 (a b c M F0 w : Nat) (hM : M < 64) (ha : a < 32) (hb : b < 32) (hc : c < 4) (hF0 : F0 < 512)
    (hw : M * 67108864 + F0 * 4 + a * 65536 + b * 2048 + c * 1 = w) :
    w < 4294967296 ∧ field w 26 6 = M ∧ field w 2 9 = F0 ∧ field w 16 5 = a ∧ field w 11 5 = b ∧ field w 0 2 = c := by
  simp only [field]
  refine ⟨?_, ?_, ?_, ?_, ?_, ?_⟩ <;> omega

theorem layout33 (M F0 w : Nat) (hM : M < 64) (hF0 : F0 < 512)
    (hw : M * 67108864 + F0 * 4 = w) :
    w < 4294967296 ∧ field w 26 6 = M ∧ field w 2 9 = F0 := by
  simp only [field]
  refine ⟨?_, ?_, ?_⟩ <;> omega

theorem layout34 (a b M F0 w : Nat) (hM : M < 64) (ha : a < 32) (hb : b < 32) (hF0 : F0 < 2048)
    (hw : M * 67108864 + F0 * 1 + a * 65536 + b * 2048 = w) :
    w < 4294967296 ∧ field w 26 6 = M ∧ field w 0 11 = F0 ∧ field w 16 5 = a ∧ field w 11 5 = b := by
  simp only [field]
  refine ⟨?_, ?_, ?_, ?_, ?_⟩ <;> omega

theorem layout35 (a M F0 w : Nat) (hM : M < 64) (ha : a < 32) (hF0 : F0 < 2048)
    (hw : M * 67108864 + F0 * 1 + a * 2097152 = w) :
    w < 4294967296 ∧ field w 26 6 = M ∧ field w 0 11 = F0 ∧ field w 21 5 = a := by
  simp only [field]
  refine ⟨?_, ?_, ?_, ?_⟩ <;> omega

theorem layout36 (a M F0 w : Nat) (hM : M < 64) (ha : a < 32) (hF0 : F0 < 2048)
    (hw : M * 67108864 + F0 * 1 + a * 65536 = w) :
    w < 4294967296 ∧ field w 26 6 = M ∧ field w 0 11 = F0 ∧ field w 16 5 = a := by
  simp only [field]
  refine ⟨?_, ?_, ?_, ?_⟩ <;> omega

theorem layout37 (a b M F0 w : Nat) (hM : M < 64) (ha : a < 32) (hb : b < 32) (hF0 : F0 < 8)
    (hw : M * 67108864 + F0 * 2048 + a * 2097152 + b * 16384 = w) :
    w < 4294967296 ∧ field w 26 6 = M ∧ field w 11 3 = F0 ∧ field w 21 5 = a ∧ field w 14 5 = b := by
  simp only [field]
  refine ⟨?_, ?_, ?_, ?_, ?_⟩ <;> omega

theorem layout38 (a b M F0 w : Nat) (hM : M < 64) (ha : a < 32) (hb : b < 4) (hF0 : F0 < 8)
    (hw : M * 67108864 + F0 * 2048 + a * 64 + b * 16 = w) :
    w < 4294967296 ∧ field w 26 6 = M ∧ field w 11 3 = F0 ∧ field w 6 5 = a ∧ field w 4 2 = b := by
  simp only [field]
  refine ⟨?_, ?_, ?_, ?_, ?_⟩ <;> omega

theorem layout39 (a M F0 w : Nat) (hM : M < 64) (ha : a < 32) (hF0 : F0 < 8)
    (hw : M * 67108864 + F0 * 2048 + a * 2097152 = w) :
    w < 4294967296 ∧ field w 26 6 = M ∧ field w 11 3 = F0 ∧ field w 21 5 = a := by
  simp only [field]
  refine ⟨?_, ?_, ?_, ?_⟩ <;> omega

theorem layout40 (M F0 w : Nat) (hM : M < 64) (hF0 : F0 < 8)
    (hw : M * 67108864 + F0 * 2048 = w) :
    w < 4294967296 ∧ field w 26 6 = M ∧ field w 11 3 = F0 := by
  simp only [field]
  refine ⟨?_, ?_, ?_⟩ <;> omega

theorem layout41 (a b c d e M F0 w : Nat) (hM : M < 64) (ha : a < 32) (hb : b < 32) (hc : c < 2) (hd : d < 32) (he : e < 2) (hF0 : F0 < 2)
    (hw : M * 67108864 + F0 * 8192 + a * 16384 + b * 256 + c * 128 + d * 4 + e * 2 = w) :
    w < 4294967296 ∧ field w 26 6 = M ∧ field w 13 1 = F0 ∧ field w 14 5 = a ∧ field w 8 5 = b ∧ field w 7 1 = c ∧ field w 2 5 = d ∧ field w 1 1 = e := by
  simp only [field]
  refine ⟨?_, ?_, ?_, ?_, ?_, ?_, ?_, ?_⟩ <;> omega

theorem layout42 (M F0 w : Nat) (hM : M < 64) (hF0 : F0 < 2)
    (hw : M * 67108864 + F0 * 8192 = w) :
    w < 4294967296 ∧ field w 26 6 = M ∧ field w 13 1 = F0 := by
  simp only [field]
  refine ⟨?_, ?_, ?_⟩ <;> omega

theorem layout43 (a b c d e M F0 w : Nat) (hM : M < 64) (ha : a < 32) (hb : b < 4) (hc : c < 32) (hd : d < 2) (he : e < 4) (hF0 : F0 < 4)
    (hw : M * 67108864 + F0 * 4096 + a * 2097152 + b * 524288 + c * 16384 + d * 2048 + e * 512 = w) :
    w < 4294967296 ∧ field w 26 6 = M ∧ field w 12 2 = F0 ∧ field w 21 5 = a ∧ field w 19 2 = b ∧ field w 14 5 = c ∧ field w 11 1 = d ∧ field w 9 2 = e := by
  simp only [field]
  refine ⟨?_, ?_, ?_, ?_, ?_, ?_, ?_, ?_⟩ <;> omega

theorem layout44 (a M F0 w : Nat) (hM : M < 64) (ha : a < 4) (hF0 : F0 < 4)
    (hw : M * 67108864 + F0 * 4096 + a * 524288 = w) :
    w < 4294967296 ∧ field w 26 6 = M ∧ field w 12 2 = F0 ∧ field w 19 2 = a := by
  simp only [field]
  refine ⟨?_, ?_, ?_, ?_⟩ <;> omega

theorem layout45 (a b c M F0 w : Nat) (hM : M < 64) (ha : a < 4) (hb : b < 32) (hc : c < 32) (hF0 : F0 < 4)
    (hw : M * 67108864 + F0 * 4096 + a * 524288 + b * 16384 + c * 128 = w) :
    w < 4294967296 ∧ field w 26 6 = M ∧ field w 12 2 = F0 ∧ field w 19 2 = a ∧ field w 14 5 = b ∧ field w 7 5 = c := by
  simp only [field]
  refine ⟨?_, ?_, ?_, ?_, ?_, ?_⟩ <;> omega

theorem layout46 (a b c d e M F0 w : Nat) (hM : M < 64) (ha : a < 4) (hb : b < 32) (hc : c < 32) (hd : d < 16) (he : e < 2) (hF0 : F0 < 4)
    (hw : M * 67108864 + F0 * 4096 + a * 524288 + b * 16384 + c * 128 + d * 8 + e * 4 = w) :
    w < 4294967296 ∧ field w 26 6 = M ∧ field w 12 2 = F0 ∧ field w 19 2 = a ∧ field w 14 5 = b ∧ field w 7 5 = c ∧ field w 3 4 = d ∧ field w 2 1 = e := by
  simp only [field]
  refine ⟨?_, ?_, ?_, ?_, ?_, ?_, ?_, ?_⟩ <;> omega

theorem layout47 (a b M F0 w : Nat) (hM : M < 64) (ha : a < 32) (hb : b < 4) (hF0 : F0 < 512)
    (hw : M * 67108864 + F0 * 4 + a * 65536 + b * 1 = w) :
    w < 4294967296 ∧ field w 26 6 = M ∧ field w 2 9 = F0 ∧ field w 16 5 = a ∧ field w 0 2 = b := by
  simp only [field]
  refine ⟨?_, ?_, ?_, ?_, ?_⟩ <;> omega

theorem layout48 (a b M F0 w : Nat) (hM : M < 64) (ha : a < 32) (hb : b < 4) (hF0 : F0 < 512)
    (hw : M * 67108864 + F0 * 4 + a * 2097152 + b * 1 = w) :
    w < 4294967296 ∧ field w 26 6 = M ∧ field w 2 9 = F0 ∧ field w 21 5 = a ∧ field w 0 2 = b := by
  simp only [field]
  refine ⟨?_, ?_, ?_, ?_, ?_⟩ <;> omega

theorem layout49 (a b c M F0 w : Nat) (hM : M < 64) (ha : a < 32) (hb : b < 32) (hc : c < 4) (hF0 : F0 < 512)
    (hw : M * 67108864 + F0 * 4 + a * 2097152 + b * 65536 + c * 1 = w) :
    w < 4294967296 ∧ field w 26 6 = M ∧ field w 2 9 = F0 ∧ field w 21 5 = a ∧ field w 16 5 = b ∧ field w 0 2 = c := by
  simp only [field]
  refine ⟨?_, ?_, ?_, ?_, ?_, ?_⟩ <;> omega

theorem layout50 (a b c d M F0 w : Nat) (hM : M < 64) (ha : a < 32) (hb : b < 32) (hc : c < 32) (hd : d < 4) (hF0 : F0 < 512)
    (hw : M * 67108864 + F0 * 4 + a * 2097152 + b * 65536 + c * 2048 + d * 1 = w) :
    w < 4294967296 ∧ field w 26 6 = M ∧ field w 2 9 = F0 ∧ field w 21 5 = a ∧ field w 16 5 = b ∧ field w 11 5 = c ∧ field w 0 2 = d := by
  simp only [field]
  refine ⟨?_, ?_, ?_, ?_, ?_, ?_, ?_⟩ <;> omega

theorem layout51 (M F0 w : Nat) (hM : M < 64) (hF0 : F0 < 2048)
    (hw : M * 67108864 + F0 * 1 = w) :
    w < 4294967296 ∧ field w 26 6 = M ∧ field w 0 11 = F0 := by
  simp only [field]
  refine ⟨?_, ?_, ?_⟩ <;> omega

theorem candidate01 {w : Nat} (h : field w 26 6 = 1) : candidate w = major01 w := by
  delta candidate
  rw [h]
  rfl

theorem candidate06 {w : Nat} (h : field w 26 6 = 6) : candidate w = major06 w := by
  delta candidate
  rw [h]
  rfl

theorem candidate0A {w : Nat} (h : field w 26 6 = 10) : candidate w = major0A w := by
  delta candidate
  rw [h]
  rfl

theorem candidate0B {w : Nat} (h : field w 26 6 = 11) : candidate w = major0B w := by
  delta candidate
  rw [h]
  rfl

theorem candidate0C {w : Nat} (h : field w 26 6 = 12) : candidate w = major0C w := by
  delta candidate
  rw [h]
  rfl

theorem candidate0F {w : Nat} (h : field w 26 6 = 15) : candidate w = major0F w := by
  delta candidate
  rw [h]
  rfl

theorem candidate10 {w : Nat} (h : field w 26 6 = 16) : candidate w = major10 w := by
  delta candidate
  rw [h]
  rfl

theorem candidate11 {w : Nat} (h : field w 26 6 = 17) : candidate w = major11 w := by
  delta candidate
  rw [h]
  rfl

theorem candidate12 {w : Nat} (h : field w 26 6 = 18) : candidate w = major12 w := by
  delta candidate
  rw [h]
  rfl

theorem candidate13 {w : Nat} (h : field w 26 6 = 19) : candidate w = major13 w := by
  delta candidate
  rw [h]
  rfl

theorem candidate14 {w : Nat} (h : field w 26 6 = 20) : candidate w = major14 w := by
  delta candidate
  rw [h]
  rfl

theorem candidate15 {w : Nat} (h : field w 26 6 = 21) : candidate w = major15 w := by
  delta candidate
  rw [h]
  rfl

theorem candidate16 {w : Nat} (h : field w 26 6 = 22) : candidate w = major16 w := by
  delta candidate
  rw [h]
  rfl

theorem candidate17 {w : Nat} (h : field w 26 6 = 23) : candidate w = major17 w := by
  delta candidate
  rw [h]
  rfl

theorem candidate18 {w : Nat} (h : field w 26 6 = 24) : candidate w = major18 w := by
  delta candidate
  rw [h]
  rfl

theorem candidate19 {w : Nat} (h : field w 26 6 = 25) : candidate w = major19 w := by
  delta candidate
  rw [h]
  rfl

theorem candidate1A {w : Nat} (h : field w 26 6 = 26) : candidate w = major1A w := by
  delta candidate
  rw [h]
  rfl

theorem candidate1B {w : Nat} (h : field w 26 6 = 27) : candidate w = major1B w := by
  delta candidate
  rw [h]
  rfl

theorem candidate1C {w : Nat} (h : field w 26 6 = 28) : candidate w = major1C w := by
  delta candidate
  rw [h]
  rfl

theorem candidate1D {w : Nat} (h : field w 26 6 = 29) : candidate w = major1D w := by
  delta candidate
  rw [h]
  rfl

theorem candidate1E {w : Nat} (h : field w 26 6 = 30) : candidate w = major1E w := by
  delta candidate
  rw [h]
  rfl

theorem candidate1F {w : Nat} (h : field w 26 6 = 31) : candidate w = major1F w := by
  delta candidate
  rw [h]
  rfl

theorem candidate20 {w : Nat} (h : field w 26 6 = 32) : candidate w = major20 w := by
  delta candidate
  rw [h]
  rfl

theorem candidate21 {w : Nat} (h : field w 26 6 = 33) : candidate w = major21 w := by
  delta candidate
  rw [h]
  rfl

theorem candidate22 {w : Nat} (h : field w 26 6 = 34) : candidate w = major22 w := by
  delta candidate
  rw [h]
  rfl

theorem candidate23 {w : Nat} (h : field w 26 6 = 35) : candidate w = major23 w := by
  delta candidate
  rw [h]
  rfl

theorem candidate24 {w : Nat} (h : field w 26 6 = 36) : candidate w = major24 w := by
  delta candidate
  rw [h]
  rfl

theorem candidate25 {w : Nat} (h : field w 26 6 = 37) : candidate w = major25 w := by
  delta candidate
  rw [h]
  rfl

theorem candidate26 {w : Nat} (h : field w 26 6 = 38) : candidate w = major26 w := by
  delta candidate
  rw [h]
  rfl

theorem candidate27 {w : Nat} (h : field w 26 6 = 39) : candidate w = major27 w := by
  delta candidate
  rw [h]
  rfl

theorem candidate28 {w : Nat} (h : field w 26 6 = 40) : candidate w = major28 w := by
  delta candidate
  rw [h]
  rfl

theorem candidate29 {w : Nat} (h : field w 26 6 = 41) : candidate w = major29 w := by
  delta candidate
  rw [h]
  rfl

theorem candidate2A {w : Nat} (h : field w 26 6 = 42) : candidate w = major2A w := by
  delta candidate
  rw [h]
  rfl

theorem candidate2B {w : Nat} (h : field w 26 6 = 43) : candidate w = major2B w := by
  delta candidate
  rw [h]
  rfl

theorem candidate2C {w : Nat} (h : field w 26 6 = 44) : candidate w = major2C w := by
  delta candidate
  rw [h]
  rfl

theorem candidate2D {w : Nat} (h : field w 26 6 = 45) : candidate w = major2D w := by
  delta candidate
  rw [h]
  rfl

theorem candidate2E {w : Nat} (h : field w 26 6 = 46) : candidate w = major2E w := by
  delta candidate
  rw [h]
  rfl

theorem candidate2F {w : Nat} (h : field w 26 6 = 47) : candidate w = major2F w := by
  delta candidate
  rw [h]
  rfl

theorem add (x0 x1 x2 : Nat) : Statement (.add x0 x1 x2) := by
  intro hw _ _ rest
  have hb : (decide (x0 < 32) && decide (x1 < 32) && decide (x2 < 32)) = true := hw
  simp only [Bool.and_eq_true, decide_eq_true_eq] at hb
  obtain ⟨hl, hM, g0, f0, f1, f2⟩ := layout1 x0 x1 x2 1 0 (by decide) (by omega) (by omega) (by omega) (by decide) (w := 67108864 + x0 * 2097152 + x1 * 65536 + x2 * 2048) (by omega)
  exact of_word (i := (.add x0 x1 x2)) rfl hl (by rw [show field (encode (.add x0 x1 x2)) 26 6 = 1 from hM]; decide)
    (show candidate (67108864 + x0 * 2097152 + x1 * 65536 + x2 * 2048) = _ by rw [candidate01 hM]; delta major01; simp only [g0, f0, f1, f2]) hw rest

theorem sub (x0 x1 x2 : Nat) : Statement (.sub x0 x1 x2) := by
  intro hw _ _ rest
  have hb : (decide (x0 < 32) && decide (x1 < 32) && decide (x2 < 32)) = true := hw
  simp only [Bool.and_eq_true, decide_eq_true_eq] at hb
  obtain ⟨hl, hM, g0, f0, f1, f2⟩ := layout1 x0 x1 x2 1 1 (by decide) (by omega) (by omega) (by omega) (by decide) (w := 67108865 + x0 * 2097152 + x1 * 65536 + x2 * 2048) (by omega)
  exact of_word (i := (.sub x0 x1 x2)) rfl hl (by rw [show field (encode (.sub x0 x1 x2)) 26 6 = 1 from hM]; decide)
    (show candidate (67108865 + x0 * 2097152 + x1 * 65536 + x2 * 2048) = _ by rw [candidate01 hM]; delta major01; simp only [g0, f0, f1, f2]) hw rest

theorem and (x0 x1 x2 : Nat) : Statement (.and x0 x1 x2) := by
  intro hw _ _ rest
  have hb : (decide (x0 < 32) && decide (x1 < 32) && decide (x2 < 32)) = true := hw
  simp only [Bool.and_eq_true, decide_eq_true_eq] at hb
  obtain ⟨hl, hM, g0, f0, f1, f2⟩ := layout1 x0 x1 x2 1 2 (by decide) (by omega) (by omega) (by omega) (by decide) (w := 67108866 + x0 * 2097152 + x1 * 65536 + x2 * 2048) (by omega)
  exact of_word (i := (.and x0 x1 x2)) rfl hl (by rw [show field (encode (.and x0 x1 x2)) 26 6 = 1 from hM]; decide)
    (show candidate (67108866 + x0 * 2097152 + x1 * 65536 + x2 * 2048) = _ by rw [candidate01 hM]; delta major01; simp only [g0, f0, f1, f2]) hw rest

theorem or (x0 x1 x2 : Nat) : Statement (.or x0 x1 x2) := by
  intro hw _ _ rest
  have hb : (decide (x0 < 32) && decide (x1 < 32) && decide (x2 < 32)) = true := hw
  simp only [Bool.and_eq_true, decide_eq_true_eq] at hb
  obtain ⟨hl, hM, g0, f0, f1, f2⟩ := layout1 x0 x1 x2 1 3 (by decide) (by omega) (by omega) (by omega) (by decide) (w := 67108867 + x0 * 2097152 + x1 * 65536 + x2 * 2048) (by omega)
  exact of_word (i := (.or x0 x1 x2)) rfl hl (by rw [show field (encode (.or x0 x1 x2)) 26 6 = 1 from hM]; decide)
    (show candidate (67108867 + x0 * 2097152 + x1 * 65536 + x2 * 2048) = _ by rw [candidate01 hM]; delta major01; simp only [g0, f0, f1, f2]) hw rest

theorem xor (x0 x1 x2 : Nat) : Statement (.xor x0 x1 x2) := by
  intro hw _ _ rest
  have hb : (decide (x0 < 32) && decide (x1 < 32) && decide (x2 < 32)) = true := hw
  simp only [Bool.and_eq_true, decide_eq_true_eq] at hb
  obtain ⟨hl, hM, g0, f0, f1, f2⟩ := layout1 x0 x1 x2 1 4 (by decide) (by omega) (by omega) (by omega) (by decide) (w := 67108868 + x0 * 2097152 + x1 * 65536 + x2 * 2048) (by omega)
  exact of_word (i := (.xor x0 x1 x2)) rfl hl (by rw [show field (encode (.xor x0 x1 x2)) 26 6 = 1 from hM]; decide)
    (show candidate (67108868 + x0 * 2097152 + x1 * 65536 + x2 * 2048) = _ by rw [candidate01 hM]; delta major01; simp only [g0, f0, f1, f2]) hw rest

theorem sll (x0 x1 x2 : Nat) : Statement (.sll x0 x1 x2) := by
  intro hw _ _ rest
  have hb : (decide (x0 < 32) && decide (x1 < 32) && decide (x2 < 32)) = true := hw
  simp only [Bool.and_eq_true, decide_eq_true_eq] at hb
  obtain ⟨hl, hM, g0, f0, f1, f2⟩ := layout1 x0 x1 x2 1 5 (by decide) (by omega) (by omega) (by omega) (by decide) (w := 67108869 + x0 * 2097152 + x1 * 65536 + x2 * 2048) (by omega)
  exact of_word (i := (.sll x0 x1 x2)) rfl hl (by rw [show field (encode (.sll x0 x1 x2)) 26 6 = 1 from hM]; decide)
    (show candidate (67108869 + x0 * 2097152 + x1 * 65536 + x2 * 2048) = _ by rw [candidate01 hM]; delta major01; simp only [g0, f0, f1, f2]) hw rest

theorem srl (x0 x1 x2 : Nat) : Statement (.srl x0 x1 x2) := by
  intro hw _ _ rest
  have hb : (decide (x0 < 32) && decide (x1 < 32) && decide (x2 < 32)) = true := hw
  simp only [Bool.and_eq_true, decide_eq_true_eq] at hb
  obtain ⟨hl, hM, g0, f0, f1, f2⟩ := layout1 x0 x1 x2 1 6 (by decide) (by omega) (by omega) (by omega) (by decide) (w := 67108870 + x0 * 2097152 + x1 * 65536 + x2 * 2048) (by omega)
  exact of_word (i := (.srl x0 x1 x2)) rfl hl (by rw [show field (encode (.srl x0 x1 x2)) 26 6 = 1 from hM]; decide)
    (show candidate (67108870 + x0 * 2097152 + x1 * 65536 + x2 * 2048) = _ by rw [candidate01 hM]; delta major01; simp only [g0, f0, f1, f2]) hw rest

theorem sra (x0 x1 x2 : Nat) : Statement (.sra x0 x1 x2) := by
  intro hw _ _ rest
  have hb : (decide (x0 < 32) && decide (x1 < 32) && decide (x2 < 32)) = true := hw
  simp only [Bool.and_eq_true, decide_eq_true_eq] at hb
  obtain ⟨hl, hM, g0, f0, f1, f2⟩ := layout1 x0 x1 x2 1 7 (by decide) (by omega) (by omega) (by omega) (by decide) (w := 67108871 + x0 * 2097152 + x1 * 65536 + x2 * 2048) (by omega)
  exact of_word (i := (.sra x0 x1 x2)) rfl hl (by rw [show field (encode (.sra x0 x1 x2)) 26 6 = 1 from hM]; decide)
    (show candidate (67108871 + x0 * 2097152 + x1 * 65536 + x2 * 2048) = _ by rw [candidate01 hM]; delta major01; simp only [g0, f0, f1, f2]) hw rest

theorem slt (x0 x1 x2 : Nat) : Statement (.slt x0 x1 x2) := by
  intro hw _ _ rest
  have hb : (decide (x0 < 32) && decide (x1 < 32) && decide (x2 < 32)) = true := hw
  simp only [Bool.and_eq_true, decide_eq_true_eq] at hb
  obtain ⟨hl, hM, g0, f0, f1, f2⟩ := layout1 x0 x1 x2 1 8 (by decide) (by omega) (by omega) (by omega) (by decide) (w := 67108872 + x0 * 2097152 + x1 * 65536 + x2 * 2048) (by omega)
  exact of_word (i := (.slt x0 x1 x2)) rfl hl (by rw [show field (encode (.slt x0 x1 x2)) 26 6 = 1 from hM]; decide)
    (show candidate (67108872 + x0 * 2097152 + x1 * 65536 + x2 * 2048) = _ by rw [candidate01 hM]; delta major01; simp only [g0, f0, f1, f2]) hw rest

theorem sltZ (x0 x1 x2 : Nat) : Statement (.sltZ x0 x1 x2) := by
  intro hw _ _ rest
  have hb : (decide (x0 < 32) && decide (x1 < 32) && decide (x2 < 32)) = true := hw
  simp only [Bool.and_eq_true, decide_eq_true_eq] at hb
  obtain ⟨hl, hM, g0, f0, f1, f2⟩ := layout1 x0 x1 x2 1 9 (by decide) (by omega) (by omega) (by omega) (by decide) (w := 67108873 + x0 * 2097152 + x1 * 65536 + x2 * 2048) (by omega)
  exact of_word (i := (.sltZ x0 x1 x2)) rfl hl (by rw [show field (encode (.sltZ x0 x1 x2)) 26 6 = 1 from hM]; decide)
    (show candidate (67108873 + x0 * 2097152 + x1 * 65536 + x2 * 2048) = _ by rw [candidate01 hM]; delta major01; simp only [g0, f0, f1, f2]) hw rest

theorem min (x0 x1 x2 : Nat) : Statement (.min x0 x1 x2) := by
  intro hw _ _ rest
  have hb : (decide (x0 < 32) && decide (x1 < 32) && decide (x2 < 32)) = true := hw
  simp only [Bool.and_eq_true, decide_eq_true_eq] at hb
  obtain ⟨hl, hM, g0, f0, f1, f2⟩ := layout1 x0 x1 x2 1 10 (by decide) (by omega) (by omega) (by omega) (by decide) (w := 67108874 + x0 * 2097152 + x1 * 65536 + x2 * 2048) (by omega)
  exact of_word (i := (.min x0 x1 x2)) rfl hl (by rw [show field (encode (.min x0 x1 x2)) 26 6 = 1 from hM]; decide)
    (show candidate (67108874 + x0 * 2097152 + x1 * 65536 + x2 * 2048) = _ by rw [candidate01 hM]; delta major01; simp only [g0, f0, f1, f2]) hw rest

theorem max (x0 x1 x2 : Nat) : Statement (.max x0 x1 x2) := by
  intro hw _ _ rest
  have hb : (decide (x0 < 32) && decide (x1 < 32) && decide (x2 < 32)) = true := hw
  simp only [Bool.and_eq_true, decide_eq_true_eq] at hb
  obtain ⟨hl, hM, g0, f0, f1, f2⟩ := layout1 x0 x1 x2 1 11 (by decide) (by omega) (by omega) (by omega) (by decide) (w := 67108875 + x0 * 2097152 + x1 * 65536 + x2 * 2048) (by omega)
  exact of_word (i := (.max x0 x1 x2)) rfl hl (by rw [show field (encode (.max x0 x1 x2)) 26 6 = 1 from hM]; decide)
    (show candidate (67108875 + x0 * 2097152 + x1 * 65536 + x2 * 2048) = _ by rw [candidate01 hM]; delta major01; simp only [g0, f0, f1, f2]) hw rest

theorem minZ (x0 x1 x2 : Nat) : Statement (.minZ x0 x1 x2) := by
  intro hw _ _ rest
  have hb : (decide (x0 < 32) && decide (x1 < 32) && decide (x2 < 32)) = true := hw
  simp only [Bool.and_eq_true, decide_eq_true_eq] at hb
  obtain ⟨hl, hM, g0, f0, f1, f2⟩ := layout1 x0 x1 x2 1 12 (by decide) (by omega) (by omega) (by omega) (by decide) (w := 67108876 + x0 * 2097152 + x1 * 65536 + x2 * 2048) (by omega)
  exact of_word (i := (.minZ x0 x1 x2)) rfl hl (by rw [show field (encode (.minZ x0 x1 x2)) 26 6 = 1 from hM]; decide)
    (show candidate (67108876 + x0 * 2097152 + x1 * 65536 + x2 * 2048) = _ by rw [candidate01 hM]; delta major01; simp only [g0, f0, f1, f2]) hw rest

theorem maxZ (x0 x1 x2 : Nat) : Statement (.maxZ x0 x1 x2) := by
  intro hw _ _ rest
  have hb : (decide (x0 < 32) && decide (x1 < 32) && decide (x2 < 32)) = true := hw
  simp only [Bool.and_eq_true, decide_eq_true_eq] at hb
  obtain ⟨hl, hM, g0, f0, f1, f2⟩ := layout1 x0 x1 x2 1 13 (by decide) (by omega) (by omega) (by omega) (by decide) (w := 67108877 + x0 * 2097152 + x1 * 65536 + x2 * 2048) (by omega)
  exact of_word (i := (.maxZ x0 x1 x2)) rfl hl (by rw [show field (encode (.maxZ x0 x1 x2)) 26 6 = 1 from hM]; decide)
    (show candidate (67108877 + x0 * 2097152 + x1 * 65536 + x2 * 2048) = _ by rw [candidate01 hM]; delta major01; simp only [g0, f0, f1, f2]) hw rest

theorem clz (x0 x1 : Nat) : Statement (.clz x0 x1) := by
  intro hw _ _ rest
  have hb : (decide (x0 < 32) && decide (x1 < 32)) = true := hw
  simp only [Bool.and_eq_true, decide_eq_true_eq] at hb
  obtain ⟨hl, hM, g0, f0, f1⟩ := layout2 x0 x1 1 14 (by decide) (by omega) (by omega) (by decide) (w := 67108878 + x0 * 2097152 + x1 * 65536) (by omega)
  exact of_word (i := (.clz x0 x1)) rfl hl (by rw [show field (encode (.clz x0 x1)) 26 6 = 1 from hM]; decide)
    (show candidate (67108878 + x0 * 2097152 + x1 * 65536) = _ by rw [candidate01 hM]; delta major01; simp only [g0, f0, f1]) hw rest

theorem popc (x0 x1 : Nat) : Statement (.popc x0 x1) := by
  intro hw _ _ rest
  have hb : (decide (x0 < 32) && decide (x1 < 32)) = true := hw
  simp only [Bool.and_eq_true, decide_eq_true_eq] at hb
  obtain ⟨hl, hM, g0, f0, f1⟩ := layout2 x0 x1 1 15 (by decide) (by omega) (by omega) (by decide) (w := 67108879 + x0 * 2097152 + x1 * 65536) (by omega)
  exact of_word (i := (.popc x0 x1)) rfl hl (by rw [show field (encode (.popc x0 x1)) 26 6 = 1 from hM]; decide)
    (show candidate (67108879 + x0 * 2097152 + x1 * 65536) = _ by rw [candidate01 hM]; delta major01; simp only [g0, f0, f1]) hw rest

theorem sel (x0 x1 x2 : Nat) : Statement (.sel x0 x1 x2) := by
  intro hw _ _ rest
  have hb : (decide (x0 < 32) && decide (x1 < 32) && decide (x2 < 32)) = true := hw
  simp only [Bool.and_eq_true, decide_eq_true_eq] at hb
  obtain ⟨hl, hM, g0, f0, f1, f2⟩ := layout1 x0 x1 x2 1 16 (by decide) (by omega) (by omega) (by omega) (by decide) (w := 67108880 + x0 * 2097152 + x1 * 65536 + x2 * 2048) (by omega)
  exact of_word (i := (.sel x0 x1 x2)) rfl hl (by rw [show field (encode (.sel x0 x1 x2)) 26 6 = 1 from hM]; decide)
    (show candidate (67108880 + x0 * 2097152 + x1 * 65536 + x2 * 2048) = _ by rw [candidate01 hM]; delta major01; simp only [g0, f0, f1, f2]) hw rest

theorem mul (x0 x1 x2 : Nat) : Statement (.mul x0 x1 x2) := by
  intro hw _ _ rest
  have hb : (decide (x0 < 32) && decide (x1 < 32) && decide (x2 < 32)) = true := hw
  simp only [Bool.and_eq_true, decide_eq_true_eq] at hb
  obtain ⟨hl, hM, g0, f0, f1, f2⟩ := layout1 x0 x1 x2 1 17 (by decide) (by omega) (by omega) (by omega) (by decide) (w := 67108881 + x0 * 2097152 + x1 * 65536 + x2 * 2048) (by omega)
  exact of_word (i := (.mul x0 x1 x2)) rfl hl (by rw [show field (encode (.mul x0 x1 x2)) 26 6 = 1 from hM]; decide)
    (show candidate (67108881 + x0 * 2097152 + x1 * 65536 + x2 * 2048) = _ by rw [candidate01 hM]; delta major01; simp only [g0, f0, f1, f2]) hw rest

theorem mulh (x0 x1 x2 : Nat) : Statement (.mulh x0 x1 x2) := by
  intro hw _ _ rest
  have hb : (decide (x0 < 32) && decide (x1 < 32) && decide (x2 < 32)) = true := hw
  simp only [Bool.and_eq_true, decide_eq_true_eq] at hb
  obtain ⟨hl, hM, g0, f0, f1, f2⟩ := layout1 x0 x1 x2 1 18 (by decide) (by omega) (by omega) (by omega) (by decide) (w := 67108882 + x0 * 2097152 + x1 * 65536 + x2 * 2048) (by omega)
  exact of_word (i := (.mulh x0 x1 x2)) rfl hl (by rw [show field (encode (.mulh x0 x1 x2)) 26 6 = 1 from hM]; decide)
    (show candidate (67108882 + x0 * 2097152 + x1 * 65536 + x2 * 2048) = _ by rw [candidate01 hM]; delta major01; simp only [g0, f0, f1, f2]) hw rest

theorem mulhZ (x0 x1 x2 : Nat) : Statement (.mulhZ x0 x1 x2) := by
  intro hw _ _ rest
  have hb : (decide (x0 < 32) && decide (x1 < 32) && decide (x2 < 32)) = true := hw
  simp only [Bool.and_eq_true, decide_eq_true_eq] at hb
  obtain ⟨hl, hM, g0, f0, f1, f2⟩ := layout1 x0 x1 x2 1 19 (by decide) (by omega) (by omega) (by omega) (by decide) (w := 67108883 + x0 * 2097152 + x1 * 65536 + x2 * 2048) (by omega)
  exact of_word (i := (.mulhZ x0 x1 x2)) rfl hl (by rw [show field (encode (.mulhZ x0 x1 x2)) 26 6 = 1 from hM]; decide)
    (show candidate (67108883 + x0 * 2097152 + x1 * 65536 + x2 * 2048) = _ by rw [candidate01 hM]; delta major01; simp only [g0, f0, f1, f2]) hw rest

theorem div (x0 x1 x2 : Nat) : Statement (.div x0 x1 x2) := by
  intro hw _ _ rest
  have hb : (decide (x0 < 32) && decide (x1 < 32) && decide (x2 < 32)) = true := hw
  simp only [Bool.and_eq_true, decide_eq_true_eq] at hb
  obtain ⟨hl, hM, g0, f0, f1, f2⟩ := layout1 x0 x1 x2 1 20 (by decide) (by omega) (by omega) (by omega) (by decide) (w := 67108884 + x0 * 2097152 + x1 * 65536 + x2 * 2048) (by omega)
  exact of_word (i := (.div x0 x1 x2)) rfl hl (by rw [show field (encode (.div x0 x1 x2)) 26 6 = 1 from hM]; decide)
    (show candidate (67108884 + x0 * 2097152 + x1 * 65536 + x2 * 2048) = _ by rw [candidate01 hM]; delta major01; simp only [g0, f0, f1, f2]) hw rest

theorem divZ (x0 x1 x2 : Nat) : Statement (.divZ x0 x1 x2) := by
  intro hw _ _ rest
  have hb : (decide (x0 < 32) && decide (x1 < 32) && decide (x2 < 32)) = true := hw
  simp only [Bool.and_eq_true, decide_eq_true_eq] at hb
  obtain ⟨hl, hM, g0, f0, f1, f2⟩ := layout1 x0 x1 x2 1 21 (by decide) (by omega) (by omega) (by omega) (by decide) (w := 67108885 + x0 * 2097152 + x1 * 65536 + x2 * 2048) (by omega)
  exact of_word (i := (.divZ x0 x1 x2)) rfl hl (by rw [show field (encode (.divZ x0 x1 x2)) 26 6 = 1 from hM]; decide)
    (show candidate (67108885 + x0 * 2097152 + x1 * 65536 + x2 * 2048) = _ by rw [candidate01 hM]; delta major01; simp only [g0, f0, f1, f2]) hw rest

theorem rem (x0 x1 x2 : Nat) : Statement (.rem x0 x1 x2) := by
  intro hw _ _ rest
  have hb : (decide (x0 < 32) && decide (x1 < 32) && decide (x2 < 32)) = true := hw
  simp only [Bool.and_eq_true, decide_eq_true_eq] at hb
  obtain ⟨hl, hM, g0, f0, f1, f2⟩ := layout1 x0 x1 x2 1 22 (by decide) (by omega) (by omega) (by omega) (by decide) (w := 67108886 + x0 * 2097152 + x1 * 65536 + x2 * 2048) (by omega)
  exact of_word (i := (.rem x0 x1 x2)) rfl hl (by rw [show field (encode (.rem x0 x1 x2)) 26 6 = 1 from hM]; decide)
    (show candidate (67108886 + x0 * 2097152 + x1 * 65536 + x2 * 2048) = _ by rw [candidate01 hM]; delta major01; simp only [g0, f0, f1, f2]) hw rest

theorem remZ (x0 x1 x2 : Nat) : Statement (.remZ x0 x1 x2) := by
  intro hw _ _ rest
  have hb : (decide (x0 < 32) && decide (x1 < 32) && decide (x2 < 32)) = true := hw
  simp only [Bool.and_eq_true, decide_eq_true_eq] at hb
  obtain ⟨hl, hM, g0, f0, f1, f2⟩ := layout1 x0 x1 x2 1 23 (by decide) (by omega) (by omega) (by omega) (by decide) (w := 67108887 + x0 * 2097152 + x1 * 65536 + x2 * 2048) (by omega)
  exact of_word (i := (.remZ x0 x1 x2)) rfl hl (by rw [show field (encode (.remZ x0 x1 x2)) 26 6 = 1 from hM]; decide)
    (show candidate (67108887 + x0 * 2097152 + x1 * 65536 + x2 * 2048) = _ by rw [candidate01 hM]; delta major01; simp only [g0, f0, f1, f2]) hw rest

theorem addi (x0 x1 x2 : Nat) : Statement (.addi x0 x1 x2) := by
  intro hw _ _ rest
  have hb : (decide (x0 < 32) && decide (x1 < 32) && decide (x2 < 65536)) = true := hw
  simp only [Bool.and_eq_true, decide_eq_true_eq] at hb
  obtain ⟨hl, hM, f0, f1, f2⟩ := layout3 x0 x1 x2 2 (by decide) (by omega) (by omega) (by omega)  (w := 134217728 + x0 * 2097152 + x1 * 65536 + x2 * 1) (by omega)
  exact of_word (i := (.addi x0 x1 x2)) rfl hl (by rw [show field (encode (.addi x0 x1 x2)) 26 6 = 2 from hM]; decide)
    (show candidate (134217728 + x0 * 2097152 + x1 * 65536 + x2 * 1) = _ by delta candidate; simp only [hM, f0, f1, f2]) hw rest

theorem andi (x0 x1 x2 : Nat) : Statement (.andi x0 x1 x2) := by
  intro hw _ _ rest
  have hb : (decide (x0 < 32) && decide (x1 < 32) && decide (x2 < 65536)) = true := hw
  simp only [Bool.and_eq_true, decide_eq_true_eq] at hb
  obtain ⟨hl, hM, f0, f1, f2⟩ := layout3 x0 x1 x2 3 (by decide) (by omega) (by omega) (by omega)  (w := 201326592 + x0 * 2097152 + x1 * 65536 + x2 * 1) (by omega)
  exact of_word (i := (.andi x0 x1 x2)) rfl hl (by rw [show field (encode (.andi x0 x1 x2)) 26 6 = 3 from hM]; decide)
    (show candidate (201326592 + x0 * 2097152 + x1 * 65536 + x2 * 1) = _ by delta candidate; simp only [hM, f0, f1, f2]) hw rest

theorem ori (x0 x1 x2 : Nat) : Statement (.ori x0 x1 x2) := by
  intro hw _ _ rest
  have hb : (decide (x0 < 32) && decide (x1 < 32) && decide (x2 < 65536)) = true := hw
  simp only [Bool.and_eq_true, decide_eq_true_eq] at hb
  obtain ⟨hl, hM, f0, f1, f2⟩ := layout3 x0 x1 x2 4 (by decide) (by omega) (by omega) (by omega)  (w := 268435456 + x0 * 2097152 + x1 * 65536 + x2 * 1) (by omega)
  exact of_word (i := (.ori x0 x1 x2)) rfl hl (by rw [show field (encode (.ori x0 x1 x2)) 26 6 = 4 from hM]; decide)
    (show candidate (268435456 + x0 * 2097152 + x1 * 65536 + x2 * 1) = _ by delta candidate; simp only [hM, f0, f1, f2]) hw rest

theorem xori (x0 x1 x2 : Nat) : Statement (.xori x0 x1 x2) := by
  intro hw _ _ rest
  have hb : (decide (x0 < 32) && decide (x1 < 32) && decide (x2 < 65536)) = true := hw
  simp only [Bool.and_eq_true, decide_eq_true_eq] at hb
  obtain ⟨hl, hM, f0, f1, f2⟩ := layout3 x0 x1 x2 5 (by decide) (by omega) (by omega) (by omega)  (w := 335544320 + x0 * 2097152 + x1 * 65536 + x2 * 1) (by omega)
  exact of_word (i := (.xori x0 x1 x2)) rfl hl (by rw [show field (encode (.xori x0 x1 x2)) 26 6 = 5 from hM]; decide)
    (show candidate (335544320 + x0 * 2097152 + x1 * 65536 + x2 * 1) = _ by delta candidate; simp only [hM, f0, f1, f2]) hw rest

theorem slli (x0 x1 x2 : Nat) : Statement (.slli x0 x1 x2) := by
  intro hw _ _ rest
  have hb : (decide (x0 < 32) && decide (x1 < 32) && decide (x2 < 64)) = true := hw
  simp only [Bool.and_eq_true, decide_eq_true_eq] at hb
  obtain ⟨hl, hM, g0, f0, f1, f2⟩ := layout4 x0 x1 x2 6 0 (by decide) (by omega) (by omega) (by omega) (by decide) (w := 402653184 + x0 * 2097152 + x1 * 65536 + x2 * 1) (by omega)
  exact of_word (i := (.slli x0 x1 x2)) rfl hl (by rw [show field (encode (.slli x0 x1 x2)) 26 6 = 6 from hM]; decide)
    (show candidate (402653184 + x0 * 2097152 + x1 * 65536 + x2 * 1) = _ by rw [candidate06 hM]; delta major06; simp only [g0, f0, f1, f2]) hw rest

theorem srli (x0 x1 x2 : Nat) : Statement (.srli x0 x1 x2) := by
  intro hw _ _ rest
  have hb : (decide (x0 < 32) && decide (x1 < 32) && decide (x2 < 64)) = true := hw
  simp only [Bool.and_eq_true, decide_eq_true_eq] at hb
  obtain ⟨hl, hM, g0, f0, f1, f2⟩ := layout4 x0 x1 x2 6 1 (by decide) (by omega) (by omega) (by omega) (by decide) (w := 402653248 + x0 * 2097152 + x1 * 65536 + x2 * 1) (by omega)
  exact of_word (i := (.srli x0 x1 x2)) rfl hl (by rw [show field (encode (.srli x0 x1 x2)) 26 6 = 6 from hM]; decide)
    (show candidate (402653248 + x0 * 2097152 + x1 * 65536 + x2 * 1) = _ by rw [candidate06 hM]; delta major06; simp only [g0, f0, f1, f2]) hw rest

theorem srai (x0 x1 x2 : Nat) : Statement (.srai x0 x1 x2) := by
  intro hw _ _ rest
  have hb : (decide (x0 < 32) && decide (x1 < 32) && decide (x2 < 64)) = true := hw
  simp only [Bool.and_eq_true, decide_eq_true_eq] at hb
  obtain ⟨hl, hM, g0, f0, f1, f2⟩ := layout4 x0 x1 x2 6 2 (by decide) (by omega) (by omega) (by omega) (by decide) (w := 402653312 + x0 * 2097152 + x1 * 65536 + x2 * 1) (by omega)
  exact of_word (i := (.srai x0 x1 x2)) rfl hl (by rw [show field (encode (.srai x0 x1 x2)) 26 6 = 6 from hM]; decide)
    (show candidate (402653312 + x0 * 2097152 + x1 * 65536 + x2 * 1) = _ by rw [candidate06 hM]; delta major06; simp only [g0, f0, f1, f2]) hw rest

theorem slti (x0 x1 x2 : Nat) : Statement (.slti x0 x1 x2) := by
  intro hw _ _ rest
  have hb : (decide (x0 < 32) && decide (x1 < 32) && decide (x2 < 65536)) = true := hw
  simp only [Bool.and_eq_true, decide_eq_true_eq] at hb
  obtain ⟨hl, hM, f0, f1, f2⟩ := layout3 x0 x1 x2 9 (by decide) (by omega) (by omega) (by omega)  (w := 603979776 + x0 * 2097152 + x1 * 65536 + x2 * 1) (by omega)
  exact of_word (i := (.slti x0 x1 x2)) rfl hl (by rw [show field (encode (.slti x0 x1 x2)) 26 6 = 9 from hM]; decide)
    (show candidate (603979776 + x0 * 2097152 + x1 * 65536 + x2 * 1) = _ by delta candidate; simp only [hM, f0, f1, f2]) hw rest

theorem lui (x0 x1 : Nat) : Statement (.lui x0 x1) := by
  intro hw _ _ rest
  have hb : (decide (x0 < 32) && decide (x1 < 2097152)) = true := hw
  simp only [Bool.and_eq_true, decide_eq_true_eq] at hb
  obtain ⟨hl, hM, f0, f1⟩ := layout5 x0 x1 7 (by decide) (by omega) (by omega)  (w := 469762048 + x0 * 2097152 + x1 * 1) (by omega)
  exact of_word (i := (.lui x0 x1)) rfl hl (by rw [show field (encode (.lui x0 x1)) 26 6 = 7 from hM]; decide)
    (show candidate (469762048 + x0 * 2097152 + x1 * 1) = _ by delta candidate; simp only [hM, f0, f1]) hw rest

theorem addpc (x0 x1 : Nat) : Statement (.addpc x0 x1) := by
  intro hw _ _ rest
  have hb : (decide (x0 < 32) && decide (x1 < 2097152)) = true := hw
  simp only [Bool.and_eq_true, decide_eq_true_eq] at hb
  obtain ⟨hl, hM, f0, f1⟩ := layout5 x0 x1 8 (by decide) (by omega) (by omega)  (w := 536870912 + x0 * 2097152 + x1 * 1) (by omega)
  exact of_word (i := (.addpc x0 x1)) rfl hl (by rw [show field (encode (.addpc x0 x1)) 26 6 = 8 from hM]; decide)
    (show candidate (536870912 + x0 * 2097152 + x1 * 1) = _ by delta candidate; simp only [hM, f0, f1]) hw rest

theorem ldsS8 (x0 x1 x2 : Nat) : Statement (.ldsS8 x0 x1 x2) := by
  intro hw _ _ rest
  have hb : (decide (x0 < 32) && decide (x1 < 32) && decide (x2 < 8192)) = true := hw
  simp only [Bool.and_eq_true, decide_eq_true_eq] at hb
  obtain ⟨hl, hM, g0, f0, f1, f2⟩ := layout6 x0 x1 x2 10 1 (by decide) (by omega) (by omega) (by omega) (by decide) (w := 671096832 + x0 * 2097152 + x1 * 65536 + x2 * 1) (by omega)
  exact of_word (i := (.ldsS8 x0 x1 x2)) rfl hl (by rw [show field (encode (.ldsS8 x0 x1 x2)) 26 6 = 10 from hM]; decide)
    (show candidate (671096832 + x0 * 2097152 + x1 * 65536 + x2 * 1) = _ by rw [candidate0A hM]; delta major0A; simp only [g0, f0, f1, f2]) hw rest

theorem ldsZ8 (x0 x1 x2 : Nat) : Statement (.ldsZ8 x0 x1 x2) := by
  intro hw _ _ rest
  have hb : (decide (x0 < 32) && decide (x1 < 32) && decide (x2 < 8192)) = true := hw
  simp only [Bool.and_eq_true, decide_eq_true_eq] at hb
  obtain ⟨hl, hM, g0, f0, f1, f2⟩ := layout6 x0 x1 x2 10 0 (by decide) (by omega) (by omega) (by omega) (by decide) (w := 671088640 + x0 * 2097152 + x1 * 65536 + x2 * 1) (by omega)
  exact of_word (i := (.ldsZ8 x0 x1 x2)) rfl hl (by rw [show field (encode (.ldsZ8 x0 x1 x2)) 26 6 = 10 from hM]; decide)
    (show candidate (671088640 + x0 * 2097152 + x1 * 65536 + x2 * 1) = _ by rw [candidate0A hM]; delta major0A; simp only [g0, f0, f1, f2]) hw rest

theorem ldsS16 (x0 x1 x2 : Nat) : Statement (.ldsS16 x0 x1 x2) := by
  intro hw _ _ rest
  have hb : (decide (x0 < 32) && decide (x1 < 32) && decide (x2 < 8192)) = true := hw
  simp only [Bool.and_eq_true, decide_eq_true_eq] at hb
  obtain ⟨hl, hM, g0, f0, f1, f2⟩ := layout6 x0 x1 x2 10 3 (by decide) (by omega) (by omega) (by omega) (by decide) (w := 671113216 + x0 * 2097152 + x1 * 65536 + x2 * 1) (by omega)
  exact of_word (i := (.ldsS16 x0 x1 x2)) rfl hl (by rw [show field (encode (.ldsS16 x0 x1 x2)) 26 6 = 10 from hM]; decide)
    (show candidate (671113216 + x0 * 2097152 + x1 * 65536 + x2 * 1) = _ by rw [candidate0A hM]; delta major0A; simp only [g0, f0, f1, f2]) hw rest

theorem ldsZ16 (x0 x1 x2 : Nat) : Statement (.ldsZ16 x0 x1 x2) := by
  intro hw _ _ rest
  have hb : (decide (x0 < 32) && decide (x1 < 32) && decide (x2 < 8192)) = true := hw
  simp only [Bool.and_eq_true, decide_eq_true_eq] at hb
  obtain ⟨hl, hM, g0, f0, f1, f2⟩ := layout6 x0 x1 x2 10 2 (by decide) (by omega) (by omega) (by omega) (by decide) (w := 671105024 + x0 * 2097152 + x1 * 65536 + x2 * 1) (by omega)
  exact of_word (i := (.ldsZ16 x0 x1 x2)) rfl hl (by rw [show field (encode (.ldsZ16 x0 x1 x2)) 26 6 = 10 from hM]; decide)
    (show candidate (671105024 + x0 * 2097152 + x1 * 65536 + x2 * 1) = _ by rw [candidate0A hM]; delta major0A; simp only [g0, f0, f1, f2]) hw rest

theorem ldsS32 (x0 x1 x2 : Nat) : Statement (.ldsS32 x0 x1 x2) := by
  intro hw _ _ rest
  have hb : (decide (x0 < 32) && decide (x1 < 32) && decide (x2 < 8192)) = true := hw
  simp only [Bool.and_eq_true, decide_eq_true_eq] at hb
  obtain ⟨hl, hM, g0, f0, f1, f2⟩ := layout6 x0 x1 x2 10 5 (by decide) (by omega) (by omega) (by omega) (by decide) (w := 671129600 + x0 * 2097152 + x1 * 65536 + x2 * 1) (by omega)
  exact of_word (i := (.ldsS32 x0 x1 x2)) rfl hl (by rw [show field (encode (.ldsS32 x0 x1 x2)) 26 6 = 10 from hM]; decide)
    (show candidate (671129600 + x0 * 2097152 + x1 * 65536 + x2 * 1) = _ by rw [candidate0A hM]; delta major0A; simp only [g0, f0, f1, f2]) hw rest

theorem ldsZ32 (x0 x1 x2 : Nat) : Statement (.ldsZ32 x0 x1 x2) := by
  intro hw _ _ rest
  have hb : (decide (x0 < 32) && decide (x1 < 32) && decide (x2 < 8192)) = true := hw
  simp only [Bool.and_eq_true, decide_eq_true_eq] at hb
  obtain ⟨hl, hM, g0, f0, f1, f2⟩ := layout6 x0 x1 x2 10 4 (by decide) (by omega) (by omega) (by omega) (by decide) (w := 671121408 + x0 * 2097152 + x1 * 65536 + x2 * 1) (by omega)
  exact of_word (i := (.ldsZ32 x0 x1 x2)) rfl hl (by rw [show field (encode (.ldsZ32 x0 x1 x2)) 26 6 = 10 from hM]; decide)
    (show candidate (671121408 + x0 * 2097152 + x1 * 65536 + x2 * 1) = _ by rw [candidate0A hM]; delta major0A; simp only [g0, f0, f1, f2]) hw rest

theorem ldsZ64 (x0 x1 x2 : Nat) : Statement (.ldsZ64 x0 x1 x2) := by
  intro hw _ _ rest
  have hb : (decide (x0 < 32) && decide (x1 < 32) && decide (x2 < 8192)) = true := hw
  simp only [Bool.and_eq_true, decide_eq_true_eq] at hb
  obtain ⟨hl, hM, g0, f0, f1, f2⟩ := layout6 x0 x1 x2 10 6 (by decide) (by omega) (by omega) (by omega) (by decide) (w := 671137792 + x0 * 2097152 + x1 * 65536 + x2 * 1) (by omega)
  exact of_word (i := (.ldsZ64 x0 x1 x2)) rfl hl (by rw [show field (encode (.ldsZ64 x0 x1 x2)) 26 6 = 10 from hM]; decide)
    (show candidate (671137792 + x0 * 2097152 + x1 * 65536 + x2 * 1) = _ by rw [candidate0A hM]; delta major0A; simp only [g0, f0, f1, f2]) hw rest

theorem stsZ8 (x0 x1 x2 : Nat) : Statement (.stsZ8 x0 x1 x2) := by
  intro hw _ _ rest
  have hb : (decide (x0 < 32) && decide (x1 < 32) && decide (x2 < 8192)) = true := hw
  simp only [Bool.and_eq_true, decide_eq_true_eq] at hb
  obtain ⟨hl, hM, g0, f0, f1, f2⟩ := layout6 x0 x1 x2 11 0 (by decide) (by omega) (by omega) (by omega) (by decide) (w := 738197504 + x0 * 2097152 + x1 * 65536 + x2 * 1) (by omega)
  exact of_word (i := (.stsZ8 x0 x1 x2)) rfl hl (by rw [show field (encode (.stsZ8 x0 x1 x2)) 26 6 = 11 from hM]; decide)
    (show candidate (738197504 + x0 * 2097152 + x1 * 65536 + x2 * 1) = _ by rw [candidate0B hM]; delta major0B; simp only [g0, f0, f1, f2]) hw rest

theorem stsZ16 (x0 x1 x2 : Nat) : Statement (.stsZ16 x0 x1 x2) := by
  intro hw _ _ rest
  have hb : (decide (x0 < 32) && decide (x1 < 32) && decide (x2 < 8192)) = true := hw
  simp only [Bool.and_eq_true, decide_eq_true_eq] at hb
  obtain ⟨hl, hM, g0, f0, f1, f2⟩ := layout6 x0 x1 x2 11 2 (by decide) (by omega) (by omega) (by omega) (by decide) (w := 738213888 + x0 * 2097152 + x1 * 65536 + x2 * 1) (by omega)
  exact of_word (i := (.stsZ16 x0 x1 x2)) rfl hl (by rw [show field (encode (.stsZ16 x0 x1 x2)) 26 6 = 11 from hM]; decide)
    (show candidate (738213888 + x0 * 2097152 + x1 * 65536 + x2 * 1) = _ by rw [candidate0B hM]; delta major0B; simp only [g0, f0, f1, f2]) hw rest

theorem stsZ32 (x0 x1 x2 : Nat) : Statement (.stsZ32 x0 x1 x2) := by
  intro hw _ _ rest
  have hb : (decide (x0 < 32) && decide (x1 < 32) && decide (x2 < 8192)) = true := hw
  simp only [Bool.and_eq_true, decide_eq_true_eq] at hb
  obtain ⟨hl, hM, g0, f0, f1, f2⟩ := layout6 x0 x1 x2 11 4 (by decide) (by omega) (by omega) (by omega) (by decide) (w := 738230272 + x0 * 2097152 + x1 * 65536 + x2 * 1) (by omega)
  exact of_word (i := (.stsZ32 x0 x1 x2)) rfl hl (by rw [show field (encode (.stsZ32 x0 x1 x2)) 26 6 = 11 from hM]; decide)
    (show candidate (738230272 + x0 * 2097152 + x1 * 65536 + x2 * 1) = _ by rw [candidate0B hM]; delta major0B; simp only [g0, f0, f1, f2]) hw rest

theorem stsZ64 (x0 x1 x2 : Nat) : Statement (.stsZ64 x0 x1 x2) := by
  intro hw _ _ rest
  have hb : (decide (x0 < 32) && decide (x1 < 32) && decide (x2 < 8192)) = true := hw
  simp only [Bool.and_eq_true, decide_eq_true_eq] at hb
  obtain ⟨hl, hM, g0, f0, f1, f2⟩ := layout6 x0 x1 x2 11 6 (by decide) (by omega) (by omega) (by omega) (by decide) (w := 738246656 + x0 * 2097152 + x1 * 65536 + x2 * 1) (by omega)
  exact of_word (i := (.stsZ64 x0 x1 x2)) rfl hl (by rw [show field (encode (.stsZ64 x0 x1 x2)) 26 6 = 11 from hM]; decide)
    (show candidate (738246656 + x0 * 2097152 + x1 * 65536 + x2 * 1) = _ by rw [candidate0B hM]; delta major0B; simp only [g0, f0, f1, f2]) hw rest

theorem beq (x0 x1 x2 : Nat) : Statement (.beq x0 x1 x2) := by
  intro hw _ _ rest
  have hb : (decide (x0 < 32) && decide (x1 < 32) && decide (x2 < 8192)) = true := hw
  simp only [Bool.and_eq_true, decide_eq_true_eq] at hb
  obtain ⟨hl, hM, g0, f0, f1, f2⟩ := layout6 x0 x1 x2 12 0 (by decide) (by omega) (by omega) (by omega) (by decide) (w := 805306368 + x0 * 2097152 + x1 * 65536 + x2 * 1) (by omega)
  exact of_word (i := (.beq x0 x1 x2)) rfl hl (by rw [show field (encode (.beq x0 x1 x2)) 26 6 = 12 from hM]; decide)
    (show candidate (805306368 + x0 * 2097152 + x1 * 65536 + x2 * 1) = _ by rw [candidate0C hM]; delta major0C; simp only [g0, f0, f1, f2]) hw rest

theorem bne (x0 x1 x2 : Nat) : Statement (.bne x0 x1 x2) := by
  intro hw _ _ rest
  have hb : (decide (x0 < 32) && decide (x1 < 32) && decide (x2 < 8192)) = true := hw
  simp only [Bool.and_eq_true, decide_eq_true_eq] at hb
  obtain ⟨hl, hM, g0, f0, f1, f2⟩ := layout6 x0 x1 x2 12 1 (by decide) (by omega) (by omega) (by omega) (by decide) (w := 805314560 + x0 * 2097152 + x1 * 65536 + x2 * 1) (by omega)
  exact of_word (i := (.bne x0 x1 x2)) rfl hl (by rw [show field (encode (.bne x0 x1 x2)) 26 6 = 12 from hM]; decide)
    (show candidate (805314560 + x0 * 2097152 + x1 * 65536 + x2 * 1) = _ by rw [candidate0C hM]; delta major0C; simp only [g0, f0, f1, f2]) hw rest

theorem blt (x0 x1 x2 : Nat) : Statement (.blt x0 x1 x2) := by
  intro hw _ _ rest
  have hb : (decide (x0 < 32) && decide (x1 < 32) && decide (x2 < 8192)) = true := hw
  simp only [Bool.and_eq_true, decide_eq_true_eq] at hb
  obtain ⟨hl, hM, g0, f0, f1, f2⟩ := layout6 x0 x1 x2 12 2 (by decide) (by omega) (by omega) (by omega) (by decide) (w := 805322752 + x0 * 2097152 + x1 * 65536 + x2 * 1) (by omega)
  exact of_word (i := (.blt x0 x1 x2)) rfl hl (by rw [show field (encode (.blt x0 x1 x2)) 26 6 = 12 from hM]; decide)
    (show candidate (805322752 + x0 * 2097152 + x1 * 65536 + x2 * 1) = _ by rw [candidate0C hM]; delta major0C; simp only [g0, f0, f1, f2]) hw rest

theorem bge (x0 x1 x2 : Nat) : Statement (.bge x0 x1 x2) := by
  intro hw _ _ rest
  have hb : (decide (x0 < 32) && decide (x1 < 32) && decide (x2 < 8192)) = true := hw
  simp only [Bool.and_eq_true, decide_eq_true_eq] at hb
  obtain ⟨hl, hM, g0, f0, f1, f2⟩ := layout6 x0 x1 x2 12 3 (by decide) (by omega) (by omega) (by omega) (by decide) (w := 805330944 + x0 * 2097152 + x1 * 65536 + x2 * 1) (by omega)
  exact of_word (i := (.bge x0 x1 x2)) rfl hl (by rw [show field (encode (.bge x0 x1 x2)) 26 6 = 12 from hM]; decide)
    (show candidate (805330944 + x0 * 2097152 + x1 * 65536 + x2 * 1) = _ by rw [candidate0C hM]; delta major0C; simp only [g0, f0, f1, f2]) hw rest

theorem bltZ (x0 x1 x2 : Nat) : Statement (.bltZ x0 x1 x2) := by
  intro hw _ _ rest
  have hb : (decide (x0 < 32) && decide (x1 < 32) && decide (x2 < 8192)) = true := hw
  simp only [Bool.and_eq_true, decide_eq_true_eq] at hb
  obtain ⟨hl, hM, g0, f0, f1, f2⟩ := layout6 x0 x1 x2 12 4 (by decide) (by omega) (by omega) (by omega) (by decide) (w := 805339136 + x0 * 2097152 + x1 * 65536 + x2 * 1) (by omega)
  exact of_word (i := (.bltZ x0 x1 x2)) rfl hl (by rw [show field (encode (.bltZ x0 x1 x2)) 26 6 = 12 from hM]; decide)
    (show candidate (805339136 + x0 * 2097152 + x1 * 65536 + x2 * 1) = _ by rw [candidate0C hM]; delta major0C; simp only [g0, f0, f1, f2]) hw rest

theorem bgeZ (x0 x1 x2 : Nat) : Statement (.bgeZ x0 x1 x2) := by
  intro hw _ _ rest
  have hb : (decide (x0 < 32) && decide (x1 < 32) && decide (x2 < 8192)) = true := hw
  simp only [Bool.and_eq_true, decide_eq_true_eq] at hb
  obtain ⟨hl, hM, g0, f0, f1, f2⟩ := layout6 x0 x1 x2 12 5 (by decide) (by omega) (by omega) (by omega) (by decide) (w := 805347328 + x0 * 2097152 + x1 * 65536 + x2 * 1) (by omega)
  exact of_word (i := (.bgeZ x0 x1 x2)) rfl hl (by rw [show field (encode (.bgeZ x0 x1 x2)) 26 6 = 12 from hM]; decide)
    (show candidate (805347328 + x0 * 2097152 + x1 * 65536 + x2 * 1) = _ by rw [candidate0C hM]; delta major0C; simp only [g0, f0, f1, f2]) hw rest

theorem jal (x0 x1 : Nat) : Statement (.jal x0 x1) := by
  intro hw _ _ rest
  have hb : (decide (x0 < 32) && decide (x1 < 2097152)) = true := hw
  simp only [Bool.and_eq_true, decide_eq_true_eq] at hb
  obtain ⟨hl, hM, f0, f1⟩ := layout5 x0 x1 13 (by decide) (by omega) (by omega)  (w := 872415232 + x0 * 2097152 + x1 * 1) (by omega)
  exact of_word (i := (.jal x0 x1)) rfl hl (by rw [show field (encode (.jal x0 x1)) 26 6 = 13 from hM]; decide)
    (show candidate (872415232 + x0 * 2097152 + x1 * 1) = _ by delta candidate; simp only [hM, f0, f1]) hw rest

theorem jalr (x0 x1 x2 : Nat) : Statement (.jalr x0 x1 x2) := by
  intro hw _ _ rest
  have hb : (decide (x0 < 32) && decide (x1 < 32) && decide (x2 < 65536)) = true := hw
  simp only [Bool.and_eq_true, decide_eq_true_eq] at hb
  obtain ⟨hl, hM, f0, f1, f2⟩ := layout3 x0 x1 x2 14 (by decide) (by omega) (by omega) (by omega)  (w := 939524096 + x0 * 2097152 + x1 * 65536 + x2 * 1) (by omega)
  exact of_word (i := (.jalr x0 x1 x2)) rfl hl (by rw [show field (encode (.jalr x0 x1 x2)) 26 6 = 14 from hM]; decide)
    (show candidate (939524096 + x0 * 2097152 + x1 * 65536 + x2 * 1) = _ by delta candidate; simp only [hM, f0, f1, f2]) hw rest

theorem csrrw (x0 x1 x2 : Nat) : Statement (.csrrw x0 x1 x2) := by
  intro hw _ _ rest
  have hb : (decide (x0 < 32) && decide (x1 < 32) && decide (x2 < 4096)) = true := hw
  simp only [Bool.and_eq_true, decide_eq_true_eq] at hb
  obtain ⟨hl, hM, g0, f0, f1, f2⟩ := layout7 x0 x1 x2 15 0 (by decide) (by omega) (by omega) (by omega) (by decide) (w := 1006632960 + x0 * 2097152 + x1 * 65536 + x2 * 1) (by omega)
  exact of_word (i := (.csrrw x0 x1 x2)) rfl hl (by rw [show field (encode (.csrrw x0 x1 x2)) 26 6 = 15 from hM]; decide)
    (show candidate (1006632960 + x0 * 2097152 + x1 * 65536 + x2 * 1) = _ by rw [candidate0F hM]; delta major0F; simp only [g0, f0, f1, f2]) hw rest

theorem csrrs (x0 x1 x2 : Nat) : Statement (.csrrs x0 x1 x2) := by
  intro hw _ _ rest
  have hb : (decide (x0 < 32) && decide (x1 < 32) && decide (x2 < 4096)) = true := hw
  simp only [Bool.and_eq_true, decide_eq_true_eq] at hb
  obtain ⟨hl, hM, g0, f0, f1, f2⟩ := layout7 x0 x1 x2 15 1 (by decide) (by omega) (by omega) (by omega) (by decide) (w := 1006649344 + x0 * 2097152 + x1 * 65536 + x2 * 1) (by omega)
  exact of_word (i := (.csrrs x0 x1 x2)) rfl hl (by rw [show field (encode (.csrrs x0 x1 x2)) 26 6 = 15 from hM]; decide)
    (show candidate (1006649344 + x0 * 2097152 + x1 * 65536 + x2 * 1) = _ by rw [candidate0F hM]; delta major0F; simp only [g0, f0, f1, f2]) hw rest

theorem csrrc (x0 x1 x2 : Nat) : Statement (.csrrc x0 x1 x2) := by
  intro hw _ _ rest
  have hb : (decide (x0 < 32) && decide (x1 < 32) && decide (x2 < 4096)) = true := hw
  simp only [Bool.and_eq_true, decide_eq_true_eq] at hb
  obtain ⟨hl, hM, g0, f0, f1, f2⟩ := layout7 x0 x1 x2 15 2 (by decide) (by omega) (by omega) (by omega) (by decide) (w := 1006665728 + x0 * 2097152 + x1 * 65536 + x2 * 1) (by omega)
  exact of_word (i := (.csrrc x0 x1 x2)) rfl hl (by rw [show field (encode (.csrrc x0 x1 x2)) 26 6 = 15 from hM]; decide)
    (show candidate (1006665728 + x0 * 2097152 + x1 * 65536 + x2 * 1) = _ by rw [candidate0F hM]; delta major0F; simp only [g0, f0, f1, f2]) hw rest

theorem vadd (x0 x1 x2 x3 x4 x5 x6 : Nat) : Statement (.vadd x0 x1 x2 x3 x4 x5 x6) := by
  intro hw _ _ rest
  have hb : (decide (x0 < 32) && decide (x1 < 32) && decide (x2 < 32) && decide (x3 < 8) && decide (x4 < 8) && decide (x5 < 2) && decide (x6 < 2)) = true := hw
  simp only [Bool.and_eq_true, decide_eq_true_eq] at hb
  obtain ⟨hl, hM, g0, f0, f1, f2, f3, f4, f5, f6⟩ := layout8 x0 x1 x2 x3 x4 x5 x6 16 0 (by decide) (by omega) (by omega) (by omega) (by omega) (by omega) (by omega) (by omega) (by decide) (w := 1073741824 + x0 * 2097152 + x1 * 65536 + x2 * 2048 + x3 * 256 + x4 * 32 + x5 * 16 + x6 * 8) (by omega)
  exact of_word (i := (.vadd x0 x1 x2 x3 x4 x5 x6)) rfl hl (by rw [show field (encode (.vadd x0 x1 x2 x3 x4 x5 x6)) 26 6 = 16 from hM]; decide)
    (show candidate (1073741824 + x0 * 2097152 + x1 * 65536 + x2 * 2048 + x3 * 256 + x4 * 32 + x5 * 16 + x6 * 8) = _ by rw [candidate10 hM]; delta major10; simp only [g0, f0, f1, f2, f3, f4, f5, f6]) hw rest

theorem vsub (x0 x1 x2 x3 x4 x5 x6 : Nat) : Statement (.vsub x0 x1 x2 x3 x4 x5 x6) := by
  intro hw _ _ rest
  have hb : (decide (x0 < 32) && decide (x1 < 32) && decide (x2 < 32) && decide (x3 < 8) && decide (x4 < 8) && decide (x5 < 2) && decide (x6 < 2)) = true := hw
  simp only [Bool.and_eq_true, decide_eq_true_eq] at hb
  obtain ⟨hl, hM, g0, f0, f1, f2, f3, f4, f5, f6⟩ := layout8 x0 x1 x2 x3 x4 x5 x6 16 1 (by decide) (by omega) (by omega) (by omega) (by omega) (by omega) (by omega) (by omega) (by decide) (w := 1073741825 + x0 * 2097152 + x1 * 65536 + x2 * 2048 + x3 * 256 + x4 * 32 + x5 * 16 + x6 * 8) (by omega)
  exact of_word (i := (.vsub x0 x1 x2 x3 x4 x5 x6)) rfl hl (by rw [show field (encode (.vsub x0 x1 x2 x3 x4 x5 x6)) 26 6 = 16 from hM]; decide)
    (show candidate (1073741825 + x0 * 2097152 + x1 * 65536 + x2 * 2048 + x3 * 256 + x4 * 32 + x5 * 16 + x6 * 8) = _ by rw [candidate10 hM]; delta major10; simp only [g0, f0, f1, f2, f3, f4, f5, f6]) hw rest

theorem vmul (x0 x1 x2 x3 x4 x5 x6 : Nat) : Statement (.vmul x0 x1 x2 x3 x4 x5 x6) := by
  intro hw _ _ rest
  have hb : (decide (x0 < 32) && decide (x1 < 32) && decide (x2 < 32) && decide (x3 < 8) && decide (x4 < 8) && decide (x5 < 2) && decide (x6 < 2)) = true := hw
  simp only [Bool.and_eq_true, decide_eq_true_eq] at hb
  obtain ⟨hl, hM, g0, f0, f1, f2, f3, f4, f5, f6⟩ := layout8 x0 x1 x2 x3 x4 x5 x6 16 2 (by decide) (by omega) (by omega) (by omega) (by omega) (by omega) (by omega) (by omega) (by decide) (w := 1073741826 + x0 * 2097152 + x1 * 65536 + x2 * 2048 + x3 * 256 + x4 * 32 + x5 * 16 + x6 * 8) (by omega)
  exact of_word (i := (.vmul x0 x1 x2 x3 x4 x5 x6)) rfl hl (by rw [show field (encode (.vmul x0 x1 x2 x3 x4 x5 x6)) 26 6 = 16 from hM]; decide)
    (show candidate (1073741826 + x0 * 2097152 + x1 * 65536 + x2 * 2048 + x3 * 256 + x4 * 32 + x5 * 16 + x6 * 8) = _ by rw [candidate10 hM]; delta major10; simp only [g0, f0, f1, f2, f3, f4, f5, f6]) hw rest

theorem vmulh (x0 x1 x2 x3 x4 x5 x6 : Nat) : Statement (.vmulh x0 x1 x2 x3 x4 x5 x6) := by
  intro hw _ _ rest
  have hb : (decide (x0 < 32) && decide (x1 < 32) && decide (x2 < 32) && decide (x3 < 8) && decide (x4 < 8) && decide (x5 < 2) && decide (x6 < 2)) = true := hw
  simp only [Bool.and_eq_true, decide_eq_true_eq] at hb
  obtain ⟨hl, hM, g0, f0, f1, f2, f3, f4, f5, f6⟩ := layout8 x0 x1 x2 x3 x4 x5 x6 16 3 (by decide) (by omega) (by omega) (by omega) (by omega) (by omega) (by omega) (by omega) (by decide) (w := 1073741827 + x0 * 2097152 + x1 * 65536 + x2 * 2048 + x3 * 256 + x4 * 32 + x5 * 16 + x6 * 8) (by omega)
  exact of_word (i := (.vmulh x0 x1 x2 x3 x4 x5 x6)) rfl hl (by rw [show field (encode (.vmulh x0 x1 x2 x3 x4 x5 x6)) 26 6 = 16 from hM]; decide)
    (show candidate (1073741827 + x0 * 2097152 + x1 * 65536 + x2 * 2048 + x3 * 256 + x4 * 32 + x5 * 16 + x6 * 8) = _ by rw [candidate10 hM]; delta major10; simp only [g0, f0, f1, f2, f3, f4, f5, f6]) hw rest

theorem vmin (x0 x1 x2 x3 x4 x5 x6 : Nat) : Statement (.vmin x0 x1 x2 x3 x4 x5 x6) := by
  intro hw _ _ rest
  have hb : (decide (x0 < 32) && decide (x1 < 32) && decide (x2 < 32) && decide (x3 < 8) && decide (x4 < 8) && decide (x5 < 2) && decide (x6 < 2)) = true := hw
  simp only [Bool.and_eq_true, decide_eq_true_eq] at hb
  obtain ⟨hl, hM, g0, f0, f1, f2, f3, f4, f5, f6⟩ := layout8 x0 x1 x2 x3 x4 x5 x6 16 4 (by decide) (by omega) (by omega) (by omega) (by omega) (by omega) (by omega) (by omega) (by decide) (w := 1073741828 + x0 * 2097152 + x1 * 65536 + x2 * 2048 + x3 * 256 + x4 * 32 + x5 * 16 + x6 * 8) (by omega)
  exact of_word (i := (.vmin x0 x1 x2 x3 x4 x5 x6)) rfl hl (by rw [show field (encode (.vmin x0 x1 x2 x3 x4 x5 x6)) 26 6 = 16 from hM]; decide)
    (show candidate (1073741828 + x0 * 2097152 + x1 * 65536 + x2 * 2048 + x3 * 256 + x4 * 32 + x5 * 16 + x6 * 8) = _ by rw [candidate10 hM]; delta major10; simp only [g0, f0, f1, f2, f3, f4, f5, f6]) hw rest

theorem vmax (x0 x1 x2 x3 x4 x5 x6 : Nat) : Statement (.vmax x0 x1 x2 x3 x4 x5 x6) := by
  intro hw _ _ rest
  have hb : (decide (x0 < 32) && decide (x1 < 32) && decide (x2 < 32) && decide (x3 < 8) && decide (x4 < 8) && decide (x5 < 2) && decide (x6 < 2)) = true := hw
  simp only [Bool.and_eq_true, decide_eq_true_eq] at hb
  obtain ⟨hl, hM, g0, f0, f1, f2, f3, f4, f5, f6⟩ := layout8 x0 x1 x2 x3 x4 x5 x6 16 5 (by decide) (by omega) (by omega) (by omega) (by omega) (by omega) (by omega) (by omega) (by decide) (w := 1073741829 + x0 * 2097152 + x1 * 65536 + x2 * 2048 + x3 * 256 + x4 * 32 + x5 * 16 + x6 * 8) (by omega)
  exact of_word (i := (.vmax x0 x1 x2 x3 x4 x5 x6)) rfl hl (by rw [show field (encode (.vmax x0 x1 x2 x3 x4 x5 x6)) 26 6 = 16 from hM]; decide)
    (show candidate (1073741829 + x0 * 2097152 + x1 * 65536 + x2 * 2048 + x3 * 256 + x4 * 32 + x5 * 16 + x6 * 8) = _ by rw [candidate10 hM]; delta major10; simp only [g0, f0, f1, f2, f3, f4, f5, f6]) hw rest

theorem vaddSat (x0 x1 x2 x3 x4 x5 x6 : Nat) : Statement (.vaddSat x0 x1 x2 x3 x4 x5 x6) := by
  intro hw _ _ rest
  have hb : (decide (x0 < 32) && decide (x1 < 32) && decide (x2 < 32) && decide (x3 < 8) && decide (x4 < 8) && decide (x5 < 2) && decide (x6 < 2)) = true := hw
  simp only [Bool.and_eq_true, decide_eq_true_eq] at hb
  obtain ⟨hl, hM, g0, f0, f1, f2, f3, f4, f5, f6⟩ := layout8 x0 x1 x2 x3 x4 x5 x6 16 6 (by decide) (by omega) (by omega) (by omega) (by omega) (by omega) (by omega) (by omega) (by decide) (w := 1073741830 + x0 * 2097152 + x1 * 65536 + x2 * 2048 + x3 * 256 + x4 * 32 + x5 * 16 + x6 * 8) (by omega)
  exact of_word (i := (.vaddSat x0 x1 x2 x3 x4 x5 x6)) rfl hl (by rw [show field (encode (.vaddSat x0 x1 x2 x3 x4 x5 x6)) 26 6 = 16 from hM]; decide)
    (show candidate (1073741830 + x0 * 2097152 + x1 * 65536 + x2 * 2048 + x3 * 256 + x4 * 32 + x5 * 16 + x6 * 8) = _ by rw [candidate10 hM]; delta major10; simp only [g0, f0, f1, f2, f3, f4, f5, f6]) hw rest

theorem vsubSat (x0 x1 x2 x3 x4 x5 x6 : Nat) : Statement (.vsubSat x0 x1 x2 x3 x4 x5 x6) := by
  intro hw _ _ rest
  have hb : (decide (x0 < 32) && decide (x1 < 32) && decide (x2 < 32) && decide (x3 < 8) && decide (x4 < 8) && decide (x5 < 2) && decide (x6 < 2)) = true := hw
  simp only [Bool.and_eq_true, decide_eq_true_eq] at hb
  obtain ⟨hl, hM, g0, f0, f1, f2, f3, f4, f5, f6⟩ := layout8 x0 x1 x2 x3 x4 x5 x6 16 7 (by decide) (by omega) (by omega) (by omega) (by omega) (by omega) (by omega) (by omega) (by decide) (w := 1073741831 + x0 * 2097152 + x1 * 65536 + x2 * 2048 + x3 * 256 + x4 * 32 + x5 * 16 + x6 * 8) (by omega)
  exact of_word (i := (.vsubSat x0 x1 x2 x3 x4 x5 x6)) rfl hl (by rw [show field (encode (.vsubSat x0 x1 x2 x3 x4 x5 x6)) 26 6 = 16 from hM]; decide)
    (show candidate (1073741831 + x0 * 2097152 + x1 * 65536 + x2 * 2048 + x3 * 256 + x4 * 32 + x5 * 16 + x6 * 8) = _ by rw [candidate10 hM]; delta major10; simp only [g0, f0, f1, f2, f3, f4, f5, f6]) hw rest

theorem vand (x0 x1 x2 x3 x4 x5 x6 : Nat) : Statement (.vand x0 x1 x2 x3 x4 x5 x6) := by
  intro hw _ _ rest
  have hb : (decide (x0 < 32) && decide (x1 < 32) && decide (x2 < 32) && decide (x3 < 8) && decide (x4 < 8) && decide (x5 < 2) && decide (x6 < 2)) = true := hw
  simp only [Bool.and_eq_true, decide_eq_true_eq] at hb
  obtain ⟨hl, hM, g0, f0, f1, f2, f3, f4, f5, f6⟩ := layout8 x0 x1 x2 x3 x4 x5 x6 17 0 (by decide) (by omega) (by omega) (by omega) (by omega) (by omega) (by omega) (by omega) (by decide) (w := 1140850688 + x0 * 2097152 + x1 * 65536 + x2 * 2048 + x3 * 256 + x4 * 32 + x5 * 16 + x6 * 8) (by omega)
  exact of_word (i := (.vand x0 x1 x2 x3 x4 x5 x6)) rfl hl (by rw [show field (encode (.vand x0 x1 x2 x3 x4 x5 x6)) 26 6 = 17 from hM]; decide)
    (show candidate (1140850688 + x0 * 2097152 + x1 * 65536 + x2 * 2048 + x3 * 256 + x4 * 32 + x5 * 16 + x6 * 8) = _ by rw [candidate11 hM]; delta major11; simp only [g0, f0, f1, f2, f3, f4, f5, f6]) hw rest

theorem vor (x0 x1 x2 x3 x4 x5 x6 : Nat) : Statement (.vor x0 x1 x2 x3 x4 x5 x6) := by
  intro hw _ _ rest
  have hb : (decide (x0 < 32) && decide (x1 < 32) && decide (x2 < 32) && decide (x3 < 8) && decide (x4 < 8) && decide (x5 < 2) && decide (x6 < 2)) = true := hw
  simp only [Bool.and_eq_true, decide_eq_true_eq] at hb
  obtain ⟨hl, hM, g0, f0, f1, f2, f3, f4, f5, f6⟩ := layout8 x0 x1 x2 x3 x4 x5 x6 17 1 (by decide) (by omega) (by omega) (by omega) (by omega) (by omega) (by omega) (by omega) (by decide) (w := 1140850689 + x0 * 2097152 + x1 * 65536 + x2 * 2048 + x3 * 256 + x4 * 32 + x5 * 16 + x6 * 8) (by omega)
  exact of_word (i := (.vor x0 x1 x2 x3 x4 x5 x6)) rfl hl (by rw [show field (encode (.vor x0 x1 x2 x3 x4 x5 x6)) 26 6 = 17 from hM]; decide)
    (show candidate (1140850689 + x0 * 2097152 + x1 * 65536 + x2 * 2048 + x3 * 256 + x4 * 32 + x5 * 16 + x6 * 8) = _ by rw [candidate11 hM]; delta major11; simp only [g0, f0, f1, f2, f3, f4, f5, f6]) hw rest

theorem vxor (x0 x1 x2 x3 x4 x5 x6 : Nat) : Statement (.vxor x0 x1 x2 x3 x4 x5 x6) := by
  intro hw _ _ rest
  have hb : (decide (x0 < 32) && decide (x1 < 32) && decide (x2 < 32) && decide (x3 < 8) && decide (x4 < 8) && decide (x5 < 2) && decide (x6 < 2)) = true := hw
  simp only [Bool.and_eq_true, decide_eq_true_eq] at hb
  obtain ⟨hl, hM, g0, f0, f1, f2, f3, f4, f5, f6⟩ := layout8 x0 x1 x2 x3 x4 x5 x6 17 2 (by decide) (by omega) (by omega) (by omega) (by omega) (by omega) (by omega) (by omega) (by decide) (w := 1140850690 + x0 * 2097152 + x1 * 65536 + x2 * 2048 + x3 * 256 + x4 * 32 + x5 * 16 + x6 * 8) (by omega)
  exact of_word (i := (.vxor x0 x1 x2 x3 x4 x5 x6)) rfl hl (by rw [show field (encode (.vxor x0 x1 x2 x3 x4 x5 x6)) 26 6 = 17 from hM]; decide)
    (show candidate (1140850690 + x0 * 2097152 + x1 * 65536 + x2 * 2048 + x3 * 256 + x4 * 32 + x5 * 16 + x6 * 8) = _ by rw [candidate11 hM]; delta major11; simp only [g0, f0, f1, f2, f3, f4, f5, f6]) hw rest

theorem vsll (x0 x1 x2 x3 x4 x5 x6 : Nat) : Statement (.vsll x0 x1 x2 x3 x4 x5 x6) := by
  intro hw _ _ rest
  have hb : (decide (x0 < 32) && decide (x1 < 32) && decide (x2 < 32) && decide (x3 < 8) && decide (x4 < 8) && decide (x5 < 2) && decide (x6 < 2)) = true := hw
  simp only [Bool.and_eq_true, decide_eq_true_eq] at hb
  obtain ⟨hl, hM, g0, f0, f1, f2, f3, f4, f5, f6⟩ := layout8 x0 x1 x2 x3 x4 x5 x6 17 3 (by decide) (by omega) (by omega) (by omega) (by omega) (by omega) (by omega) (by omega) (by decide) (w := 1140850691 + x0 * 2097152 + x1 * 65536 + x2 * 2048 + x3 * 256 + x4 * 32 + x5 * 16 + x6 * 8) (by omega)
  exact of_word (i := (.vsll x0 x1 x2 x3 x4 x5 x6)) rfl hl (by rw [show field (encode (.vsll x0 x1 x2 x3 x4 x5 x6)) 26 6 = 17 from hM]; decide)
    (show candidate (1140850691 + x0 * 2097152 + x1 * 65536 + x2 * 2048 + x3 * 256 + x4 * 32 + x5 * 16 + x6 * 8) = _ by rw [candidate11 hM]; delta major11; simp only [g0, f0, f1, f2, f3, f4, f5, f6]) hw rest

theorem vsrl (x0 x1 x2 x3 x4 x5 x6 : Nat) : Statement (.vsrl x0 x1 x2 x3 x4 x5 x6) := by
  intro hw _ _ rest
  have hb : (decide (x0 < 32) && decide (x1 < 32) && decide (x2 < 32) && decide (x3 < 8) && decide (x4 < 8) && decide (x5 < 2) && decide (x6 < 2)) = true := hw
  simp only [Bool.and_eq_true, decide_eq_true_eq] at hb
  obtain ⟨hl, hM, g0, f0, f1, f2, f3, f4, f5, f6⟩ := layout8 x0 x1 x2 x3 x4 x5 x6 17 4 (by decide) (by omega) (by omega) (by omega) (by omega) (by omega) (by omega) (by omega) (by decide) (w := 1140850692 + x0 * 2097152 + x1 * 65536 + x2 * 2048 + x3 * 256 + x4 * 32 + x5 * 16 + x6 * 8) (by omega)
  exact of_word (i := (.vsrl x0 x1 x2 x3 x4 x5 x6)) rfl hl (by rw [show field (encode (.vsrl x0 x1 x2 x3 x4 x5 x6)) 26 6 = 17 from hM]; decide)
    (show candidate (1140850692 + x0 * 2097152 + x1 * 65536 + x2 * 2048 + x3 * 256 + x4 * 32 + x5 * 16 + x6 * 8) = _ by rw [candidate11 hM]; delta major11; simp only [g0, f0, f1, f2, f3, f4, f5, f6]) hw rest

theorem vsra (x0 x1 x2 x3 x4 x5 x6 : Nat) : Statement (.vsra x0 x1 x2 x3 x4 x5 x6) := by
  intro hw _ _ rest
  have hb : (decide (x0 < 32) && decide (x1 < 32) && decide (x2 < 32) && decide (x3 < 8) && decide (x4 < 8) && decide (x5 < 2) && decide (x6 < 2)) = true := hw
  simp only [Bool.and_eq_true, decide_eq_true_eq] at hb
  obtain ⟨hl, hM, g0, f0, f1, f2, f3, f4, f5, f6⟩ := layout8 x0 x1 x2 x3 x4 x5 x6 17 5 (by decide) (by omega) (by omega) (by omega) (by omega) (by omega) (by omega) (by omega) (by decide) (w := 1140850693 + x0 * 2097152 + x1 * 65536 + x2 * 2048 + x3 * 256 + x4 * 32 + x5 * 16 + x6 * 8) (by omega)
  exact of_word (i := (.vsra x0 x1 x2 x3 x4 x5 x6)) rfl hl (by rw [show field (encode (.vsra x0 x1 x2 x3 x4 x5 x6)) 26 6 = 17 from hM]; decide)
    (show candidate (1140850693 + x0 * 2097152 + x1 * 65536 + x2 * 2048 + x3 * 256 + x4 * 32 + x5 * 16 + x6 * 8) = _ by rw [candidate11 hM]; delta major11; simp only [g0, f0, f1, f2, f3, f4, f5, f6]) hw rest

theorem vmulSat (x0 x1 x2 x3 x4 x5 x6 : Nat) : Statement (.vmulSat x0 x1 x2 x3 x4 x5 x6) := by
  intro hw _ _ rest
  have hb : (decide (x0 < 32) && decide (x1 < 32) && decide (x2 < 32) && decide (x3 < 8) && decide (x4 < 8) && decide (x5 < 2) && decide (x6 < 2)) = true := hw
  simp only [Bool.and_eq_true, decide_eq_true_eq] at hb
  obtain ⟨hl, hM, g0, f0, f1, f2, f3, f4, f5, f6⟩ := layout8 x0 x1 x2 x3 x4 x5 x6 17 6 (by decide) (by omega) (by omega) (by omega) (by omega) (by omega) (by omega) (by omega) (by decide) (w := 1140850694 + x0 * 2097152 + x1 * 65536 + x2 * 2048 + x3 * 256 + x4 * 32 + x5 * 16 + x6 * 8) (by omega)
  exact of_word (i := (.vmulSat x0 x1 x2 x3 x4 x5 x6)) rfl hl (by rw [show field (encode (.vmulSat x0 x1 x2 x3 x4 x5 x6)) 26 6 = 17 from hM]; decide)
    (show candidate (1140850694 + x0 * 2097152 + x1 * 65536 + x2 * 2048 + x3 * 256 + x4 * 32 + x5 * 16 + x6 * 8) = _ by rw [candidate11 hM]; delta major11; simp only [g0, f0, f1, f2, f3, f4, f5, f6]) hw rest

theorem vsel (x0 x1 x2 x3 x4 x5 x6 : Nat) : Statement (.vsel x0 x1 x2 x3 x4 x5 x6) := by
  intro hw _ _ rest
  have hb : (decide (x0 < 32) && decide (x1 < 32) && decide (x2 < 32) && decide (x3 < 8) && decide (x4 < 8) && decide (x5 < 2) && decide (x6 < 2)) = true := hw
  simp only [Bool.and_eq_true, decide_eq_true_eq] at hb
  obtain ⟨hl, hM, g0, f0, f1, f2, f3, f4, f5, f6⟩ := layout8 x0 x1 x2 x3 x4 x5 x6 17 7 (by decide) (by omega) (by omega) (by omega) (by omega) (by omega) (by omega) (by omega) (by decide) (w := 1140850695 + x0 * 2097152 + x1 * 65536 + x2 * 2048 + x3 * 256 + x4 * 32 + x5 * 16 + x6 * 8) (by omega)
  exact of_word (i := (.vsel x0 x1 x2 x3 x4 x5 x6)) rfl hl (by rw [show field (encode (.vsel x0 x1 x2 x3 x4 x5 x6)) 26 6 = 17 from hM]; decide)
    (show candidate (1140850695 + x0 * 2097152 + x1 * 65536 + x2 * 2048 + x3 * 256 + x4 * 32 + x5 * 16 + x6 * 8) = _ by rw [candidate11 hM]; delta major11; simp only [g0, f0, f1, f2, f3, f4, f5, f6]) hw rest

theorem vfadd (x0 x1 x2 x3 x4 x5 x6 : Nat) : Statement (.vfadd x0 x1 x2 x3 x4 x5 x6) := by
  intro hw _ _ rest
  have hb : (decide (x0 < 32) && decide (x1 < 32) && decide (x2 < 32) && decide (x3 < 8) && decide (x4 < 8) && decide (x5 < 2) && decide (x6 < 2) && rmLegal x4) = true := hw
  simp only [Bool.and_eq_true, decide_eq_true_eq] at hb
  obtain ⟨hl, hM, g0, f0, f1, f2, f3, f4, f5, f6⟩ := layout8 x0 x1 x2 x3 x4 x5 x6 18 0 (by decide) (by omega) (by omega) (by omega) (by omega) (by omega) (by omega) (by omega) (by decide) (w := 1207959552 + x0 * 2097152 + x1 * 65536 + x2 * 2048 + x3 * 256 + x4 * 32 + x5 * 16 + x6 * 8) (by omega)
  exact of_word (i := (.vfadd x0 x1 x2 x3 x4 x5 x6)) rfl hl (by rw [show field (encode (.vfadd x0 x1 x2 x3 x4 x5 x6)) 26 6 = 18 from hM]; decide)
    (show candidate (1207959552 + x0 * 2097152 + x1 * 65536 + x2 * 2048 + x3 * 256 + x4 * 32 + x5 * 16 + x6 * 8) = _ by rw [candidate12 hM]; delta major12; simp only [g0, f0, f1, f2, f3, f4, f5, f6]) hw rest

theorem vfsub (x0 x1 x2 x3 x4 x5 x6 : Nat) : Statement (.vfsub x0 x1 x2 x3 x4 x5 x6) := by
  intro hw _ _ rest
  have hb : (decide (x0 < 32) && decide (x1 < 32) && decide (x2 < 32) && decide (x3 < 8) && decide (x4 < 8) && decide (x5 < 2) && decide (x6 < 2) && rmLegal x4) = true := hw
  simp only [Bool.and_eq_true, decide_eq_true_eq] at hb
  obtain ⟨hl, hM, g0, f0, f1, f2, f3, f4, f5, f6⟩ := layout8 x0 x1 x2 x3 x4 x5 x6 18 1 (by decide) (by omega) (by omega) (by omega) (by omega) (by omega) (by omega) (by omega) (by decide) (w := 1207959553 + x0 * 2097152 + x1 * 65536 + x2 * 2048 + x3 * 256 + x4 * 32 + x5 * 16 + x6 * 8) (by omega)
  exact of_word (i := (.vfsub x0 x1 x2 x3 x4 x5 x6)) rfl hl (by rw [show field (encode (.vfsub x0 x1 x2 x3 x4 x5 x6)) 26 6 = 18 from hM]; decide)
    (show candidate (1207959553 + x0 * 2097152 + x1 * 65536 + x2 * 2048 + x3 * 256 + x4 * 32 + x5 * 16 + x6 * 8) = _ by rw [candidate12 hM]; delta major12; simp only [g0, f0, f1, f2, f3, f4, f5, f6]) hw rest

theorem vfmul (x0 x1 x2 x3 x4 x5 x6 : Nat) : Statement (.vfmul x0 x1 x2 x3 x4 x5 x6) := by
  intro hw _ _ rest
  have hb : (decide (x0 < 32) && decide (x1 < 32) && decide (x2 < 32) && decide (x3 < 8) && decide (x4 < 8) && decide (x5 < 2) && decide (x6 < 2) && rmLegal x4) = true := hw
  simp only [Bool.and_eq_true, decide_eq_true_eq] at hb
  obtain ⟨hl, hM, g0, f0, f1, f2, f3, f4, f5, f6⟩ := layout8 x0 x1 x2 x3 x4 x5 x6 18 2 (by decide) (by omega) (by omega) (by omega) (by omega) (by omega) (by omega) (by omega) (by decide) (w := 1207959554 + x0 * 2097152 + x1 * 65536 + x2 * 2048 + x3 * 256 + x4 * 32 + x5 * 16 + x6 * 8) (by omega)
  exact of_word (i := (.vfmul x0 x1 x2 x3 x4 x5 x6)) rfl hl (by rw [show field (encode (.vfmul x0 x1 x2 x3 x4 x5 x6)) 26 6 = 18 from hM]; decide)
    (show candidate (1207959554 + x0 * 2097152 + x1 * 65536 + x2 * 2048 + x3 * 256 + x4 * 32 + x5 * 16 + x6 * 8) = _ by rw [candidate12 hM]; delta major12; simp only [g0, f0, f1, f2, f3, f4, f5, f6]) hw rest

theorem vfdiv (x0 x1 x2 x3 x4 x5 x6 : Nat) : Statement (.vfdiv x0 x1 x2 x3 x4 x5 x6) := by
  intro hw _ _ rest
  have hb : (decide (x0 < 32) && decide (x1 < 32) && decide (x2 < 32) && decide (x3 < 8) && decide (x4 < 8) && decide (x5 < 2) && decide (x6 < 2) && rmLegal x4) = true := hw
  simp only [Bool.and_eq_true, decide_eq_true_eq] at hb
  obtain ⟨hl, hM, g0, f0, f1, f2, f3, f4, f5, f6⟩ := layout8 x0 x1 x2 x3 x4 x5 x6 18 3 (by decide) (by omega) (by omega) (by omega) (by omega) (by omega) (by omega) (by omega) (by decide) (w := 1207959555 + x0 * 2097152 + x1 * 65536 + x2 * 2048 + x3 * 256 + x4 * 32 + x5 * 16 + x6 * 8) (by omega)
  exact of_word (i := (.vfdiv x0 x1 x2 x3 x4 x5 x6)) rfl hl (by rw [show field (encode (.vfdiv x0 x1 x2 x3 x4 x5 x6)) 26 6 = 18 from hM]; decide)
    (show candidate (1207959555 + x0 * 2097152 + x1 * 65536 + x2 * 2048 + x3 * 256 + x4 * 32 + x5 * 16 + x6 * 8) = _ by rw [candidate12 hM]; delta major12; simp only [g0, f0, f1, f2, f3, f4, f5, f6]) hw rest

theorem vfsqrt (x0 x1 x2 x3 x4 : Nat) : Statement (.vfsqrt x0 x1 x2 x3 x4) := by
  intro hw _ _ rest
  have hb : (decide (x0 < 32) && decide (x1 < 32) && decide (x2 < 8) && decide (x3 < 8) && decide (x4 < 2) && rmLegal x3) = true := hw
  simp only [Bool.and_eq_true, decide_eq_true_eq] at hb
  obtain ⟨hl, hM, g0, f0, f1, f2, f3, f4⟩ := layout9 x0 x1 x2 x3 x4 18 4 (by decide) (by omega) (by omega) (by omega) (by omega) (by omega) (by decide) (w := 1207959556 + x0 * 2097152 + x1 * 65536 + x2 * 256 + x3 * 32 + x4 * 16) (by omega)
  exact of_word (i := (.vfsqrt x0 x1 x2 x3 x4)) rfl hl (by rw [show field (encode (.vfsqrt x0 x1 x2 x3 x4)) 26 6 = 18 from hM]; decide)
    (show candidate (1207959556 + x0 * 2097152 + x1 * 65536 + x2 * 256 + x3 * 32 + x4 * 16) = _ by rw [candidate12 hM]; delta major12; simp only [g0, f0, f1, f2, f3, f4]) hw rest

theorem vfmin (x0 x1 x2 x3 x4 x5 : Nat) : Statement (.vfmin x0 x1 x2 x3 x4 x5) := by
  intro hw _ _ rest
  have hb : (decide (x0 < 32) && decide (x1 < 32) && decide (x2 < 32) && decide (x3 < 8) && decide (x4 < 2) && decide (x5 < 2)) = true := hw
  simp only [Bool.and_eq_true, decide_eq_true_eq] at hb
  obtain ⟨hl, hM, g0, f0, f1, f2, f3, f4, f5⟩ := layout10 x0 x1 x2 x3 x4 x5 18 5 (by decide) (by omega) (by omega) (by omega) (by omega) (by omega) (by omega) (by decide) (w := 1207959557 + x0 * 2097152 + x1 * 65536 + x2 * 2048 + x3 * 256 + x4 * 16 + x5 * 8) (by omega)
  exact of_word (i := (.vfmin x0 x1 x2 x3 x4 x5)) rfl hl (by rw [show field (encode (.vfmin x0 x1 x2 x3 x4 x5)) 26 6 = 18 from hM]; decide)
    (show candidate (1207959557 + x0 * 2097152 + x1 * 65536 + x2 * 2048 + x3 * 256 + x4 * 16 + x5 * 8) = _ by rw [candidate12 hM]; delta major12; simp only [g0, f0, f1, f2, f3, f4, f5]) hw rest

theorem vfmax (x0 x1 x2 x3 x4 x5 : Nat) : Statement (.vfmax x0 x1 x2 x3 x4 x5) := by
  intro hw _ _ rest
  have hb : (decide (x0 < 32) && decide (x1 < 32) && decide (x2 < 32) && decide (x3 < 8) && decide (x4 < 2) && decide (x5 < 2)) = true := hw
  simp only [Bool.and_eq_true, decide_eq_true_eq] at hb
  obtain ⟨hl, hM, g0, f0, f1, f2, f3, f4, f5⟩ := layout10 x0 x1 x2 x3 x4 x5 18 6 (by decide) (by omega) (by omega) (by omega) (by omega) (by omega) (by omega) (by decide) (w := 1207959558 + x0 * 2097152 + x1 * 65536 + x2 * 2048 + x3 * 256 + x4 * 16 + x5 * 8) (by omega)
  exact of_word (i := (.vfmax x0 x1 x2 x3 x4 x5)) rfl hl (by rw [show field (encode (.vfmax x0 x1 x2 x3 x4 x5)) 26 6 = 18 from hM]; decide)
    (show candidate (1207959558 + x0 * 2097152 + x1 * 65536 + x2 * 2048 + x3 * 256 + x4 * 16 + x5 * 8) = _ by rw [candidate12 hM]; delta major12; simp only [g0, f0, f1, f2, f3, f4, f5]) hw rest

theorem vfabs (x0 x1 x2 x3 : Nat) : Statement (.vfabs x0 x1 x2 x3) := by
  intro hw _ _ rest
  have hb : (decide (x0 < 32) && decide (x1 < 32) && decide (x2 < 8) && decide (x3 < 2)) = true := hw
  simp only [Bool.and_eq_true, decide_eq_true_eq] at hb
  obtain ⟨hl, hM, g0, f0, f1, f2, f3⟩ := layout11 x0 x1 x2 x3 18 7 (by decide) (by omega) (by omega) (by omega) (by omega) (by decide) (w := 1207959559 + x0 * 2097152 + x1 * 65536 + x2 * 256 + x3 * 16) (by omega)
  exact of_word (i := (.vfabs x0 x1 x2 x3)) rfl hl (by rw [show field (encode (.vfabs x0 x1 x2 x3)) 26 6 = 18 from hM]; decide)
    (show candidate (1207959559 + x0 * 2097152 + x1 * 65536 + x2 * 256 + x3 * 16) = _ by rw [candidate12 hM]; delta major12; simp only [g0, f0, f1, f2, f3]) hw rest

theorem vfma (x0 x1 x2 x3 x4 x5 x6 : Nat) : Statement (.vfma x0 x1 x2 x3 x4 x5 x6) := by
  intro hw _ _ rest
  have hb : (decide (x0 < 32) && decide (x1 < 32) && decide (x2 < 32) && decide (x3 < 8) && decide (x4 < 8) && decide (x5 < 2) && decide (x6 < 2) && rmLegal x4) = true := hw
  simp only [Bool.and_eq_true, decide_eq_true_eq] at hb
  obtain ⟨hl, hM, g0, f0, f1, f2, f3, f4, f5, f6⟩ := layout8 x0 x1 x2 x3 x4 x5 x6 19 0 (by decide) (by omega) (by omega) (by omega) (by omega) (by omega) (by omega) (by omega) (by decide) (w := 1275068416 + x0 * 2097152 + x1 * 65536 + x2 * 2048 + x3 * 256 + x4 * 32 + x5 * 16 + x6 * 8) (by omega)
  exact of_word (i := (.vfma x0 x1 x2 x3 x4 x5 x6)) rfl hl (by rw [show field (encode (.vfma x0 x1 x2 x3 x4 x5 x6)) 26 6 = 19 from hM]; decide)
    (show candidate (1275068416 + x0 * 2097152 + x1 * 65536 + x2 * 2048 + x3 * 256 + x4 * 32 + x5 * 16 + x6 * 8) = _ by rw [candidate13 hM]; delta major13; simp only [g0, f0, f1, f2, f3, f4, f5, f6]) hw rest

theorem vfms (x0 x1 x2 x3 x4 x5 x6 : Nat) : Statement (.vfms x0 x1 x2 x3 x4 x5 x6) := by
  intro hw _ _ rest
  have hb : (decide (x0 < 32) && decide (x1 < 32) && decide (x2 < 32) && decide (x3 < 8) && decide (x4 < 8) && decide (x5 < 2) && decide (x6 < 2) && rmLegal x4) = true := hw
  simp only [Bool.and_eq_true, decide_eq_true_eq] at hb
  obtain ⟨hl, hM, g0, f0, f1, f2, f3, f4, f5, f6⟩ := layout8 x0 x1 x2 x3 x4 x5 x6 19 1 (by decide) (by omega) (by omega) (by omega) (by omega) (by omega) (by omega) (by omega) (by decide) (w := 1275068417 + x0 * 2097152 + x1 * 65536 + x2 * 2048 + x3 * 256 + x4 * 32 + x5 * 16 + x6 * 8) (by omega)
  exact of_word (i := (.vfms x0 x1 x2 x3 x4 x5 x6)) rfl hl (by rw [show field (encode (.vfms x0 x1 x2 x3 x4 x5 x6)) 26 6 = 19 from hM]; decide)
    (show candidate (1275068417 + x0 * 2097152 + x1 * 65536 + x2 * 2048 + x3 * 256 + x4 * 32 + x5 * 16 + x6 * 8) = _ by rw [candidate13 hM]; delta major13; simp only [g0, f0, f1, f2, f3, f4, f5, f6]) hw rest

theorem vfnma (x0 x1 x2 x3 x4 x5 x6 : Nat) : Statement (.vfnma x0 x1 x2 x3 x4 x5 x6) := by
  intro hw _ _ rest
  have hb : (decide (x0 < 32) && decide (x1 < 32) && decide (x2 < 32) && decide (x3 < 8) && decide (x4 < 8) && decide (x5 < 2) && decide (x6 < 2) && rmLegal x4) = true := hw
  simp only [Bool.and_eq_true, decide_eq_true_eq] at hb
  obtain ⟨hl, hM, g0, f0, f1, f2, f3, f4, f5, f6⟩ := layout8 x0 x1 x2 x3 x4 x5 x6 19 2 (by decide) (by omega) (by omega) (by omega) (by omega) (by omega) (by omega) (by omega) (by decide) (w := 1275068418 + x0 * 2097152 + x1 * 65536 + x2 * 2048 + x3 * 256 + x4 * 32 + x5 * 16 + x6 * 8) (by omega)
  exact of_word (i := (.vfnma x0 x1 x2 x3 x4 x5 x6)) rfl hl (by rw [show field (encode (.vfnma x0 x1 x2 x3 x4 x5 x6)) 26 6 = 19 from hM]; decide)
    (show candidate (1275068418 + x0 * 2097152 + x1 * 65536 + x2 * 2048 + x3 * 256 + x4 * 32 + x5 * 16 + x6 * 8) = _ by rw [candidate13 hM]; delta major13; simp only [g0, f0, f1, f2, f3, f4, f5, f6]) hw rest

theorem vfnms (x0 x1 x2 x3 x4 x5 x6 : Nat) : Statement (.vfnms x0 x1 x2 x3 x4 x5 x6) := by
  intro hw _ _ rest
  have hb : (decide (x0 < 32) && decide (x1 < 32) && decide (x2 < 32) && decide (x3 < 8) && decide (x4 < 8) && decide (x5 < 2) && decide (x6 < 2) && rmLegal x4) = true := hw
  simp only [Bool.and_eq_true, decide_eq_true_eq] at hb
  obtain ⟨hl, hM, g0, f0, f1, f2, f3, f4, f5, f6⟩ := layout8 x0 x1 x2 x3 x4 x5 x6 19 3 (by decide) (by omega) (by omega) (by omega) (by omega) (by omega) (by omega) (by omega) (by decide) (w := 1275068419 + x0 * 2097152 + x1 * 65536 + x2 * 2048 + x3 * 256 + x4 * 32 + x5 * 16 + x6 * 8) (by omega)
  exact of_word (i := (.vfnms x0 x1 x2 x3 x4 x5 x6)) rfl hl (by rw [show field (encode (.vfnms x0 x1 x2 x3 x4 x5 x6)) 26 6 = 19 from hM]; decide)
    (show candidate (1275068419 + x0 * 2097152 + x1 * 65536 + x2 * 2048 + x3 * 256 + x4 * 32 + x5 * 16 + x6 * 8) = _ by rw [candidate13 hM]; delta major13; simp only [g0, f0, f1, f2, f3, f4, f5, f6]) hw rest

theorem vceq (x0 x1 x2 x3 x4 x5 x6 : Nat) : Statement (.vceq x0 x1 x2 x3 x4 x5 x6) := by
  intro hw _ _ rest
  have hb : (decide (x0 < 8) && decide (x1 < 32) && decide (x2 < 32) && decide (x3 < 8) && decide (x4 < 8) && decide (x5 < 2) && decide (x6 < 2)) = true := hw
  simp only [Bool.and_eq_true, decide_eq_true_eq] at hb
  obtain ⟨hl, hM, g0, f0, f1, f2, f3, f4, f5, f6⟩ := layout12 x0 x1 x2 x3 x4 x5 x6 20 0 (by decide) (by omega) (by omega) (by omega) (by omega) (by omega) (by omega) (by omega) (by decide) (w := 1342177280 + x0 * 2097152 + x1 * 65536 + x2 * 2048 + x3 * 256 + x4 * 32 + x5 * 16 + x6 * 8) (by omega)
  exact of_word (i := (.vceq x0 x1 x2 x3 x4 x5 x6)) rfl hl (by rw [show field (encode (.vceq x0 x1 x2 x3 x4 x5 x6)) 26 6 = 20 from hM]; decide)
    (show candidate (1342177280 + x0 * 2097152 + x1 * 65536 + x2 * 2048 + x3 * 256 + x4 * 32 + x5 * 16 + x6 * 8) = _ by rw [candidate14 hM]; delta major14; simp only [g0, f0, f1, f2, f3, f4, f5, f6]) hw rest

theorem vcne (x0 x1 x2 x3 x4 x5 x6 : Nat) : Statement (.vcne x0 x1 x2 x3 x4 x5 x6) := by
  intro hw _ _ rest
  have hb : (decide (x0 < 8) && decide (x1 < 32) && decide (x2 < 32) && decide (x3 < 8) && decide (x4 < 8) && decide (x5 < 2) && decide (x6 < 2)) = true := hw
  simp only [Bool.and_eq_true, decide_eq_true_eq] at hb
  obtain ⟨hl, hM, g0, f0, f1, f2, f3, f4, f5, f6⟩ := layout12 x0 x1 x2 x3 x4 x5 x6 20 1 (by decide) (by omega) (by omega) (by omega) (by omega) (by omega) (by omega) (by omega) (by decide) (w := 1342177281 + x0 * 2097152 + x1 * 65536 + x2 * 2048 + x3 * 256 + x4 * 32 + x5 * 16 + x6 * 8) (by omega)
  exact of_word (i := (.vcne x0 x1 x2 x3 x4 x5 x6)) rfl hl (by rw [show field (encode (.vcne x0 x1 x2 x3 x4 x5 x6)) 26 6 = 20 from hM]; decide)
    (show candidate (1342177281 + x0 * 2097152 + x1 * 65536 + x2 * 2048 + x3 * 256 + x4 * 32 + x5 * 16 + x6 * 8) = _ by rw [candidate14 hM]; delta major14; simp only [g0, f0, f1, f2, f3, f4, f5, f6]) hw rest

theorem vclt (x0 x1 x2 x3 x4 x5 x6 : Nat) : Statement (.vclt x0 x1 x2 x3 x4 x5 x6) := by
  intro hw _ _ rest
  have hb : (decide (x0 < 8) && decide (x1 < 32) && decide (x2 < 32) && decide (x3 < 8) && decide (x4 < 8) && decide (x5 < 2) && decide (x6 < 2)) = true := hw
  simp only [Bool.and_eq_true, decide_eq_true_eq] at hb
  obtain ⟨hl, hM, g0, f0, f1, f2, f3, f4, f5, f6⟩ := layout12 x0 x1 x2 x3 x4 x5 x6 20 2 (by decide) (by omega) (by omega) (by omega) (by omega) (by omega) (by omega) (by omega) (by decide) (w := 1342177282 + x0 * 2097152 + x1 * 65536 + x2 * 2048 + x3 * 256 + x4 * 32 + x5 * 16 + x6 * 8) (by omega)
  exact of_word (i := (.vclt x0 x1 x2 x3 x4 x5 x6)) rfl hl (by rw [show field (encode (.vclt x0 x1 x2 x3 x4 x5 x6)) 26 6 = 20 from hM]; decide)
    (show candidate (1342177282 + x0 * 2097152 + x1 * 65536 + x2 * 2048 + x3 * 256 + x4 * 32 + x5 * 16 + x6 * 8) = _ by rw [candidate14 hM]; delta major14; simp only [g0, f0, f1, f2, f3, f4, f5, f6]) hw rest

theorem vcle (x0 x1 x2 x3 x4 x5 x6 : Nat) : Statement (.vcle x0 x1 x2 x3 x4 x5 x6) := by
  intro hw _ _ rest
  have hb : (decide (x0 < 8) && decide (x1 < 32) && decide (x2 < 32) && decide (x3 < 8) && decide (x4 < 8) && decide (x5 < 2) && decide (x6 < 2)) = true := hw
  simp only [Bool.and_eq_true, decide_eq_true_eq] at hb
  obtain ⟨hl, hM, g0, f0, f1, f2, f3, f4, f5, f6⟩ := layout12 x0 x1 x2 x3 x4 x5 x6 20 3 (by decide) (by omega) (by omega) (by omega) (by omega) (by omega) (by omega) (by omega) (by decide) (w := 1342177283 + x0 * 2097152 + x1 * 65536 + x2 * 2048 + x3 * 256 + x4 * 32 + x5 * 16 + x6 * 8) (by omega)
  exact of_word (i := (.vcle x0 x1 x2 x3 x4 x5 x6)) rfl hl (by rw [show field (encode (.vcle x0 x1 x2 x3 x4 x5 x6)) 26 6 = 20 from hM]; decide)
    (show candidate (1342177283 + x0 * 2097152 + x1 * 65536 + x2 * 2048 + x3 * 256 + x4 * 32 + x5 * 16 + x6 * 8) = _ by rw [candidate14 hM]; delta major14; simp only [g0, f0, f1, f2, f3, f4, f5, f6]) hw rest

theorem vcun (x0 x1 x2 x3 x4 x5 x6 : Nat) : Statement (.vcun x0 x1 x2 x3 x4 x5 x6) := by
  intro hw _ _ rest
  have hb : (decide (x0 < 8) && decide (x1 < 32) && decide (x2 < 32) && decide (x3 < 8) && decide (x4 < 8) && decide (x5 < 2) && decide (x6 < 2)) = true := hw
  simp only [Bool.and_eq_true, decide_eq_true_eq] at hb
  obtain ⟨hl, hM, g0, f0, f1, f2, f3, f4, f5, f6⟩ := layout12 x0 x1 x2 x3 x4 x5 x6 20 4 (by decide) (by omega) (by omega) (by omega) (by omega) (by omega) (by omega) (by omega) (by decide) (w := 1342177284 + x0 * 2097152 + x1 * 65536 + x2 * 2048 + x3 * 256 + x4 * 32 + x5 * 16 + x6 * 8) (by omega)
  exact of_word (i := (.vcun x0 x1 x2 x3 x4 x5 x6)) rfl hl (by rw [show field (encode (.vcun x0 x1 x2 x3 x4 x5 x6)) 26 6 = 20 from hM]; decide)
    (show candidate (1342177284 + x0 * 2097152 + x1 * 65536 + x2 * 2048 + x3 * 256 + x4 * 32 + x5 * 16 + x6 * 8) = _ by rw [candidate14 hM]; delta major14; simp only [g0, f0, f1, f2, f3, f4, f5, f6]) hw rest

theorem vmand (x0 x1 x2 x3 : Nat) : Statement (.vmand x0 x1 x2 x3) := by
  intro hw _ _ rest
  have hb : (decide (x0 < 8) && decide (x1 < 8) && decide (x2 < 8) && decide (x3 < 8)) = true := hw
  simp only [Bool.and_eq_true, decide_eq_true_eq] at hb
  obtain ⟨hl, hM, g0, f0, f1, f2, f3⟩ := layout13 x0 x1 x2 x3 21 0 (by decide) (by omega) (by omega) (by omega) (by omega) (by decide) (w := 1409286144 + x0 * 2097152 + x1 * 65536 + x2 * 2048 + x3 * 256) (by omega)
  exact of_word (i := (.vmand x0 x1 x2 x3)) rfl hl (by rw [show field (encode (.vmand x0 x1 x2 x3)) 26 6 = 21 from hM]; decide)
    (show candidate (1409286144 + x0 * 2097152 + x1 * 65536 + x2 * 2048 + x3 * 256) = _ by rw [candidate15 hM]; delta major15; simp only [g0, f0, f1, f2, f3]) hw rest

theorem vmor (x0 x1 x2 x3 : Nat) : Statement (.vmor x0 x1 x2 x3) := by
  intro hw _ _ rest
  have hb : (decide (x0 < 8) && decide (x1 < 8) && decide (x2 < 8) && decide (x3 < 8)) = true := hw
  simp only [Bool.and_eq_true, decide_eq_true_eq] at hb
  obtain ⟨hl, hM, g0, f0, f1, f2, f3⟩ := layout13 x0 x1 x2 x3 21 1 (by decide) (by omega) (by omega) (by omega) (by omega) (by decide) (w := 1409286145 + x0 * 2097152 + x1 * 65536 + x2 * 2048 + x3 * 256) (by omega)
  exact of_word (i := (.vmor x0 x1 x2 x3)) rfl hl (by rw [show field (encode (.vmor x0 x1 x2 x3)) 26 6 = 21 from hM]; decide)
    (show candidate (1409286145 + x0 * 2097152 + x1 * 65536 + x2 * 2048 + x3 * 256) = _ by rw [candidate15 hM]; delta major15; simp only [g0, f0, f1, f2, f3]) hw rest

theorem vmxor (x0 x1 x2 x3 : Nat) : Statement (.vmxor x0 x1 x2 x3) := by
  intro hw _ _ rest
  have hb : (decide (x0 < 8) && decide (x1 < 8) && decide (x2 < 8) && decide (x3 < 8)) = true := hw
  simp only [Bool.and_eq_true, decide_eq_true_eq] at hb
  obtain ⟨hl, hM, g0, f0, f1, f2, f3⟩ := layout13 x0 x1 x2 x3 21 2 (by decide) (by omega) (by omega) (by omega) (by omega) (by decide) (w := 1409286146 + x0 * 2097152 + x1 * 65536 + x2 * 2048 + x3 * 256) (by omega)
  exact of_word (i := (.vmxor x0 x1 x2 x3)) rfl hl (by rw [show field (encode (.vmxor x0 x1 x2 x3)) 26 6 = 21 from hM]; decide)
    (show candidate (1409286146 + x0 * 2097152 + x1 * 65536 + x2 * 2048 + x3 * 256) = _ by rw [candidate15 hM]; delta major15; simp only [g0, f0, f1, f2, f3]) hw rest

theorem vmandn (x0 x1 x2 x3 : Nat) : Statement (.vmandn x0 x1 x2 x3) := by
  intro hw _ _ rest
  have hb : (decide (x0 < 8) && decide (x1 < 8) && decide (x2 < 8) && decide (x3 < 8)) = true := hw
  simp only [Bool.and_eq_true, decide_eq_true_eq] at hb
  obtain ⟨hl, hM, g0, f0, f1, f2, f3⟩ := layout13 x0 x1 x2 x3 21 3 (by decide) (by omega) (by omega) (by omega) (by omega) (by decide) (w := 1409286147 + x0 * 2097152 + x1 * 65536 + x2 * 2048 + x3 * 256) (by omega)
  exact of_word (i := (.vmandn x0 x1 x2 x3)) rfl hl (by rw [show field (encode (.vmandn x0 x1 x2 x3)) 26 6 = 21 from hM]; decide)
    (show candidate (1409286147 + x0 * 2097152 + x1 * 65536 + x2 * 2048 + x3 * 256) = _ by rw [candidate15 hM]; delta major15; simp only [g0, f0, f1, f2, f3]) hw rest

theorem vmnot (x0 x1 x2 : Nat) : Statement (.vmnot x0 x1 x2) := by
  intro hw _ _ rest
  have hb : (decide (x0 < 8) && decide (x1 < 8) && decide (x2 < 8)) = true := hw
  simp only [Bool.and_eq_true, decide_eq_true_eq] at hb
  obtain ⟨hl, hM, g0, f0, f1, f2⟩ := layout14 x0 x1 x2 21 4 (by decide) (by omega) (by omega) (by omega) (by decide) (w := 1409286148 + x0 * 2097152 + x1 * 65536 + x2 * 256) (by omega)
  exact of_word (i := (.vmnot x0 x1 x2)) rfl hl (by rw [show field (encode (.vmnot x0 x1 x2)) 26 6 = 21 from hM]; decide)
    (show candidate (1409286148 + x0 * 2097152 + x1 * 65536 + x2 * 256) = _ by rw [candidate15 hM]; delta major15; simp only [g0, f0, f1, f2]) hw rest

theorem vmpopc (x0 x1 x2 : Nat) : Statement (.vmpopc x0 x1 x2) := by
  intro hw _ _ rest
  have hb : (decide (x0 < 8) && decide (x1 < 8) && decide (x2 < 8)) = true := hw
  simp only [Bool.and_eq_true, decide_eq_true_eq] at hb
  obtain ⟨hl, hM, g0, f0, f1, f2⟩ := layout14 x0 x1 x2 21 5 (by decide) (by omega) (by omega) (by omega) (by decide) (w := 1409286149 + x0 * 2097152 + x1 * 65536 + x2 * 256) (by omega)
  exact of_word (i := (.vmpopc x0 x1 x2)) rfl hl (by rw [show field (encode (.vmpopc x0 x1 x2)) 26 6 = 21 from hM]; decide)
    (show candidate (1409286149 + x0 * 2097152 + x1 * 65536 + x2 * 256) = _ by rw [candidate15 hM]; delta major15; simp only [g0, f0, f1, f2]) hw rest

theorem vmfirst (x0 x1 x2 : Nat) : Statement (.vmfirst x0 x1 x2) := by
  intro hw _ _ rest
  have hb : (decide (x0 < 8) && decide (x1 < 8) && decide (x2 < 8)) = true := hw
  simp only [Bool.and_eq_true, decide_eq_true_eq] at hb
  obtain ⟨hl, hM, g0, f0, f1, f2⟩ := layout14 x0 x1 x2 21 6 (by decide) (by omega) (by omega) (by omega) (by decide) (w := 1409286150 + x0 * 2097152 + x1 * 65536 + x2 * 256) (by omega)
  exact of_word (i := (.vmfirst x0 x1 x2)) rfl hl (by rw [show field (encode (.vmfirst x0 x1 x2)) 26 6 = 21 from hM]; decide)
    (show candidate (1409286150 + x0 * 2097152 + x1 * 65536 + x2 * 256) = _ by rw [candidate15 hM]; delta major15; simp only [g0, f0, f1, f2]) hw rest

theorem vcvt (x0 x1 x2 x3 x4 x5 : Nat) : Statement (.vcvt x0 x1 x2 x3 x4 x5) := by
  intro hw _ _ rest
  have hb : (decide (x0 < 32) && decide (x1 < 32) && decide (x2 < 32) && decide (x3 < 8) && decide (x4 < 8) && decide (x5 < 2) && rmLegal x4 && decide (x2 < 12)) = true := hw
  simp only [Bool.and_eq_true, decide_eq_true_eq] at hb
  obtain ⟨hl, hM, g0, f0, f1, f2, f3, f4, f5⟩ := layout15 x0 x1 x2 x3 x4 x5 22 0 (by decide) (by omega) (by omega) (by omega) (by omega) (by omega) (by omega) (by decide) (w := 1476395008 + x0 * 2097152 + x1 * 65536 + x2 * 2048 + x3 * 256 + x4 * 32 + x5 * 16) (by omega)
  exact of_word (i := (.vcvt x0 x1 x2 x3 x4 x5)) rfl hl (by rw [show field (encode (.vcvt x0 x1 x2 x3 x4 x5)) 26 6 = 22 from hM]; decide)
    (show candidate (1476395008 + x0 * 2097152 + x1 * 65536 + x2 * 2048 + x3 * 256 + x4 * 32 + x5 * 16) = _ by rw [candidate16 hM]; delta major16; simp only [g0, f0, f1, f2, f3, f4, f5]) hw rest

theorem vcvtSat (x0 x1 x2 x3 x4 x5 : Nat) : Statement (.vcvtSat x0 x1 x2 x3 x4 x5) := by
  intro hw _ _ rest
  have hb : (decide (x0 < 32) && decide (x1 < 32) && decide (x2 < 32) && decide (x3 < 8) && decide (x4 < 8) && decide (x5 < 2) && rmLegal x4 && decide (x2 < 12)) = true := hw
  simp only [Bool.and_eq_true, decide_eq_true_eq] at hb
  obtain ⟨hl, hM, g0, f0, f1, f2, f3, f4, f5⟩ := layout15 x0 x1 x2 x3 x4 x5 22 1 (by decide) (by omega) (by omega) (by omega) (by omega) (by omega) (by omega) (by decide) (w := 1476395009 + x0 * 2097152 + x1 * 65536 + x2 * 2048 + x3 * 256 + x4 * 32 + x5 * 16) (by omega)
  exact of_word (i := (.vcvtSat x0 x1 x2 x3 x4 x5)) rfl hl (by rw [show field (encode (.vcvtSat x0 x1 x2 x3 x4 x5)) 26 6 = 22 from hM]; decide)
    (show candidate (1476395009 + x0 * 2097152 + x1 * 65536 + x2 * 2048 + x3 * 256 + x4 * 32 + x5 * 16) = _ by rw [candidate16 hM]; delta major16; simp only [g0, f0, f1, f2, f3, f4, f5]) hw rest

theorem vunpk (x0 x1 x2 x3 x4 x5 : Nat) : Statement (.vunpk x0 x1 x2 x3 x4 x5) := by
  intro hw _ _ rest
  have hb : (decide (x0 < 32) && decide (x1 < 32) && decide (x2 < 32) && decide (x3 < 8) && decide (x4 < 8) && decide (x5 < 2) && rmLegal x4) = true := hw
  simp only [Bool.and_eq_true, decide_eq_true_eq] at hb
  obtain ⟨hl, hM, g0, f0, f1, f2, f3, f4, f5⟩ := layout15 x0 x1 x2 x3 x4 x5 22 2 (by decide) (by omega) (by omega) (by omega) (by omega) (by omega) (by omega) (by decide) (w := 1476395010 + x0 * 2097152 + x1 * 65536 + x2 * 2048 + x3 * 256 + x4 * 32 + x5 * 16) (by omega)
  exact of_word (i := (.vunpk x0 x1 x2 x3 x4 x5)) rfl hl (by rw [show field (encode (.vunpk x0 x1 x2 x3 x4 x5)) 26 6 = 22 from hM]; decide)
    (show candidate (1476395010 + x0 * 2097152 + x1 * 65536 + x2 * 2048 + x3 * 256 + x4 * 32 + x5 * 16) = _ by rw [candidate16 hM]; delta major16; simp only [g0, f0, f1, f2, f3, f4, f5]) hw rest

theorem vpack (x0 x1 x2 x3 x4 x5 : Nat) : Statement (.vpack x0 x1 x2 x3 x4 x5) := by
  intro hw _ _ rest
  have hb : (decide (x0 < 32) && decide (x1 < 32) && decide (x2 < 32) && decide (x3 < 8) && decide (x4 < 8) && decide (x5 < 2) && rmLegal x4) = true := hw
  simp only [Bool.and_eq_true, decide_eq_true_eq] at hb
  obtain ⟨hl, hM, g0, f0, f1, f2, f3, f4, f5⟩ := layout15 x0 x1 x2 x3 x4 x5 22 3 (by decide) (by omega) (by omega) (by omega) (by omega) (by omega) (by omega) (by decide) (w := 1476395011 + x0 * 2097152 + x1 * 65536 + x2 * 2048 + x3 * 256 + x4 * 32 + x5 * 16) (by omega)
  exact of_word (i := (.vpack x0 x1 x2 x3 x4 x5)) rfl hl (by rw [show field (encode (.vpack x0 x1 x2 x3 x4 x5)) 26 6 = 22 from hM]; decide)
    (show candidate (1476395011 + x0 * 2097152 + x1 * 65536 + x2 * 2048 + x3 * 256 + x4 * 32 + x5 * 16) = _ by rw [candidate16 hM]; delta major16; simp only [g0, f0, f1, f2, f3, f4, f5]) hw rest

theorem vrsum (x0 x1 x2 x3 x4 x5 : Nat) : Statement (.vrsum x0 x1 x2 x3 x4 x5) := by
  intro hw _ _ rest
  have hb : (decide (x0 < 32) && decide (x1 < 32) && decide (x2 < 4) && decide (x3 < 8) && decide (x4 < 8) && decide (x5 < 2) && rmLegal x4) = true := hw
  simp only [Bool.and_eq_true, decide_eq_true_eq] at hb
  obtain ⟨hl, hM, g0, f0, f1, f2, f3, f4, f5⟩ := layout16 x0 x1 x2 x3 x4 x5 23 0 (by decide) (by omega) (by omega) (by omega) (by omega) (by omega) (by omega) (by decide) (w := 1543503872 + x0 * 2097152 + x1 * 65536 + x2 * 2048 + x3 * 256 + x4 * 32 + x5 * 16) (by omega)
  exact of_word (i := (.vrsum x0 x1 x2 x3 x4 x5)) rfl hl (by rw [show field (encode (.vrsum x0 x1 x2 x3 x4 x5)) 26 6 = 23 from hM]; decide)
    (show candidate (1543503872 + x0 * 2097152 + x1 * 65536 + x2 * 2048 + x3 * 256 + x4 * 32 + x5 * 16) = _ by rw [candidate17 hM]; delta major17; simp only [g0, f0, f1, f2, f3, f4, f5]) hw rest

theorem vrmin (x0 x1 x2 x3 x4 : Nat) : Statement (.vrmin x0 x1 x2 x3 x4) := by
  intro hw _ _ rest
  have hb : (decide (x0 < 32) && decide (x1 < 32) && decide (x2 < 4) && decide (x3 < 8) && decide (x4 < 2)) = true := hw
  simp only [Bool.and_eq_true, decide_eq_true_eq] at hb
  obtain ⟨hl, hM, g0, f0, f1, f2, f3, f4⟩ := layout17 x0 x1 x2 x3 x4 23 1 (by decide) (by omega) (by omega) (by omega) (by omega) (by omega) (by decide) (w := 1543503873 + x0 * 2097152 + x1 * 65536 + x2 * 2048 + x3 * 256 + x4 * 16) (by omega)
  exact of_word (i := (.vrmin x0 x1 x2 x3 x4)) rfl hl (by rw [show field (encode (.vrmin x0 x1 x2 x3 x4)) 26 6 = 23 from hM]; decide)
    (show candidate (1543503873 + x0 * 2097152 + x1 * 65536 + x2 * 2048 + x3 * 256 + x4 * 16) = _ by rw [candidate17 hM]; delta major17; simp only [g0, f0, f1, f2, f3, f4]) hw rest

theorem vrmax (x0 x1 x2 x3 x4 : Nat) : Statement (.vrmax x0 x1 x2 x3 x4) := by
  intro hw _ _ rest
  have hb : (decide (x0 < 32) && decide (x1 < 32) && decide (x2 < 4) && decide (x3 < 8) && decide (x4 < 2)) = true := hw
  simp only [Bool.and_eq_true, decide_eq_true_eq] at hb
  obtain ⟨hl, hM, g0, f0, f1, f2, f3, f4⟩ := layout17 x0 x1 x2 x3 x4 23 2 (by decide) (by omega) (by omega) (by omega) (by omega) (by omega) (by decide) (w := 1543503874 + x0 * 2097152 + x1 * 65536 + x2 * 2048 + x3 * 256 + x4 * 16) (by omega)
  exact of_word (i := (.vrmax x0 x1 x2 x3 x4)) rfl hl (by rw [show field (encode (.vrmax x0 x1 x2 x3 x4)) 26 6 = 23 from hM]; decide)
    (show candidate (1543503874 + x0 * 2097152 + x1 * 65536 + x2 * 2048 + x3 * 256 + x4 * 16) = _ by rw [candidate17 hM]; delta major17; simp only [g0, f0, f1, f2, f3, f4]) hw rest

theorem vrand (x0 x1 x2 x3 x4 : Nat) : Statement (.vrand x0 x1 x2 x3 x4) := by
  intro hw _ _ rest
  have hb : (decide (x0 < 32) && decide (x1 < 32) && decide (x2 < 4) && decide (x3 < 8) && decide (x4 < 2)) = true := hw
  simp only [Bool.and_eq_true, decide_eq_true_eq] at hb
  obtain ⟨hl, hM, g0, f0, f1, f2, f3, f4⟩ := layout17 x0 x1 x2 x3 x4 23 3 (by decide) (by omega) (by omega) (by omega) (by omega) (by omega) (by decide) (w := 1543503875 + x0 * 2097152 + x1 * 65536 + x2 * 2048 + x3 * 256 + x4 * 16) (by omega)
  exact of_word (i := (.vrand x0 x1 x2 x3 x4)) rfl hl (by rw [show field (encode (.vrand x0 x1 x2 x3 x4)) 26 6 = 23 from hM]; decide)
    (show candidate (1543503875 + x0 * 2097152 + x1 * 65536 + x2 * 2048 + x3 * 256 + x4 * 16) = _ by rw [candidate17 hM]; delta major17; simp only [g0, f0, f1, f2, f3, f4]) hw rest

theorem vror (x0 x1 x2 x3 x4 : Nat) : Statement (.vror x0 x1 x2 x3 x4) := by
  intro hw _ _ rest
  have hb : (decide (x0 < 32) && decide (x1 < 32) && decide (x2 < 4) && decide (x3 < 8) && decide (x4 < 2)) = true := hw
  simp only [Bool.and_eq_true, decide_eq_true_eq] at hb
  obtain ⟨hl, hM, g0, f0, f1, f2, f3, f4⟩ := layout17 x0 x1 x2 x3 x4 23 4 (by decide) (by omega) (by omega) (by omega) (by omega) (by omega) (by decide) (w := 1543503876 + x0 * 2097152 + x1 * 65536 + x2 * 2048 + x3 * 256 + x4 * 16) (by omega)
  exact of_word (i := (.vror x0 x1 x2 x3 x4)) rfl hl (by rw [show field (encode (.vror x0 x1 x2 x3 x4)) 26 6 = 23 from hM]; decide)
    (show candidate (1543503876 + x0 * 2097152 + x1 * 65536 + x2 * 2048 + x3 * 256 + x4 * 16) = _ by rw [candidate17 hM]; delta major17; simp only [g0, f0, f1, f2, f3, f4]) hw rest

theorem vrxor (x0 x1 x2 x3 x4 : Nat) : Statement (.vrxor x0 x1 x2 x3 x4) := by
  intro hw _ _ rest
  have hb : (decide (x0 < 32) && decide (x1 < 32) && decide (x2 < 4) && decide (x3 < 8) && decide (x4 < 2)) = true := hw
  simp only [Bool.and_eq_true, decide_eq_true_eq] at hb
  obtain ⟨hl, hM, g0, f0, f1, f2, f3, f4⟩ := layout17 x0 x1 x2 x3 x4 23 5 (by decide) (by omega) (by omega) (by omega) (by omega) (by omega) (by decide) (w := 1543503877 + x0 * 2097152 + x1 * 65536 + x2 * 2048 + x3 * 256 + x4 * 16) (by omega)
  exact of_word (i := (.vrxor x0 x1 x2 x3 x4)) rfl hl (by rw [show field (encode (.vrxor x0 x1 x2 x3 x4)) 26 6 = 23 from hM]; decide)
    (show candidate (1543503877 + x0 * 2097152 + x1 * 65536 + x2 * 2048 + x3 * 256 + x4 * 16) = _ by rw [candidate17 hM]; delta major17; simp only [g0, f0, f1, f2, f3, f4]) hw rest

theorem vaddx (x0 x1 x2 x3 x4 x5 : Nat) : Statement (.vaddx x0 x1 x2 x3 x4 x5) := by
  intro hw _ _ rest
  have hb : (decide (x0 < 32) && decide (x1 < 32) && decide (x2 < 32) && decide (x3 < 8) && decide (x4 < 2) && decide (x5 < 2)) = true := hw
  simp only [Bool.and_eq_true, decide_eq_true_eq] at hb
  obtain ⟨hl, hM, g0, f0, f1, f2, f3, f4, f5⟩ := layout10 x0 x1 x2 x3 x4 x5 24 0 (by decide) (by omega) (by omega) (by omega) (by omega) (by omega) (by omega) (by decide) (w := 1610612736 + x0 * 2097152 + x1 * 65536 + x2 * 2048 + x3 * 256 + x4 * 16 + x5 * 8) (by omega)
  exact of_word (i := (.vaddx x0 x1 x2 x3 x4 x5)) rfl hl (by rw [show field (encode (.vaddx x0 x1 x2 x3 x4 x5)) 26 6 = 24 from hM]; decide)
    (show candidate (1610612736 + x0 * 2097152 + x1 * 65536 + x2 * 2048 + x3 * 256 + x4 * 16 + x5 * 8) = _ by rw [candidate18 hM]; delta major18; simp only [g0, f0, f1, f2, f3, f4, f5]) hw rest

theorem vsubx (x0 x1 x2 x3 x4 x5 : Nat) : Statement (.vsubx x0 x1 x2 x3 x4 x5) := by
  intro hw _ _ rest
  have hb : (decide (x0 < 32) && decide (x1 < 32) && decide (x2 < 32) && decide (x3 < 8) && decide (x4 < 2) && decide (x5 < 2)) = true := hw
  simp only [Bool.and_eq_true, decide_eq_true_eq] at hb
  obtain ⟨hl, hM, g0, f0, f1, f2, f3, f4, f5⟩ := layout10 x0 x1 x2 x3 x4 x5 24 1 (by decide) (by omega) (by omega) (by omega) (by omega) (by omega) (by omega) (by decide) (w := 1610612737 + x0 * 2097152 + x1 * 65536 + x2 * 2048 + x3 * 256 + x4 * 16 + x5 * 8) (by omega)
  exact of_word (i := (.vsubx x0 x1 x2 x3 x4 x5)) rfl hl (by rw [show field (encode (.vsubx x0 x1 x2 x3 x4 x5)) 26 6 = 24 from hM]; decide)
    (show candidate (1610612737 + x0 * 2097152 + x1 * 65536 + x2 * 2048 + x3 * 256 + x4 * 16 + x5 * 8) = _ by rw [candidate18 hM]; delta major18; simp only [g0, f0, f1, f2, f3, f4, f5]) hw rest

theorem vmulx (x0 x1 x2 x3 x4 x5 : Nat) : Statement (.vmulx x0 x1 x2 x3 x4 x5) := by
  intro hw _ _ rest
  have hb : (decide (x0 < 32) && decide (x1 < 32) && decide (x2 < 32) && decide (x3 < 8) && decide (x4 < 2) && decide (x5 < 2)) = true := hw
  simp only [Bool.and_eq_true, decide_eq_true_eq] at hb
  obtain ⟨hl, hM, g0, f0, f1, f2, f3, f4, f5⟩ := layout10 x0 x1 x2 x3 x4 x5 24 2 (by decide) (by omega) (by omega) (by omega) (by omega) (by omega) (by omega) (by decide) (w := 1610612738 + x0 * 2097152 + x1 * 65536 + x2 * 2048 + x3 * 256 + x4 * 16 + x5 * 8) (by omega)
  exact of_word (i := (.vmulx x0 x1 x2 x3 x4 x5)) rfl hl (by rw [show field (encode (.vmulx x0 x1 x2 x3 x4 x5)) 26 6 = 24 from hM]; decide)
    (show candidate (1610612738 + x0 * 2097152 + x1 * 65536 + x2 * 2048 + x3 * 256 + x4 * 16 + x5 * 8) = _ by rw [candidate18 hM]; delta major18; simp only [g0, f0, f1, f2, f3, f4, f5]) hw rest

theorem vminx (x0 x1 x2 x3 x4 x5 : Nat) : Statement (.vminx x0 x1 x2 x3 x4 x5) := by
  intro hw _ _ rest
  have hb : (decide (x0 < 32) && decide (x1 < 32) && decide (x2 < 32) && decide (x3 < 8) && decide (x4 < 2) && decide (x5 < 2)) = true := hw
  simp only [Bool.and_eq_true, decide_eq_true_eq] at hb
  obtain ⟨hl, hM, g0, f0, f1, f2, f3, f4, f5⟩ := layout10 x0 x1 x2 x3 x4 x5 24 3 (by decide) (by omega) (by omega) (by omega) (by omega) (by omega) (by omega) (by decide) (w := 1610612739 + x0 * 2097152 + x1 * 65536 + x2 * 2048 + x3 * 256 + x4 * 16 + x5 * 8) (by omega)
  exact of_word (i := (.vminx x0 x1 x2 x3 x4 x5)) rfl hl (by rw [show field (encode (.vminx x0 x1 x2 x3 x4 x5)) 26 6 = 24 from hM]; decide)
    (show candidate (1610612739 + x0 * 2097152 + x1 * 65536 + x2 * 2048 + x3 * 256 + x4 * 16 + x5 * 8) = _ by rw [candidate18 hM]; delta major18; simp only [g0, f0, f1, f2, f3, f4, f5]) hw rest

theorem vmaxx (x0 x1 x2 x3 x4 x5 : Nat) : Statement (.vmaxx x0 x1 x2 x3 x4 x5) := by
  intro hw _ _ rest
  have hb : (decide (x0 < 32) && decide (x1 < 32) && decide (x2 < 32) && decide (x3 < 8) && decide (x4 < 2) && decide (x5 < 2)) = true := hw
  simp only [Bool.and_eq_true, decide_eq_true_eq] at hb
  obtain ⟨hl, hM, g0, f0, f1, f2, f3, f4, f5⟩ := layout10 x0 x1 x2 x3 x4 x5 24 4 (by decide) (by omega) (by omega) (by omega) (by omega) (by omega) (by omega) (by decide) (w := 1610612740 + x0 * 2097152 + x1 * 65536 + x2 * 2048 + x3 * 256 + x4 * 16 + x5 * 8) (by omega)
  exact of_word (i := (.vmaxx x0 x1 x2 x3 x4 x5)) rfl hl (by rw [show field (encode (.vmaxx x0 x1 x2 x3 x4 x5)) 26 6 = 24 from hM]; decide)
    (show candidate (1610612740 + x0 * 2097152 + x1 * 65536 + x2 * 2048 + x3 * 256 + x4 * 16 + x5 * 8) = _ by rw [candidate18 hM]; delta major18; simp only [g0, f0, f1, f2, f3, f4, f5]) hw rest

theorem vsllx (x0 x1 x2 x3 x4 x5 : Nat) : Statement (.vsllx x0 x1 x2 x3 x4 x5) := by
  intro hw _ _ rest
  have hb : (decide (x0 < 32) && decide (x1 < 32) && decide (x2 < 32) && decide (x3 < 8) && decide (x4 < 2) && decide (x5 < 2)) = true := hw
  simp only [Bool.and_eq_true, decide_eq_true_eq] at hb
  obtain ⟨hl, hM, g0, f0, f1, f2, f3, f4, f5⟩ := layout10 x0 x1 x2 x3 x4 x5 24 5 (by decide) (by omega) (by omega) (by omega) (by omega) (by omega) (by omega) (by decide) (w := 1610612741 + x0 * 2097152 + x1 * 65536 + x2 * 2048 + x3 * 256 + x4 * 16 + x5 * 8) (by omega)
  exact of_word (i := (.vsllx x0 x1 x2 x3 x4 x5)) rfl hl (by rw [show field (encode (.vsllx x0 x1 x2 x3 x4 x5)) 26 6 = 24 from hM]; decide)
    (show candidate (1610612741 + x0 * 2097152 + x1 * 65536 + x2 * 2048 + x3 * 256 + x4 * 16 + x5 * 8) = _ by rw [candidate18 hM]; delta major18; simp only [g0, f0, f1, f2, f3, f4, f5]) hw rest

theorem vsrlx (x0 x1 x2 x3 x4 x5 : Nat) : Statement (.vsrlx x0 x1 x2 x3 x4 x5) := by
  intro hw _ _ rest
  have hb : (decide (x0 < 32) && decide (x1 < 32) && decide (x2 < 32) && decide (x3 < 8) && decide (x4 < 2) && decide (x5 < 2)) = true := hw
  simp only [Bool.and_eq_true, decide_eq_true_eq] at hb
  obtain ⟨hl, hM, g0, f0, f1, f2, f3, f4, f5⟩ := layout10 x0 x1 x2 x3 x4 x5 24 6 (by decide) (by omega) (by omega) (by omega) (by omega) (by omega) (by omega) (by decide) (w := 1610612742 + x0 * 2097152 + x1 * 65536 + x2 * 2048 + x3 * 256 + x4 * 16 + x5 * 8) (by omega)
  exact of_word (i := (.vsrlx x0 x1 x2 x3 x4 x5)) rfl hl (by rw [show field (encode (.vsrlx x0 x1 x2 x3 x4 x5)) 26 6 = 24 from hM]; decide)
    (show candidate (1610612742 + x0 * 2097152 + x1 * 65536 + x2 * 2048 + x3 * 256 + x4 * 16 + x5 * 8) = _ by rw [candidate18 hM]; delta major18; simp only [g0, f0, f1, f2, f3, f4, f5]) hw rest

theorem vsrax (x0 x1 x2 x3 x4 x5 : Nat) : Statement (.vsrax x0 x1 x2 x3 x4 x5) := by
  intro hw _ _ rest
  have hb : (decide (x0 < 32) && decide (x1 < 32) && decide (x2 < 32) && decide (x3 < 8) && decide (x4 < 2) && decide (x5 < 2)) = true := hw
  simp only [Bool.and_eq_true, decide_eq_true_eq] at hb
  obtain ⟨hl, hM, g0, f0, f1, f2, f3, f4, f5⟩ := layout10 x0 x1 x2 x3 x4 x5 24 7 (by decide) (by omega) (by omega) (by omega) (by omega) (by omega) (by omega) (by decide) (w := 1610612743 + x0 * 2097152 + x1 * 65536 + x2 * 2048 + x3 * 256 + x4 * 16 + x5 * 8) (by omega)
  exact of_word (i := (.vsrax x0 x1 x2 x3 x4 x5)) rfl hl (by rw [show field (encode (.vsrax x0 x1 x2 x3 x4 x5)) 26 6 = 24 from hM]; decide)
    (show candidate (1610612743 + x0 * 2097152 + x1 * 65536 + x2 * 2048 + x3 * 256 + x4 * 16 + x5 * 8) = _ by rw [candidate18 hM]; delta major18; simp only [g0, f0, f1, f2, f3, f4, f5]) hw rest

theorem vfaddx (x0 x1 x2 x3 x4 x5 : Nat) : Statement (.vfaddx x0 x1 x2 x3 x4 x5) := by
  intro hw _ _ rest
  have hb : (decide (x0 < 32) && decide (x1 < 32) && decide (x2 < 32) && decide (x3 < 8) && decide (x4 < 8) && decide (x5 < 2) && rmLegal x4) = true := hw
  simp only [Bool.and_eq_true, decide_eq_true_eq] at hb
  obtain ⟨hl, hM, g0, f0, f1, f2, f3, f4, f5⟩ := layout15 x0 x1 x2 x3 x4 x5 25 0 (by decide) (by omega) (by omega) (by omega) (by omega) (by omega) (by omega) (by decide) (w := 1677721600 + x0 * 2097152 + x1 * 65536 + x2 * 2048 + x3 * 256 + x4 * 32 + x5 * 16) (by omega)
  exact of_word (i := (.vfaddx x0 x1 x2 x3 x4 x5)) rfl hl (by rw [show field (encode (.vfaddx x0 x1 x2 x3 x4 x5)) 26 6 = 25 from hM]; decide)
    (show candidate (1677721600 + x0 * 2097152 + x1 * 65536 + x2 * 2048 + x3 * 256 + x4 * 32 + x5 * 16) = _ by rw [candidate19 hM]; delta major19; simp only [g0, f0, f1, f2, f3, f4, f5]) hw rest

theorem vfsubx (x0 x1 x2 x3 x4 x5 : Nat) : Statement (.vfsubx x0 x1 x2 x3 x4 x5) := by
  intro hw _ _ rest
  have hb : (decide (x0 < 32) && decide (x1 < 32) && decide (x2 < 32) && decide (x3 < 8) && decide (x4 < 8) && decide (x5 < 2) && rmLegal x4) = true := hw
  simp only [Bool.and_eq_true, decide_eq_true_eq] at hb
  obtain ⟨hl, hM, g0, f0, f1, f2, f3, f4, f5⟩ := layout15 x0 x1 x2 x3 x4 x5 25 1 (by decide) (by omega) (by omega) (by omega) (by omega) (by omega) (by omega) (by decide) (w := 1677721601 + x0 * 2097152 + x1 * 65536 + x2 * 2048 + x3 * 256 + x4 * 32 + x5 * 16) (by omega)
  exact of_word (i := (.vfsubx x0 x1 x2 x3 x4 x5)) rfl hl (by rw [show field (encode (.vfsubx x0 x1 x2 x3 x4 x5)) 26 6 = 25 from hM]; decide)
    (show candidate (1677721601 + x0 * 2097152 + x1 * 65536 + x2 * 2048 + x3 * 256 + x4 * 32 + x5 * 16) = _ by rw [candidate19 hM]; delta major19; simp only [g0, f0, f1, f2, f3, f4, f5]) hw rest

theorem vfmulx (x0 x1 x2 x3 x4 x5 : Nat) : Statement (.vfmulx x0 x1 x2 x3 x4 x5) := by
  intro hw _ _ rest
  have hb : (decide (x0 < 32) && decide (x1 < 32) && decide (x2 < 32) && decide (x3 < 8) && decide (x4 < 8) && decide (x5 < 2) && rmLegal x4) = true := hw
  simp only [Bool.and_eq_true, decide_eq_true_eq] at hb
  obtain ⟨hl, hM, g0, f0, f1, f2, f3, f4, f5⟩ := layout15 x0 x1 x2 x3 x4 x5 25 2 (by decide) (by omega) (by omega) (by omega) (by omega) (by omega) (by omega) (by decide) (w := 1677721602 + x0 * 2097152 + x1 * 65536 + x2 * 2048 + x3 * 256 + x4 * 32 + x5 * 16) (by omega)
  exact of_word (i := (.vfmulx x0 x1 x2 x3 x4 x5)) rfl hl (by rw [show field (encode (.vfmulx x0 x1 x2 x3 x4 x5)) 26 6 = 25 from hM]; decide)
    (show candidate (1677721602 + x0 * 2097152 + x1 * 65536 + x2 * 2048 + x3 * 256 + x4 * 32 + x5 * 16) = _ by rw [candidate19 hM]; delta major19; simp only [g0, f0, f1, f2, f3, f4, f5]) hw rest

theorem vfdivx (x0 x1 x2 x3 x4 x5 : Nat) : Statement (.vfdivx x0 x1 x2 x3 x4 x5) := by
  intro hw _ _ rest
  have hb : (decide (x0 < 32) && decide (x1 < 32) && decide (x2 < 32) && decide (x3 < 8) && decide (x4 < 8) && decide (x5 < 2) && rmLegal x4) = true := hw
  simp only [Bool.and_eq_true, decide_eq_true_eq] at hb
  obtain ⟨hl, hM, g0, f0, f1, f2, f3, f4, f5⟩ := layout15 x0 x1 x2 x3 x4 x5 25 3 (by decide) (by omega) (by omega) (by omega) (by omega) (by omega) (by omega) (by decide) (w := 1677721603 + x0 * 2097152 + x1 * 65536 + x2 * 2048 + x3 * 256 + x4 * 32 + x5 * 16) (by omega)
  exact of_word (i := (.vfdivx x0 x1 x2 x3 x4 x5)) rfl hl (by rw [show field (encode (.vfdivx x0 x1 x2 x3 x4 x5)) 26 6 = 25 from hM]; decide)
    (show candidate (1677721603 + x0 * 2097152 + x1 * 65536 + x2 * 2048 + x3 * 256 + x4 * 32 + x5 * 16) = _ by rw [candidate19 hM]; delta major19; simp only [g0, f0, f1, f2, f3, f4, f5]) hw rest

theorem vfmaxPropagating (x0 x1 x2 x3 x4 : Nat) : Statement (.vfmaxPropagating x0 x1 x2 x3 x4) := by
  intro hw _ _ rest
  have hb : (decide (x0 < 32) && decide (x1 < 32) && decide (x2 < 32) && decide (x3 < 8) && decide (x4 < 2)) = true := hw
  simp only [Bool.and_eq_true, decide_eq_true_eq] at hb
  obtain ⟨hl, hM, g0, f0, f1, f2, f3, f4⟩ := layout18 x0 x1 x2 x3 x4 25 4 (by decide) (by omega) (by omega) (by omega) (by omega) (by omega) (by decide) (w := 1677721604 + x0 * 2097152 + x1 * 65536 + x2 * 2048 + x3 * 256 + x4 * 16) (by omega)
  exact of_word (i := (.vfmaxPropagating x0 x1 x2 x3 x4)) rfl hl (by rw [show field (encode (.vfmaxPropagating x0 x1 x2 x3 x4)) 26 6 = 25 from hM]; decide)
    (show candidate (1677721604 + x0 * 2097152 + x1 * 65536 + x2 * 2048 + x3 * 256 + x4 * 16) = _ by rw [candidate19 hM]; delta major19; simp only [g0, f0, f1, f2, f3, f4]) hw rest

theorem vfminx (x0 x1 x2 x3 x4 : Nat) : Statement (.vfminx x0 x1 x2 x3 x4) := by
  intro hw _ _ rest
  have hb : (decide (x0 < 32) && decide (x1 < 32) && decide (x2 < 32) && decide (x3 < 8) && decide (x4 < 2)) = true := hw
  simp only [Bool.and_eq_true, decide_eq_true_eq] at hb
  obtain ⟨hl, hM, g0, f0, f1, f2, f3, f4⟩ := layout18 x0 x1 x2 x3 x4 25 5 (by decide) (by omega) (by omega) (by omega) (by omega) (by omega) (by decide) (w := 1677721605 + x0 * 2097152 + x1 * 65536 + x2 * 2048 + x3 * 256 + x4 * 16) (by omega)
  exact of_word (i := (.vfminx x0 x1 x2 x3 x4)) rfl hl (by rw [show field (encode (.vfminx x0 x1 x2 x3 x4)) 26 6 = 25 from hM]; decide)
    (show candidate (1677721605 + x0 * 2097152 + x1 * 65536 + x2 * 2048 + x3 * 256 + x4 * 16) = _ by rw [candidate19 hM]; delta major19; simp only [g0, f0, f1, f2, f3, f4]) hw rest

theorem vfmaxx (x0 x1 x2 x3 x4 : Nat) : Statement (.vfmaxx x0 x1 x2 x3 x4) := by
  intro hw _ _ rest
  have hb : (decide (x0 < 32) && decide (x1 < 32) && decide (x2 < 32) && decide (x3 < 8) && decide (x4 < 2)) = true := hw
  simp only [Bool.and_eq_true, decide_eq_true_eq] at hb
  obtain ⟨hl, hM, g0, f0, f1, f2, f3, f4⟩ := layout18 x0 x1 x2 x3 x4 25 6 (by decide) (by omega) (by omega) (by omega) (by omega) (by omega) (by decide) (w := 1677721606 + x0 * 2097152 + x1 * 65536 + x2 * 2048 + x3 * 256 + x4 * 16) (by omega)
  exact of_word (i := (.vfmaxx x0 x1 x2 x3 x4)) rfl hl (by rw [show field (encode (.vfmaxx x0 x1 x2 x3 x4)) 26 6 = 25 from hM]; decide)
    (show candidate (1677721606 + x0 * 2097152 + x1 * 65536 + x2 * 2048 + x3 * 256 + x4 * 16) = _ by rw [candidate19 hM]; delta major19; simp only [g0, f0, f1, f2, f3, f4]) hw rest

theorem vfrsubx (x0 x1 x2 x3 x4 x5 : Nat) : Statement (.vfrsubx x0 x1 x2 x3 x4 x5) := by
  intro hw _ _ rest
  have hb : (decide (x0 < 32) && decide (x1 < 32) && decide (x2 < 32) && decide (x3 < 8) && decide (x4 < 8) && decide (x5 < 2) && rmLegal x4) = true := hw
  simp only [Bool.and_eq_true, decide_eq_true_eq] at hb
  obtain ⟨hl, hM, g0, f0, f1, f2, f3, f4, f5⟩ := layout15 x0 x1 x2 x3 x4 x5 25 7 (by decide) (by omega) (by omega) (by omega) (by omega) (by omega) (by omega) (by decide) (w := 1677721607 + x0 * 2097152 + x1 * 65536 + x2 * 2048 + x3 * 256 + x4 * 32 + x5 * 16) (by omega)
  exact of_word (i := (.vfrsubx x0 x1 x2 x3 x4 x5)) rfl hl (by rw [show field (encode (.vfrsubx x0 x1 x2 x3 x4 x5)) 26 6 = 25 from hM]; decide)
    (show candidate (1677721607 + x0 * 2097152 + x1 * 65536 + x2 * 2048 + x3 * 256 + x4 * 32 + x5 * 16) = _ by rw [candidate19 hM]; delta major19; simp only [g0, f0, f1, f2, f3, f4, f5]) hw rest

theorem vceqx (x0 x1 x2 x3 x4 x5 : Nat) : Statement (.vceqx x0 x1 x2 x3 x4 x5) := by
  intro hw _ _ rest
  have hb : (decide (x0 < 8) && decide (x1 < 32) && decide (x2 < 32) && decide (x3 < 8) && decide (x4 < 2) && decide (x5 < 2)) = true := hw
  simp only [Bool.and_eq_true, decide_eq_true_eq] at hb
  obtain ⟨hl, hM, g0, f0, f1, f2, f3, f4, f5⟩ := layout19 x0 x1 x2 x3 x4 x5 26 0 (by decide) (by omega) (by omega) (by omega) (by omega) (by omega) (by omega) (by decide) (w := 1744830464 + x0 * 2097152 + x1 * 65536 + x2 * 2048 + x3 * 256 + x4 * 16 + x5 * 8) (by omega)
  exact of_word (i := (.vceqx x0 x1 x2 x3 x4 x5)) rfl hl (by rw [show field (encode (.vceqx x0 x1 x2 x3 x4 x5)) 26 6 = 26 from hM]; decide)
    (show candidate (1744830464 + x0 * 2097152 + x1 * 65536 + x2 * 2048 + x3 * 256 + x4 * 16 + x5 * 8) = _ by rw [candidate1A hM]; delta major1A; simp only [g0, f0, f1, f2, f3, f4, f5]) hw rest

theorem vcnex (x0 x1 x2 x3 x4 x5 : Nat) : Statement (.vcnex x0 x1 x2 x3 x4 x5) := by
  intro hw _ _ rest
  have hb : (decide (x0 < 8) && decide (x1 < 32) && decide (x2 < 32) && decide (x3 < 8) && decide (x4 < 2) && decide (x5 < 2)) = true := hw
  simp only [Bool.and_eq_true, decide_eq_true_eq] at hb
  obtain ⟨hl, hM, g0, f0, f1, f2, f3, f4, f5⟩ := layout19 x0 x1 x2 x3 x4 x5 26 1 (by decide) (by omega) (by omega) (by omega) (by omega) (by omega) (by omega) (by decide) (w := 1744830465 + x0 * 2097152 + x1 * 65536 + x2 * 2048 + x3 * 256 + x4 * 16 + x5 * 8) (by omega)
  exact of_word (i := (.vcnex x0 x1 x2 x3 x4 x5)) rfl hl (by rw [show field (encode (.vcnex x0 x1 x2 x3 x4 x5)) 26 6 = 26 from hM]; decide)
    (show candidate (1744830465 + x0 * 2097152 + x1 * 65536 + x2 * 2048 + x3 * 256 + x4 * 16 + x5 * 8) = _ by rw [candidate1A hM]; delta major1A; simp only [g0, f0, f1, f2, f3, f4, f5]) hw rest

theorem vcltx (x0 x1 x2 x3 x4 x5 : Nat) : Statement (.vcltx x0 x1 x2 x3 x4 x5) := by
  intro hw _ _ rest
  have hb : (decide (x0 < 8) && decide (x1 < 32) && decide (x2 < 32) && decide (x3 < 8) && decide (x4 < 2) && decide (x5 < 2)) = true := hw
  simp only [Bool.and_eq_true, decide_eq_true_eq] at hb
  obtain ⟨hl, hM, g0, f0, f1, f2, f3, f4, f5⟩ := layout19 x0 x1 x2 x3 x4 x5 26 2 (by decide) (by omega) (by omega) (by omega) (by omega) (by omega) (by omega) (by decide) (w := 1744830466 + x0 * 2097152 + x1 * 65536 + x2 * 2048 + x3 * 256 + x4 * 16 + x5 * 8) (by omega)
  exact of_word (i := (.vcltx x0 x1 x2 x3 x4 x5)) rfl hl (by rw [show field (encode (.vcltx x0 x1 x2 x3 x4 x5)) 26 6 = 26 from hM]; decide)
    (show candidate (1744830466 + x0 * 2097152 + x1 * 65536 + x2 * 2048 + x3 * 256 + x4 * 16 + x5 * 8) = _ by rw [candidate1A hM]; delta major1A; simp only [g0, f0, f1, f2, f3, f4, f5]) hw rest

theorem vclex (x0 x1 x2 x3 x4 x5 : Nat) : Statement (.vclex x0 x1 x2 x3 x4 x5) := by
  intro hw _ _ rest
  have hb : (decide (x0 < 8) && decide (x1 < 32) && decide (x2 < 32) && decide (x3 < 8) && decide (x4 < 2) && decide (x5 < 2)) = true := hw
  simp only [Bool.and_eq_true, decide_eq_true_eq] at hb
  obtain ⟨hl, hM, g0, f0, f1, f2, f3, f4, f5⟩ := layout19 x0 x1 x2 x3 x4 x5 26 3 (by decide) (by omega) (by omega) (by omega) (by omega) (by omega) (by omega) (by decide) (w := 1744830467 + x0 * 2097152 + x1 * 65536 + x2 * 2048 + x3 * 256 + x4 * 16 + x5 * 8) (by omega)
  exact of_word (i := (.vclex x0 x1 x2 x3 x4 x5)) rfl hl (by rw [show field (encode (.vclex x0 x1 x2 x3 x4 x5)) 26 6 = 26 from hM]; decide)
    (show candidate (1744830467 + x0 * 2097152 + x1 * 65536 + x2 * 2048 + x3 * 256 + x4 * 16 + x5 * 8) = _ by rw [candidate1A hM]; delta major1A; simp only [g0, f0, f1, f2, f3, f4, f5]) hw rest

theorem vcgtx (x0 x1 x2 x3 x4 x5 : Nat) : Statement (.vcgtx x0 x1 x2 x3 x4 x5) := by
  intro hw _ _ rest
  have hb : (decide (x0 < 8) && decide (x1 < 32) && decide (x2 < 32) && decide (x3 < 8) && decide (x4 < 2) && decide (x5 < 2)) = true := hw
  simp only [Bool.and_eq_true, decide_eq_true_eq] at hb
  obtain ⟨hl, hM, g0, f0, f1, f2, f3, f4, f5⟩ := layout19 x0 x1 x2 x3 x4 x5 26 4 (by decide) (by omega) (by omega) (by omega) (by omega) (by omega) (by omega) (by decide) (w := 1744830468 + x0 * 2097152 + x1 * 65536 + x2 * 2048 + x3 * 256 + x4 * 16 + x5 * 8) (by omega)
  exact of_word (i := (.vcgtx x0 x1 x2 x3 x4 x5)) rfl hl (by rw [show field (encode (.vcgtx x0 x1 x2 x3 x4 x5)) 26 6 = 26 from hM]; decide)
    (show candidate (1744830468 + x0 * 2097152 + x1 * 65536 + x2 * 2048 + x3 * 256 + x4 * 16 + x5 * 8) = _ by rw [candidate1A hM]; delta major1A; simp only [g0, f0, f1, f2, f3, f4, f5]) hw rest

theorem vcgex (x0 x1 x2 x3 x4 x5 : Nat) : Statement (.vcgex x0 x1 x2 x3 x4 x5) := by
  intro hw _ _ rest
  have hb : (decide (x0 < 8) && decide (x1 < 32) && decide (x2 < 32) && decide (x3 < 8) && decide (x4 < 2) && decide (x5 < 2)) = true := hw
  simp only [Bool.and_eq_true, decide_eq_true_eq] at hb
  obtain ⟨hl, hM, g0, f0, f1, f2, f3, f4, f5⟩ := layout19 x0 x1 x2 x3 x4 x5 26 5 (by decide) (by omega) (by omega) (by omega) (by omega) (by omega) (by omega) (by decide) (w := 1744830469 + x0 * 2097152 + x1 * 65536 + x2 * 2048 + x3 * 256 + x4 * 16 + x5 * 8) (by omega)
  exact of_word (i := (.vcgex x0 x1 x2 x3 x4 x5)) rfl hl (by rw [show field (encode (.vcgex x0 x1 x2 x3 x4 x5)) 26 6 = 26 from hM]; decide)
    (show candidate (1744830469 + x0 * 2097152 + x1 * 65536 + x2 * 2048 + x3 * 256 + x4 * 16 + x5 * 8) = _ by rw [candidate1A hM]; delta major1A; simp only [g0, f0, f1, f2, f3, f4, f5]) hw rest

theorem vmovx (x0 x1 x2 x3 : Nat) : Statement (.vmovx x0 x1 x2 x3) := by
  intro hw _ _ rest
  have hb : (decide (x0 < 32) && decide (x1 < 32) && decide (x2 < 8) && decide (x3 < 2)) = true := hw
  simp only [Bool.and_eq_true, decide_eq_true_eq] at hb
  obtain ⟨hl, hM, g0, f0, f1, f2, f3⟩ := layout20 x0 x1 x2 x3 27 0 (by decide) (by omega) (by omega) (by omega) (by omega) (by decide) (w := 1811939328 + x0 * 2097152 + x1 * 2048 + x2 * 256 + x3 * 8) (by omega)
  exact of_word (i := (.vmovx x0 x1 x2 x3)) rfl hl (by rw [show field (encode (.vmovx x0 x1 x2 x3)) 26 6 = 27 from hM]; decide)
    (show candidate (1811939328 + x0 * 2097152 + x1 * 2048 + x2 * 256 + x3 * 8) = _ by rw [candidate1B hM]; delta major1B; simp only [g0, f0, f1, f2, f3]) hw rest

theorem vextx (x0 x1 x2 x3 x4 : Nat) : Statement (.vextx x0 x1 x2 x3 x4) := by
  intro hw _ _ rest
  have hb : (decide (x0 < 32) && decide (x1 < 32) && decide (x2 < 32) && decide (x3 < 8) && decide (x4 < 2)) = true := hw
  simp only [Bool.and_eq_true, decide_eq_true_eq] at hb
  obtain ⟨hl, hM, g0, f0, f1, f2, f3, f4⟩ := layout18 x0 x1 x2 x3 x4 27 1 (by decide) (by omega) (by omega) (by omega) (by omega) (by omega) (by decide) (w := 1811939329 + x0 * 2097152 + x1 * 65536 + x2 * 2048 + x3 * 256 + x4 * 16) (by omega)
  exact of_word (i := (.vextx x0 x1 x2 x3 x4)) rfl hl (by rw [show field (encode (.vextx x0 x1 x2 x3 x4)) 26 6 = 27 from hM]; decide)
    (show candidate (1811939329 + x0 * 2097152 + x1 * 65536 + x2 * 2048 + x3 * 256 + x4 * 16) = _ by rw [candidate1B hM]; delta major1B; simp only [g0, f0, f1, f2, f3, f4]) hw rest

theorem vcoordX (x0 x1 x2 x3 : Nat) : Statement (.vcoordX x0 x1 x2 x3) := by
  intro hw _ _ rest
  have hb : (decide (x0 < 32) && decide (x1 < 32) && decide (x2 < 8) && decide (x3 < 2)) = true := hw
  simp only [Bool.and_eq_true, decide_eq_true_eq] at hb
  obtain ⟨hl, hM, g0, f0, f1, f2, f3⟩ := layout20 x0 x1 x2 x3 27 2 (by decide) (by omega) (by omega) (by omega) (by omega) (by decide) (w := 1811939330 + x0 * 2097152 + x1 * 2048 + x2 * 256 + x3 * 8) (by omega)
  exact of_word (i := (.vcoordX x0 x1 x2 x3)) rfl hl (by rw [show field (encode (.vcoordX x0 x1 x2 x3)) 26 6 = 27 from hM]; decide)
    (show candidate (1811939330 + x0 * 2097152 + x1 * 2048 + x2 * 256 + x3 * 8) = _ by rw [candidate1B hM]; delta major1B; simp only [g0, f0, f1, f2, f3]) hw rest

theorem vcoordY (x0 x1 x2 x3 : Nat) : Statement (.vcoordY x0 x1 x2 x3) := by
  intro hw _ _ rest
  have hb : (decide (x0 < 32) && decide (x1 < 32) && decide (x2 < 8) && decide (x3 < 2)) = true := hw
  simp only [Bool.and_eq_true, decide_eq_true_eq] at hb
  obtain ⟨hl, hM, g0, f0, f1, f2, f3⟩ := layout20 x0 x1 x2 x3 27 3 (by decide) (by omega) (by omega) (by omega) (by omega) (by decide) (w := 1811939331 + x0 * 2097152 + x1 * 2048 + x2 * 256 + x3 * 8) (by omega)
  exact of_word (i := (.vcoordY x0 x1 x2 x3)) rfl hl (by rw [show field (encode (.vcoordY x0 x1 x2 x3)) 26 6 = 27 from hM]; decide)
    (show candidate (1811939331 + x0 * 2097152 + x1 * 2048 + x2 * 256 + x3 * 8) = _ by rw [candidate1B hM]; delta major1B; simp only [g0, f0, f1, f2, f3]) hw rest

theorem vcoordZ (x0 x1 x2 x3 : Nat) : Statement (.vcoordZ x0 x1 x2 x3) := by
  intro hw _ _ rest
  have hb : (decide (x0 < 32) && decide (x1 < 32) && decide (x2 < 8) && decide (x3 < 2)) = true := hw
  simp only [Bool.and_eq_true, decide_eq_true_eq] at hb
  obtain ⟨hl, hM, g0, f0, f1, f2, f3⟩ := layout20 x0 x1 x2 x3 27 4 (by decide) (by omega) (by omega) (by omega) (by omega) (by decide) (w := 1811939332 + x0 * 2097152 + x1 * 2048 + x2 * 256 + x3 * 8) (by omega)
  exact of_word (i := (.vcoordZ x0 x1 x2 x3)) rfl hl (by rw [show field (encode (.vcoordZ x0 x1 x2 x3)) 26 6 = 27 from hM]; decide)
    (show candidate (1811939332 + x0 * 2097152 + x1 * 2048 + x2 * 256 + x3 * 8) = _ by rw [candidate1B hM]; delta major1B; simp only [g0, f0, f1, f2, f3]) hw rest

theorem vtrxy (x0 x1 x2 x3 : Nat) : Statement (.vtrxy x0 x1 x2 x3) := by
  intro hw _ _ rest
  have hb : (decide (x0 < 32) && decide (x1 < 32) && decide (x2 < 8) && decide (x3 < 2)) = true := hw
  simp only [Bool.and_eq_true, decide_eq_true_eq] at hb
  obtain ⟨hl, hM, g0, f0, f1, f2, f3⟩ := layout11 x0 x1 x2 x3 28 0 (by decide) (by omega) (by omega) (by omega) (by omega) (by decide) (w := 1879048192 + x0 * 2097152 + x1 * 65536 + x2 * 256 + x3 * 16) (by omega)
  exact of_word (i := (.vtrxy x0 x1 x2 x3)) rfl hl (by rw [show field (encode (.vtrxy x0 x1 x2 x3)) 26 6 = 28 from hM]; decide)
    (show candidate (1879048192 + x0 * 2097152 + x1 * 65536 + x2 * 256 + x3 * 16) = _ by rw [candidate1C hM]; delta major1C; simp only [g0, f0, f1, f2, f3]) hw rest

theorem vslide (x0 x1 x2 x3 x4 x5 : Nat) : Statement (.vslide x0 x1 x2 x3 x4 x5) := by
  intro hw _ _ rest
  have hb : (decide (x0 < 32) && decide (x1 < 32) && decide (x2 < 32) && decide (x3 < 8) && decide (x4 < 8) && decide (x5 < 2) && decide (x4 < 3)) = true := hw
  simp only [Bool.and_eq_true, decide_eq_true_eq] at hb
  obtain ⟨hl, hM, g0, f0, f1, f2, f3, f4, f5⟩ := layout15 x0 x1 x2 x3 x4 x5 28 1 (by decide) (by omega) (by omega) (by omega) (by omega) (by omega) (by omega) (by decide) (w := 1879048193 + x0 * 2097152 + x1 * 65536 + x2 * 2048 + x3 * 256 + x4 * 32 + x5 * 16) (by omega)
  exact of_word (i := (.vslide x0 x1 x2 x3 x4 x5)) rfl hl (by rw [show field (encode (.vslide x0 x1 x2 x3 x4 x5)) 26 6 = 28 from hM]; decide)
    (show candidate (1879048193 + x0 * 2097152 + x1 * 65536 + x2 * 2048 + x3 * 256 + x4 * 32 + x5 * 16) = _ by rw [candidate1C hM]; delta major1C; simp only [g0, f0, f1, f2, f3, f4, f5]) hw rest

theorem vrot (x0 x1 x2 x3 x4 x5 : Nat) : Statement (.vrot x0 x1 x2 x3 x4 x5) := by
  intro hw _ _ rest
  have hb : (decide (x0 < 32) && decide (x1 < 32) && decide (x2 < 32) && decide (x3 < 8) && decide (x4 < 8) && decide (x5 < 2) && decide (x4 < 3)) = true := hw
  simp only [Bool.and_eq_true, decide_eq_true_eq] at hb
  obtain ⟨hl, hM, g0, f0, f1, f2, f3, f4, f5⟩ := layout15 x0 x1 x2 x3 x4 x5 28 2 (by decide) (by omega) (by omega) (by omega) (by omega) (by omega) (by omega) (by decide) (w := 1879048194 + x0 * 2097152 + x1 * 65536 + x2 * 2048 + x3 * 256 + x4 * 32 + x5 * 16) (by omega)
  exact of_word (i := (.vrot x0 x1 x2 x3 x4 x5)) rfl hl (by rw [show field (encode (.vrot x0 x1 x2 x3 x4 x5)) 26 6 = 28 from hM]; decide)
    (show candidate (1879048194 + x0 * 2097152 + x1 * 65536 + x2 * 2048 + x3 * 256 + x4 * 32 + x5 * 16) = _ by rw [candidate1C hM]; delta major1C; simp only [g0, f0, f1, f2, f3, f4, f5]) hw rest

theorem vgidx (x0 x1 x2 x3 x4 x5 : Nat) : Statement (.vgidx x0 x1 x2 x3 x4 x5) := by
  intro hw _ _ rest
  have hb : (decide (x0 < 32) && decide (x1 < 32) && decide (x2 < 32) && decide (x3 < 8) && decide (x4 < 2) && decide (x5 < 2)) = true := hw
  simp only [Bool.and_eq_true, decide_eq_true_eq] at hb
  obtain ⟨hl, hM, g0, f0, f1, f2, f3, f4, f5⟩ := layout10 x0 x1 x2 x3 x4 x5 28 3 (by decide) (by omega) (by omega) (by omega) (by omega) (by omega) (by omega) (by decide) (w := 1879048195 + x0 * 2097152 + x1 * 65536 + x2 * 2048 + x3 * 256 + x4 * 16 + x5 * 8) (by omega)
  exact of_word (i := (.vgidx x0 x1 x2 x3 x4 x5)) rfl hl (by rw [show field (encode (.vgidx x0 x1 x2 x3 x4 x5)) 26 6 = 28 from hM]; decide)
    (show candidate (1879048195 + x0 * 2097152 + x1 * 65536 + x2 * 2048 + x3 * 256 + x4 * 16 + x5 * 8) = _ by rw [candidate1C hM]; delta major1C; simp only [g0, f0, f1, f2, f3, f4, f5]) hw rest

theorem bshape (x0 x1 : Nat) : Statement (.bshape x0 x1) := by
  intro hw _ _ rest
  have hb : (decide (x0 < 32) && decide (x1 < 32)) = true := hw
  simp only [Bool.and_eq_true, decide_eq_true_eq] at hb
  obtain ⟨hl, hM, g0, g1, g2, f0, f1⟩ := layout21 x0 x1 29 0 0 0 (by decide) (by omega) (by omega) (by decide) (by decide) (by decide) (w := 1946157056 + x0 * 2097152 + x1 * 65536) (by omega)
  exact of_word (i := (.bshape x0 x1)) rfl hl (by rw [show field (encode (.bshape x0 x1)) 26 6 = 29 from hM]; decide)
    (show candidate (1946157056 + x0 * 2097152 + x1 * 65536) = _ by rw [candidate1D hM]; delta major1D; simp only [g0, g1, g2, f0, f1]) hw rest

theorem vtype (x0 x1 : Nat) : Statement (.vtype x0 x1) := by
  intro hw _ _ rest
  have hb : (decide (x0 < 32) && decide (x1 < 32)) = true := hw
  simp only [Bool.and_eq_true, decide_eq_true_eq] at hb
  obtain ⟨hl, hM, g0, g1, g2, f0, f1⟩ := layout21 x0 x1 29 0 0 1 (by decide) (by omega) (by omega) (by decide) (by decide) (by decide) (w := 1946157057 + x0 * 2097152 + x1 * 65536) (by omega)
  exact of_word (i := (.vtype x0 x1)) rfl hl (by rw [show field (encode (.vtype x0 x1)) 26 6 = 29 from hM]; decide)
    (show candidate (1946157057 + x0 * 2097152 + x1 * 65536) = _ by rw [candidate1D hM]; delta major1D; simp only [g0, g1, g2, f0, f1]) hw rest

theorem vlset (x0 x1 : Nat) : Statement (.vlset x0 x1) := by
  intro hw _ _ rest
  have hb : (decide (x0 < 32) && decide (x1 < 32)) = true := hw
  simp only [Bool.and_eq_true, decide_eq_true_eq] at hb
  obtain ⟨hl, hM, g0, g1, g2, f0, f1⟩ := layout21 x0 x1 29 0 0 3 (by decide) (by omega) (by omega) (by decide) (by decide) (by decide) (w := 1946157059 + x0 * 2097152 + x1 * 65536) (by omega)
  exact of_word (i := (.vlset x0 x1)) rfl hl (by rw [show field (encode (.vlset x0 x1)) 26 6 = 29 from hM]; decide)
    (show candidate (1946157059 + x0 * 2097152 + x1 * 65536) = _ by rw [candidate1D hM]; delta major1D; simp only [g0, g1, g2, f0, f1]) hw rest

theorem lap (x0 x1 : Nat) : Statement (.lap x0 x1) := by
  intro hw _ _ rest
  have hb : (decide (x0 < 32) && decide (x1 < 32)) = true := hw
  simp only [Bool.and_eq_true, decide_eq_true_eq] at hb
  obtain ⟨hl, hM, g0, g1, g2, f0, f1⟩ := layout22 x0 x1 29 0 0 4 (by decide) (by omega) (by omega) (by decide) (by decide) (by decide) (w := 1946157060 + x0 * 65536 + x1 * 2048) (by omega)
  exact of_word (i := (.lap x0 x1)) rfl hl (by rw [show field (encode (.lap x0 x1)) 26 6 = 29 from hM]; decide)
    (show candidate (1946157060 + x0 * 65536 + x1 * 2048) = _ by rw [candidate1D hM]; delta major1D; simp only [g0, g1, g2, f0, f1]) hw rest

theorem setofs (x0 x1 x2 : Nat) : Statement (.setofs x0 x1 x2) := by
  intro hw _ _ rest
  have hb : (decide (x0 < 32) && decide (x1 < 32) && decide (x2 < 8) && decide (x2 ≠ 0)) = true := hw
  simp only [Bool.and_eq_true, decide_eq_true_eq] at hb
  obtain ⟨hl, hM, g0, g1, f0, f1, f2⟩ := layout23 x0 x1 x2 29 0 2 (by decide) (by omega) (by omega) (by omega) (by decide) (by decide) (w := 1946157072 + x0 * 2097152 + x1 * 65536 + x2 * 1) (by omega)
  exact of_word (i := (.setofs x0 x1 x2)) rfl hl (by rw [show field (encode (.setofs x0 x1 x2)) 26 6 = 29 from hM]; decide)
    (show candidate (1946157072 + x0 * 2097152 + x1 * 65536 + x2 * 1) = _ by rw [candidate1D hM]; delta major1D; simp only [g0, g1, f0, f1, f2]) hw rest

theorem adj (x0 x1 x2 x3 : Nat) : Statement (.adj x0 x1 x2 x3) := by
  intro hw _ _ rest
  have hb : (decide (x0 < 32) && decide (x1 < 32) && decide (x2 < 32) && decide (x3 < 8) && decide (x3 < 6)) = true := hw
  simp only [Bool.and_eq_true, decide_eq_true_eq] at hb
  obtain ⟨hl, hM, g0, f0, f1, f2, f3⟩ := layout24 x0 x1 x2 x3 29 1 (by decide) (by omega) (by omega) (by omega) (by omega) (by decide) (w := 1946157312 + x0 * 2097152 + x1 * 65536 + x2 * 8 + x3 * 1) (by omega)
  exact of_word (i := (.adj x0 x1 x2 x3)) rfl hl (by rw [show field (encode (.adj x0 x1 x2 x3)) 26 6 = 29 from hM]; decide)
    (show candidate (1946157312 + x0 * 2097152 + x1 * 65536 + x2 * 8 + x3 * 1) = _ by rw [candidate1D hM]; delta major1D; simp only [g0, f0, f1, f2, f3]) hw rest

theorem sset (x0 x1 : Nat) : Statement (.sset x0 x1) := by
  intro hw _ _ rest
  have hb : (decide (x0 < 32) && decide (x1 < 16)) = true := hw
  simp only [Bool.and_eq_true, decide_eq_true_eq] at hb
  obtain ⟨hl, hM, g0, f0, f1⟩ := layout25 x0 x1 30 0 (by decide) (by omega) (by omega) (by decide) (w := 2013265920 + x0 * 65536 + x1 * 1) (by omega)
  exact of_word (i := (.sset x0 x1)) rfl hl (by rw [show field (encode (.sset x0 x1)) 26 6 = 30 from hM]; decide)
    (show candidate (2013265920 + x0 * 65536 + x1 * 1) = _ by rw [candidate1E hM]; delta major1E; simp only [g0, f0, f1]) hw rest

theorem sget (x0 x1 : Nat) : Statement (.sget x0 x1) := by
  intro hw _ _ rest
  have hb : (decide (x0 < 32) && decide (x1 < 16)) = true := hw
  simp only [Bool.and_eq_true, decide_eq_true_eq] at hb
  obtain ⟨hl, hM, g0, f0, f1⟩ := layout25 x0 x1 30 1 (by decide) (by omega) (by omega) (by decide) (w := 2013265936 + x0 * 65536 + x1 * 1) (by omega)
  exact of_word (i := (.sget x0 x1)) rfl hl (by rw [show field (encode (.sget x0 x1)) 26 6 = 30 from hM]; decide)
    (show candidate (2013265936 + x0 * 65536 + x1 * 1) = _ by rw [candidate1E hM]; delta major1E; simp only [g0, f0, f1]) hw rest

theorem sbase (x0 x1 x2 : Nat) : Statement (.sbase x0 x1 x2) := by
  intro hw _ _ rest
  have hb : (decide (x0 < 32) && decide (x1 < 32) && decide (x2 < 16)) = true := hw
  simp only [Bool.and_eq_true, decide_eq_true_eq] at hb
  obtain ⟨hl, hM, g0, f0, f1, f2⟩ := layout26 x0 x1 x2 30 2 (by decide) (by omega) (by omega) (by omega) (by decide) (w := 2013265952 + x0 * 2097152 + x1 * 65536 + x2 * 1) (by omega)
  exact of_word (i := (.sbase x0 x1 x2)) rfl hl (by rw [show field (encode (.sbase x0 x1 x2)) 26 6 = 30 from hM]; decide)
    (show candidate (2013265952 + x0 * 2097152 + x1 * 65536 + x2 * 1) = _ by rw [candidate1E hM]; delta major1E; simp only [g0, f0, f1, f2]) hw rest

theorem vld (x0 x1 x2 x3 : Nat) : Statement (.vld x0 x1 x2 x3) := by
  intro hw _ _ rest
  have hb : (decide (x0 < 32) && decide (x1 < 16) && decide (x2 < 8) && decide (x3 < 2)) = true := hw
  simp only [Bool.and_eq_true, decide_eq_true_eq] at hb
  obtain ⟨hl, hM, g0, f0, f1, f2, f3⟩ := layout27 x0 x1 x2 x3 31 0 (by decide) (by omega) (by omega) (by omega) (by omega) (by decide) (w := 2080374784 + x0 * 2097152 + x1 * 131072 + x2 * 16384 + x3 * 2) (by omega)
  exact of_word (i := (.vld x0 x1 x2 x3)) rfl hl (by rw [show field (encode (.vld x0 x1 x2 x3)) 26 6 = 31 from hM]; decide)
    (show candidate (2080374784 + x0 * 2097152 + x1 * 131072 + x2 * 16384 + x3 * 2) = _ by rw [candidate1F hM]; delta major1F; simp only [g0, f0, f1, f2, f3]) hw rest

theorem vldAdv (x0 x1 x2 x3 : Nat) : Statement (.vldAdv x0 x1 x2 x3) := by
  intro hw _ _ rest
  have hb : (decide (x0 < 32) && decide (x1 < 16) && decide (x2 < 8) && decide (x3 < 2)) = true := hw
  simp only [Bool.and_eq_true, decide_eq_true_eq] at hb
  obtain ⟨hl, hM, g0, f0, f1, f2, f3⟩ := layout27 x0 x1 x2 x3 31 1 (by decide) (by omega) (by omega) (by omega) (by omega) (by decide) (w := 2080376832 + x0 * 2097152 + x1 * 131072 + x2 * 16384 + x3 * 2) (by omega)
  exact of_word (i := (.vldAdv x0 x1 x2 x3)) rfl hl (by rw [show field (encode (.vldAdv x0 x1 x2 x3)) 26 6 = 31 from hM]; decide)
    (show candidate (2080376832 + x0 * 2097152 + x1 * 131072 + x2 * 16384 + x3 * 2) = _ by rw [candidate1F hM]; delta major1F; simp only [g0, f0, f1, f2, f3]) hw rest

theorem vst (x0 x1 x2 x3 : Nat) : Statement (.vst x0 x1 x2 x3) := by
  intro hw _ _ rest
  have hb : (decide (x0 < 32) && decide (x1 < 16) && decide (x2 < 8) && decide (x3 < 2)) = true := hw
  simp only [Bool.and_eq_true, decide_eq_true_eq] at hb
  obtain ⟨hl, hM, g0, f0, f1, f2, f3⟩ := layout27 x0 x1 x2 x3 32 0 (by decide) (by omega) (by omega) (by omega) (by omega) (by decide) (w := 2147483648 + x0 * 2097152 + x1 * 131072 + x2 * 16384 + x3 * 2) (by omega)
  exact of_word (i := (.vst x0 x1 x2 x3)) rfl hl (by rw [show field (encode (.vst x0 x1 x2 x3)) 26 6 = 32 from hM]; decide)
    (show candidate (2147483648 + x0 * 2097152 + x1 * 131072 + x2 * 16384 + x3 * 2) = _ by rw [candidate20 hM]; delta major20; simp only [g0, f0, f1, f2, f3]) hw rest

theorem vstAdv (x0 x1 x2 x3 : Nat) : Statement (.vstAdv x0 x1 x2 x3) := by
  intro hw _ _ rest
  have hb : (decide (x0 < 32) && decide (x1 < 16) && decide (x2 < 8) && decide (x3 < 2)) = true := hw
  simp only [Bool.and_eq_true, decide_eq_true_eq] at hb
  obtain ⟨hl, hM, g0, f0, f1, f2, f3⟩ := layout27 x0 x1 x2 x3 32 1 (by decide) (by omega) (by omega) (by omega) (by omega) (by decide) (w := 2147485696 + x0 * 2097152 + x1 * 131072 + x2 * 16384 + x3 * 2) (by omega)
  exact of_word (i := (.vstAdv x0 x1 x2 x3)) rfl hl (by rw [show field (encode (.vstAdv x0 x1 x2 x3)) 26 6 = 32 from hM]; decide)
    (show candidate (2147485696 + x0 * 2097152 + x1 * 131072 + x2 * 16384 + x3 * 2) = _ by rw [candidate20 hM]; delta major20; simp only [g0, f0, f1, f2, f3]) hw rest

theorem vgath (x0 x1 x2 x3 x4 x5 : Nat) : Statement (.vgath x0 x1 x2 x3 x4 x5) := by
  intro hw _ _ rest
  have hb : (decide (x0 < 32) && decide (x1 < 16) && decide (x2 < 8) && decide (x3 < 2) && decide (x4 < 32) && decide (x5 < 2)) = true := hw
  simp only [Bool.and_eq_true, decide_eq_true_eq] at hb
  obtain ⟨hl, hM, g0, f0, f1, f2, f3, f4, f5⟩ := layout28 x0 x1 x2 x3 x4 x5 33 0 (by decide) (by omega) (by omega) (by omega) (by omega) (by omega) (by omega) (by decide) (w := 2214592512 + x0 * 2097152 + x1 * 131072 + x2 * 16384 + x3 * 2048 + x4 * 64 + x5 * 2) (by omega)
  exact of_word (i := (.vgath x0 x1 x2 x3 x4 x5)) rfl hl (by rw [show field (encode (.vgath x0 x1 x2 x3 x4 x5)) 26 6 = 33 from hM]; decide)
    (show candidate (2214592512 + x0 * 2097152 + x1 * 131072 + x2 * 16384 + x3 * 2048 + x4 * 64 + x5 * 2) = _ by rw [candidate21 hM]; delta major21; simp only [g0, f0, f1, f2, f3, f4, f5]) hw rest

theorem vscat (x0 x1 x2 x3 x4 x5 : Nat) : Statement (.vscat x0 x1 x2 x3 x4 x5) := by
  intro hw _ _ rest
  have hb : (decide (x0 < 32) && decide (x1 < 16) && decide (x2 < 8) && decide (x3 < 2) && decide (x4 < 32) && decide (x5 < 2)) = true := hw
  simp only [Bool.and_eq_true, decide_eq_true_eq] at hb
  obtain ⟨hl, hM, g0, f0, f1, f2, f3, f4, f5⟩ := layout28 x0 x1 x2 x3 x4 x5 33 1 (by decide) (by omega) (by omega) (by omega) (by omega) (by omega) (by omega) (by decide) (w := 2214592516 + x0 * 2097152 + x1 * 131072 + x2 * 16384 + x3 * 2048 + x4 * 64 + x5 * 2) (by omega)
  exact of_word (i := (.vscat x0 x1 x2 x3 x4 x5)) rfl hl (by rw [show field (encode (.vscat x0 x1 x2 x3 x4 x5)) 26 6 = 33 from hM]; decide)
    (show candidate (2214592516 + x0 * 2097152 + x1 * 131072 + x2 * 16384 + x3 * 2048 + x4 * 64 + x5 * 2) = _ by rw [candidate21 hM]; delta major21; simp only [g0, f0, f1, f2, f3, f4, f5]) hw rest

theorem spld (x0 x1 x2 x3 : Nat) : Statement (.spld x0 x1 x2 x3) := by
  intro hw _ _ rest
  have hb : (decide (x0 < 32) && decide (x1 < 8) && decide (x2 < 32) && decide (x3 < 2)) = true := hw
  simp only [Bool.and_eq_true, decide_eq_true_eq] at hb
  obtain ⟨hl, hM, g0, f0, f1, f2, f3⟩ := layout29 x0 x1 x2 x3 34 0 (by decide) (by omega) (by omega) (by omega) (by omega) (by decide) (w := 2281701376 + x0 * 2097152 + x1 * 16384 + x2 * 64 + x3 * 2) (by omega)
  exact of_word (i := (.spld x0 x1 x2 x3)) rfl hl (by rw [show field (encode (.spld x0 x1 x2 x3)) 26 6 = 34 from hM]; decide)
    (show candidate (2281701376 + x0 * 2097152 + x1 * 16384 + x2 * 64 + x3 * 2) = _ by rw [candidate22 hM]; delta major22; simp only [g0, f0, f1, f2, f3]) hw rest

theorem spst (x0 x1 x2 x3 : Nat) : Statement (.spst x0 x1 x2 x3) := by
  intro hw _ _ rest
  have hb : (decide (x0 < 32) && decide (x1 < 8) && decide (x2 < 32) && decide (x3 < 2)) = true := hw
  simp only [Bool.and_eq_true, decide_eq_true_eq] at hb
  obtain ⟨hl, hM, g0, f0, f1, f2, f3⟩ := layout29 x0 x1 x2 x3 34 1 (by decide) (by omega) (by omega) (by omega) (by omega) (by decide) (w := 2281701380 + x0 * 2097152 + x1 * 16384 + x2 * 64 + x3 * 2) (by omega)
  exact of_word (i := (.spst x0 x1 x2 x3)) rfl hl (by rw [show field (encode (.spst x0 x1 x2 x3)) 26 6 = 34 from hM]; decide)
    (show candidate (2281701380 + x0 * 2097152 + x1 * 16384 + x2 * 64 + x3 * 2) = _ by rw [candidate22 hM]; delta major22; simp only [g0, f0, f1, f2, f3]) hw rest

theorem atomAld (x0 x1 x2 x3 x4 x5 x6 x7 : Nat) : Statement (.atomAld x0 x1 x2 x3 x4 x5 x6 x7) := by
  intro hw _ _ rest
  have hb : (decide (x0 < 32) && decide (x1 < 32) && decide (x2 < 32) && decide (x3 < 4) && decide (x4 < 2) && decide (x5 < 2) && decide (x6 < 2) && decide (x7 < 4) && (decide (x6 = 1) || (decide (x7 < 2) && decide (x2 = 0)))) = true := hw
  simp only [Bool.and_eq_true, decide_eq_true_eq] at hb
  obtain ⟨hl, hM, g0, f0, f1, f2, f3, f4, f5, f6, f7⟩ := layout30 x0 x1 x2 x3 x4 x5 x6 x7 35 0 (by decide) (by omega) (by omega) (by omega) (by omega) (by omega) (by omega) (by omega) (by omega) (by decide) (w := 2348810240 + x0 * 2097152 + x1 * 65536 + x2 * 2048 + x3 * 32 + x4 * 16 + x5 * 8 + x6 * 4 + x7 * 1) (by omega)
  exact of_word (i := (.atomAld x0 x1 x2 x3 x4 x5 x6 x7)) rfl hl (by rw [show field (encode (.atomAld x0 x1 x2 x3 x4 x5 x6 x7)) 26 6 = 35 from hM]; decide)
    (show candidate (2348810240 + x0 * 2097152 + x1 * 65536 + x2 * 2048 + x3 * 32 + x4 * 16 + x5 * 8 + x6 * 4 + x7 * 1) = _ by rw [candidate23 hM]; delta major23; simp only [g0, f0, f1, f2, f3, f4, f5, f6, f7]) hw rest

theorem atomAadd (x0 x1 x2 x3 x4 x5 x6 x7 : Nat) : Statement (.atomAadd x0 x1 x2 x3 x4 x5 x6 x7) := by
  intro hw _ _ rest
  have hb : (decide (x0 < 32) && decide (x1 < 32) && decide (x2 < 32) && decide (x3 < 4) && decide (x4 < 2) && decide (x5 < 2) && decide (x6 < 2) && decide (x7 < 4) && (decide (x6 = 1) || (decide (x7 < 2) && decide (x0 = 0)))) = true := hw
  simp only [Bool.and_eq_true, decide_eq_true_eq] at hb
  obtain ⟨hl, hM, g0, f0, f1, f2, f3, f4, f5, f6, f7⟩ := layout30 x0 x1 x2 x3 x4 x5 x6 x7 35 1 (by decide) (by omega) (by omega) (by omega) (by omega) (by omega) (by omega) (by omega) (by omega) (by decide) (w := 2348810368 + x0 * 2097152 + x1 * 65536 + x2 * 2048 + x3 * 32 + x4 * 16 + x5 * 8 + x6 * 4 + x7 * 1) (by omega)
  exact of_word (i := (.atomAadd x0 x1 x2 x3 x4 x5 x6 x7)) rfl hl (by rw [show field (encode (.atomAadd x0 x1 x2 x3 x4 x5 x6 x7)) 26 6 = 35 from hM]; decide)
    (show candidate (2348810368 + x0 * 2097152 + x1 * 65536 + x2 * 2048 + x3 * 32 + x4 * 16 + x5 * 8 + x6 * 4 + x7 * 1) = _ by rw [candidate23 hM]; delta major23; simp only [g0, f0, f1, f2, f3, f4, f5, f6, f7]) hw rest

theorem atomAmin (x0 x1 x2 x3 x4 x5 x6 x7 : Nat) : Statement (.atomAmin x0 x1 x2 x3 x4 x5 x6 x7) := by
  intro hw _ _ rest
  have hb : (decide (x0 < 32) && decide (x1 < 32) && decide (x2 < 32) && decide (x3 < 4) && decide (x4 < 2) && decide (x5 < 2) && decide (x6 < 2) && decide (x7 < 4) && (decide (x6 = 1) || (decide (x7 < 2)))) = true := hw
  simp only [Bool.and_eq_true, decide_eq_true_eq] at hb
  obtain ⟨hl, hM, g0, f0, f1, f2, f3, f4, f5, f6, f7⟩ := layout30 x0 x1 x2 x3 x4 x5 x6 x7 35 2 (by decide) (by omega) (by omega) (by omega) (by omega) (by omega) (by omega) (by omega) (by omega) (by decide) (w := 2348810496 + x0 * 2097152 + x1 * 65536 + x2 * 2048 + x3 * 32 + x4 * 16 + x5 * 8 + x6 * 4 + x7 * 1) (by omega)
  exact of_word (i := (.atomAmin x0 x1 x2 x3 x4 x5 x6 x7)) rfl hl (by rw [show field (encode (.atomAmin x0 x1 x2 x3 x4 x5 x6 x7)) 26 6 = 35 from hM]; decide)
    (show candidate (2348810496 + x0 * 2097152 + x1 * 65536 + x2 * 2048 + x3 * 32 + x4 * 16 + x5 * 8 + x6 * 4 + x7 * 1) = _ by rw [candidate23 hM]; delta major23; simp only [g0, f0, f1, f2, f3, f4, f5, f6, f7]) hw rest

theorem atomAmax (x0 x1 x2 x3 x4 x5 x6 x7 : Nat) : Statement (.atomAmax x0 x1 x2 x3 x4 x5 x6 x7) := by
  intro hw _ _ rest
  have hb : (decide (x0 < 32) && decide (x1 < 32) && decide (x2 < 32) && decide (x3 < 4) && decide (x4 < 2) && decide (x5 < 2) && decide (x6 < 2) && decide (x7 < 4) && (decide (x6 = 1) || (decide (x7 < 2)))) = true := hw
  simp only [Bool.and_eq_true, decide_eq_true_eq] at hb
  obtain ⟨hl, hM, g0, f0, f1, f2, f3, f4, f5, f6, f7⟩ := layout30 x0 x1 x2 x3 x4 x5 x6 x7 35 3 (by decide) (by omega) (by omega) (by omega) (by omega) (by omega) (by omega) (by omega) (by omega) (by decide) (w := 2348810624 + x0 * 2097152 + x1 * 65536 + x2 * 2048 + x3 * 32 + x4 * 16 + x5 * 8 + x6 * 4 + x7 * 1) (by omega)
  exact of_word (i := (.atomAmax x0 x1 x2 x3 x4 x5 x6 x7)) rfl hl (by rw [show field (encode (.atomAmax x0 x1 x2 x3 x4 x5 x6 x7)) 26 6 = 35 from hM]; decide)
    (show candidate (2348810624 + x0 * 2097152 + x1 * 65536 + x2 * 2048 + x3 * 32 + x4 * 16 + x5 * 8 + x6 * 4 + x7 * 1) = _ by rw [candidate23 hM]; delta major23; simp only [g0, f0, f1, f2, f3, f4, f5, f6, f7]) hw rest

theorem atomAminZ (x0 x1 x2 x3 x4 x5 x6 x7 : Nat) : Statement (.atomAminZ x0 x1 x2 x3 x4 x5 x6 x7) := by
  intro hw _ _ rest
  have hb : (decide (x0 < 32) && decide (x1 < 32) && decide (x2 < 32) && decide (x3 < 4) && decide (x4 < 2) && decide (x5 < 2) && decide (x6 < 2) && decide (x7 < 4) && (decide (x6 = 1) || (decide (x7 < 2)))) = true := hw
  simp only [Bool.and_eq_true, decide_eq_true_eq] at hb
  obtain ⟨hl, hM, g0, f0, f1, f2, f3, f4, f5, f6, f7⟩ := layout30 x0 x1 x2 x3 x4 x5 x6 x7 35 4 (by decide) (by omega) (by omega) (by omega) (by omega) (by omega) (by omega) (by omega) (by omega) (by decide) (w := 2348810752 + x0 * 2097152 + x1 * 65536 + x2 * 2048 + x3 * 32 + x4 * 16 + x5 * 8 + x6 * 4 + x7 * 1) (by omega)
  exact of_word (i := (.atomAminZ x0 x1 x2 x3 x4 x5 x6 x7)) rfl hl (by rw [show field (encode (.atomAminZ x0 x1 x2 x3 x4 x5 x6 x7)) 26 6 = 35 from hM]; decide)
    (show candidate (2348810752 + x0 * 2097152 + x1 * 65536 + x2 * 2048 + x3 * 32 + x4 * 16 + x5 * 8 + x6 * 4 + x7 * 1) = _ by rw [candidate23 hM]; delta major23; simp only [g0, f0, f1, f2, f3, f4, f5, f6, f7]) hw rest

theorem atomAmaxZ (x0 x1 x2 x3 x4 x5 x6 x7 : Nat) : Statement (.atomAmaxZ x0 x1 x2 x3 x4 x5 x6 x7) := by
  intro hw _ _ rest
  have hb : (decide (x0 < 32) && decide (x1 < 32) && decide (x2 < 32) && decide (x3 < 4) && decide (x4 < 2) && decide (x5 < 2) && decide (x6 < 2) && decide (x7 < 4) && (decide (x6 = 1) || (decide (x7 < 2)))) = true := hw
  simp only [Bool.and_eq_true, decide_eq_true_eq] at hb
  obtain ⟨hl, hM, g0, f0, f1, f2, f3, f4, f5, f6, f7⟩ := layout30 x0 x1 x2 x3 x4 x5 x6 x7 35 5 (by decide) (by omega) (by omega) (by omega) (by omega) (by omega) (by omega) (by omega) (by omega) (by decide) (w := 2348810880 + x0 * 2097152 + x1 * 65536 + x2 * 2048 + x3 * 32 + x4 * 16 + x5 * 8 + x6 * 4 + x7 * 1) (by omega)
  exact of_word (i := (.atomAmaxZ x0 x1 x2 x3 x4 x5 x6 x7)) rfl hl (by rw [show field (encode (.atomAmaxZ x0 x1 x2 x3 x4 x5 x6 x7)) 26 6 = 35 from hM]; decide)
    (show candidate (2348810880 + x0 * 2097152 + x1 * 65536 + x2 * 2048 + x3 * 32 + x4 * 16 + x5 * 8 + x6 * 4 + x7 * 1) = _ by rw [candidate23 hM]; delta major23; simp only [g0, f0, f1, f2, f3, f4, f5, f6, f7]) hw rest

theorem atomAand (x0 x1 x2 x3 x4 x5 x6 x7 : Nat) : Statement (.atomAand x0 x1 x2 x3 x4 x5 x6 x7) := by
  intro hw _ _ rest
  have hb : (decide (x0 < 32) && decide (x1 < 32) && decide (x2 < 32) && decide (x3 < 4) && decide (x4 < 2) && decide (x5 < 2) && decide (x6 < 2) && decide (x7 < 4) && (decide (x6 = 1) || (decide (x7 < 2)))) = true := hw
  simp only [Bool.and_eq_true, decide_eq_true_eq] at hb
  obtain ⟨hl, hM, g0, f0, f1, f2, f3, f4, f5, f6, f7⟩ := layout30 x0 x1 x2 x3 x4 x5 x6 x7 35 6 (by decide) (by omega) (by omega) (by omega) (by omega) (by omega) (by omega) (by omega) (by omega) (by decide) (w := 2348811008 + x0 * 2097152 + x1 * 65536 + x2 * 2048 + x3 * 32 + x4 * 16 + x5 * 8 + x6 * 4 + x7 * 1) (by omega)
  exact of_word (i := (.atomAand x0 x1 x2 x3 x4 x5 x6 x7)) rfl hl (by rw [show field (encode (.atomAand x0 x1 x2 x3 x4 x5 x6 x7)) 26 6 = 35 from hM]; decide)
    (show candidate (2348811008 + x0 * 2097152 + x1 * 65536 + x2 * 2048 + x3 * 32 + x4 * 16 + x5 * 8 + x6 * 4 + x7 * 1) = _ by rw [candidate23 hM]; delta major23; simp only [g0, f0, f1, f2, f3, f4, f5, f6, f7]) hw rest

theorem atomAor (x0 x1 x2 x3 x4 x5 x6 x7 : Nat) : Statement (.atomAor x0 x1 x2 x3 x4 x5 x6 x7) := by
  intro hw _ _ rest
  have hb : (decide (x0 < 32) && decide (x1 < 32) && decide (x2 < 32) && decide (x3 < 4) && decide (x4 < 2) && decide (x5 < 2) && decide (x6 < 2) && decide (x7 < 4) && (decide (x6 = 1) || (decide (x7 < 2)))) = true := hw
  simp only [Bool.and_eq_true, decide_eq_true_eq] at hb
  obtain ⟨hl, hM, g0, f0, f1, f2, f3, f4, f5, f6, f7⟩ := layout30 x0 x1 x2 x3 x4 x5 x6 x7 35 7 (by decide) (by omega) (by omega) (by omega) (by omega) (by omega) (by omega) (by omega) (by omega) (by decide) (w := 2348811136 + x0 * 2097152 + x1 * 65536 + x2 * 2048 + x3 * 32 + x4 * 16 + x5 * 8 + x6 * 4 + x7 * 1) (by omega)
  exact of_word (i := (.atomAor x0 x1 x2 x3 x4 x5 x6 x7)) rfl hl (by rw [show field (encode (.atomAor x0 x1 x2 x3 x4 x5 x6 x7)) 26 6 = 35 from hM]; decide)
    (show candidate (2348811136 + x0 * 2097152 + x1 * 65536 + x2 * 2048 + x3 * 32 + x4 * 16 + x5 * 8 + x6 * 4 + x7 * 1) = _ by rw [candidate23 hM]; delta major23; simp only [g0, f0, f1, f2, f3, f4, f5, f6, f7]) hw rest

theorem atomAxor (x0 x1 x2 x3 x4 x5 x6 x7 : Nat) : Statement (.atomAxor x0 x1 x2 x3 x4 x5 x6 x7) := by
  intro hw _ _ rest
  have hb : (decide (x0 < 32) && decide (x1 < 32) && decide (x2 < 32) && decide (x3 < 4) && decide (x4 < 2) && decide (x5 < 2) && decide (x6 < 2) && decide (x7 < 4) && (decide (x6 = 1) || (decide (x7 < 2)))) = true := hw
  simp only [Bool.and_eq_true, decide_eq_true_eq] at hb
  obtain ⟨hl, hM, g0, f0, f1, f2, f3, f4, f5, f6, f7⟩ := layout30 x0 x1 x2 x3 x4 x5 x6 x7 35 8 (by decide) (by omega) (by omega) (by omega) (by omega) (by omega) (by omega) (by omega) (by omega) (by decide) (w := 2348811264 + x0 * 2097152 + x1 * 65536 + x2 * 2048 + x3 * 32 + x4 * 16 + x5 * 8 + x6 * 4 + x7 * 1) (by omega)
  exact of_word (i := (.atomAxor x0 x1 x2 x3 x4 x5 x6 x7)) rfl hl (by rw [show field (encode (.atomAxor x0 x1 x2 x3 x4 x5 x6 x7)) 26 6 = 35 from hM]; decide)
    (show candidate (2348811264 + x0 * 2097152 + x1 * 65536 + x2 * 2048 + x3 * 32 + x4 * 16 + x5 * 8 + x6 * 4 + x7 * 1) = _ by rw [candidate23 hM]; delta major23; simp only [g0, f0, f1, f2, f3, f4, f5, f6, f7]) hw rest

theorem atomSwap (x0 x1 x2 x3 x4 x5 x6 x7 : Nat) : Statement (.atomSwap x0 x1 x2 x3 x4 x5 x6 x7) := by
  intro hw _ _ rest
  have hb : (decide (x0 < 32) && decide (x1 < 32) && decide (x2 < 32) && decide (x3 < 4) && decide (x4 < 2) && decide (x5 < 2) && decide (x6 < 2) && decide (x7 < 4) && (decide (x6 = 1) || (decide (x7 < 2)))) = true := hw
  simp only [Bool.and_eq_true, decide_eq_true_eq] at hb
  obtain ⟨hl, hM, g0, f0, f1, f2, f3, f4, f5, f6, f7⟩ := layout30 x0 x1 x2 x3 x4 x5 x6 x7 35 9 (by decide) (by omega) (by omega) (by omega) (by omega) (by omega) (by omega) (by omega) (by omega) (by decide) (w := 2348811392 + x0 * 2097152 + x1 * 65536 + x2 * 2048 + x3 * 32 + x4 * 16 + x5 * 8 + x6 * 4 + x7 * 1) (by omega)
  exact of_word (i := (.atomSwap x0 x1 x2 x3 x4 x5 x6 x7)) rfl hl (by rw [show field (encode (.atomSwap x0 x1 x2 x3 x4 x5 x6 x7)) 26 6 = 35 from hM]; decide)
    (show candidate (2348811392 + x0 * 2097152 + x1 * 65536 + x2 * 2048 + x3 * 32 + x4 * 16 + x5 * 8 + x6 * 4 + x7 * 1) = _ by rw [candidate23 hM]; delta major23; simp only [g0, f0, f1, f2, f3, f4, f5, f6, f7]) hw rest

theorem atomCas (x0 x1 x2 x3 x4 x5 x6 x7 : Nat) : Statement (.atomCas x0 x1 x2 x3 x4 x5 x6 x7) := by
  intro hw _ _ rest
  have hb : (decide (x0 < 32) && decide (x1 < 32) && decide (x2 < 32) && decide (x3 < 4) && decide (x4 < 2) && decide (x5 < 2) && decide (x6 < 2) && decide (x7 < 4) && (decide (x6 = 1) || (decide (x7 < 2))) && (decide (x6 = 0) || decide (x0 < 31))) = true := hw
  simp only [Bool.and_eq_true, decide_eq_true_eq] at hb
  obtain ⟨hl, hM, g0, f0, f1, f2, f3, f4, f5, f6, f7⟩ := layout30 x0 x1 x2 x3 x4 x5 x6 x7 35 10 (by decide) (by omega) (by omega) (by omega) (by omega) (by omega) (by omega) (by omega) (by omega) (by decide) (w := 2348811520 + x0 * 2097152 + x1 * 65536 + x2 * 2048 + x3 * 32 + x4 * 16 + x5 * 8 + x6 * 4 + x7 * 1) (by omega)
  exact of_word (i := (.atomCas x0 x1 x2 x3 x4 x5 x6 x7)) rfl hl (by rw [show field (encode (.atomCas x0 x1 x2 x3 x4 x5 x6 x7)) 26 6 = 35 from hM]; decide)
    (show candidate (2348811520 + x0 * 2097152 + x1 * 65536 + x2 * 2048 + x3 * 32 + x4 * 16 + x5 * 8 + x6 * 4 + x7 * 1) = _ by rw [candidate23 hM]; delta major23; simp only [g0, f0, f1, f2, f3, f4, f5, f6, f7]) hw rest

theorem atomFadd (x0 x1 x2 x3 x4 x5 x6 x7 : Nat) : Statement (.atomFadd x0 x1 x2 x3 x4 x5 x6 x7) := by
  intro hw _ _ rest
  have hb : (decide (x0 < 32) && decide (x1 < 32) && decide (x2 < 32) && decide (x3 < 4) && decide (x4 < 2) && decide (x5 < 2) && decide (x6 < 2) && decide (x7 < 4) && (decide (x6 = 1) || (decide (x7 < 2)))) = true := hw
  simp only [Bool.and_eq_true, decide_eq_true_eq] at hb
  obtain ⟨hl, hM, g0, f0, f1, f2, f3, f4, f5, f6, f7⟩ := layout30 x0 x1 x2 x3 x4 x5 x6 x7 35 11 (by decide) (by omega) (by omega) (by omega) (by omega) (by omega) (by omega) (by omega) (by omega) (by decide) (w := 2348811648 + x0 * 2097152 + x1 * 65536 + x2 * 2048 + x3 * 32 + x4 * 16 + x5 * 8 + x6 * 4 + x7 * 1) (by omega)
  exact of_word (i := (.atomFadd x0 x1 x2 x3 x4 x5 x6 x7)) rfl hl (by rw [show field (encode (.atomFadd x0 x1 x2 x3 x4 x5 x6 x7)) 26 6 = 35 from hM]; decide)
    (show candidate (2348811648 + x0 * 2097152 + x1 * 65536 + x2 * 2048 + x3 * 32 + x4 * 16 + x5 * 8 + x6 * 4 + x7 * 1) = _ by rw [candidate23 hM]; delta major23; simp only [g0, f0, f1, f2, f3, f4, f5, f6, f7]) hw rest

theorem atomAst (x0 x1 x2 x3 x4 x5 x6 x7 : Nat) : Statement (.atomAst x0 x1 x2 x3 x4 x5 x6 x7) := by
  intro hw _ _ rest
  have hb : (decide (x0 < 32) && decide (x1 < 32) && decide (x2 < 32) && decide (x3 < 4) && decide (x4 < 2) && decide (x5 < 2) && decide (x6 < 2) && decide (x7 < 4) && (decide (x6 = 1) || (decide (x7 < 2) && decide (x0 = 0)))) = true := hw
  simp only [Bool.and_eq_true, decide_eq_true_eq] at hb
  obtain ⟨hl, hM, g0, f0, f1, f2, f3, f4, f5, f6, f7⟩ := layout30 x0 x1 x2 x3 x4 x5 x6 x7 35 12 (by decide) (by omega) (by omega) (by omega) (by omega) (by omega) (by omega) (by omega) (by omega) (by decide) (w := 2348811776 + x0 * 2097152 + x1 * 65536 + x2 * 2048 + x3 * 32 + x4 * 16 + x5 * 8 + x6 * 4 + x7 * 1) (by omega)
  exact of_word (i := (.atomAst x0 x1 x2 x3 x4 x5 x6 x7)) rfl hl (by rw [show field (encode (.atomAst x0 x1 x2 x3 x4 x5 x6 x7)) 26 6 = 35 from hM]; decide)
    (show candidate (2348811776 + x0 * 2097152 + x1 * 65536 + x2 * 2048 + x3 * 32 + x4 * 16 + x5 * 8 + x6 * 4 + x7 * 1) = _ by rw [candidate23 hM]; delta major23; simp only [g0, f0, f1, f2, f3, f4, f5, f6, f7]) hw rest

theorem phase (x0 : Nat) : Statement (.phase x0) := by
  intro hw _ _ rest
  have hb : (decide (x0 < 4)) = true := hw
  simp only [decide_eq_true_eq] at hb
  obtain ⟨hl, hM, g0, f0⟩ := layout31 x0 36 0 (by decide) (by omega) (by decide) (w := 2415919104 + x0 * 1) (by omega)
  exact of_word (i := (.phase x0)) rfl hl (by rw [show field (encode (.phase x0)) 26 6 = 36 from hM]; decide)
    (show candidate (2415919104 + x0 * 1) = _ by rw [candidate24 hM]; delta major24; simp only [g0, f0]) hw rest

theorem bar (x0 x1 x2 : Nat) : Statement (.bar x0 x1 x2) := by
  intro hw _ _ rest
  have hb : (decide (x0 < 32) && decide (x1 < 32) && decide (x2 < 4)) = true := hw
  simp only [Bool.and_eq_true, decide_eq_true_eq] at hb
  obtain ⟨hl, hM, g0, f0, f1, f2⟩ := layout32 x0 x1 x2 36 4 (by decide) (by omega) (by omega) (by omega) (by decide) (w := 2415919120 + x0 * 65536 + x1 * 2048 + x2 * 1) (by omega)
  exact of_word (i := (.bar x0 x1 x2)) rfl hl (by rw [show field (encode (.bar x0 x1 x2)) 26 6 = 36 from hM]; decide)
    (show candidate (2415919120 + x0 * 65536 + x1 * 2048 + x2 * 1) = _ by rw [candidate24 hM]; delta major24; simp only [g0, f0, f1, f2]) hw rest

theorem fenceAlias : Statement (.fenceAlias) := by
  intro hw _ _ rest
  obtain ⟨hl, hM, g0⟩ := layout33 36 8 (by decide) (by decide) (w := 2415919136) (by omega)
  exact of_word (i := (.fenceAlias)) rfl hl (by rw [show field (encode (.fenceAlias)) 26 6 = 36 from hM]; decide)
    (show candidate (2415919136) = _ by rw [candidate24 hM]; delta major24; simp only [g0]) hw rest

theorem palloc (x0 x1 : Nat) : Statement (.palloc x0 x1) := by
  intro hw _ _ rest
  have hb : (decide (x0 < 32) && decide (x1 < 32)) = true := hw
  simp only [Bool.and_eq_true, decide_eq_true_eq] at hb
  obtain ⟨hl, hM, g0, f0, f1⟩ := layout2 x0 x1 37 0 (by decide) (by omega) (by omega) (by decide) (w := 2483027968 + x0 * 2097152 + x1 * 65536) (by omega)
  exact of_word (i := (.palloc x0 x1)) rfl hl (by rw [show field (encode (.palloc x0 x1)) 26 6 = 37 from hM]; decide)
    (show candidate (2483027968 + x0 * 2097152 + x1 * 65536) = _ by rw [candidate25 hM]; delta major25; simp only [g0, f0, f1]) hw rest

theorem pst (x0 x1 : Nat) : Statement (.pst x0 x1) := by
  intro hw _ _ rest
  have hb : (decide (x0 < 32) && decide (x1 < 32)) = true := hw
  simp only [Bool.and_eq_true, decide_eq_true_eq] at hb
  obtain ⟨hl, hM, g0, f0, f1⟩ := layout34 x0 x1 37 1 (by decide) (by omega) (by omega) (by decide) (w := 2483027969 + x0 * 65536 + x1 * 2048) (by omega)
  exact of_word (i := (.pst x0 x1)) rfl hl (by rw [show field (encode (.pst x0 x1)) 26 6 = 37 from hM]; decide)
    (show candidate (2483027969 + x0 * 65536 + x1 * 2048) = _ by rw [candidate25 hM]; delta major25; simp only [g0, f0, f1]) hw rest

theorem pld (x0 x1 : Nat) : Statement (.pld x0 x1) := by
  intro hw _ _ rest
  have hb : (decide (x0 < 32) && decide (x1 < 32)) = true := hw
  simp only [Bool.and_eq_true, decide_eq_true_eq] at hb
  obtain ⟨hl, hM, g0, f0, f1⟩ := layout2 x0 x1 37 2 (by decide) (by omega) (by omega) (by decide) (w := 2483027970 + x0 * 2097152 + x1 * 65536) (by omega)
  exact of_word (i := (.pld x0 x1)) rfl hl (by rw [show field (encode (.pld x0 x1)) 26 6 = 37 from hM]; decide)
    (show candidate (2483027970 + x0 * 2097152 + x1 * 65536) = _ by rw [candidate25 hM]; delta major25; simp only [g0, f0, f1]) hw rest

theorem post (x0 x1 x2 : Nat) : Statement (.post x0 x1 x2) := by
  intro hw _ _ rest
  have hb : (decide (x0 < 32) && decide (x1 < 32) && decide (x2 < 32)) = true := hw
  simp only [Bool.and_eq_true, decide_eq_true_eq] at hb
  obtain ⟨hl, hM, g0, f0, f1, f2⟩ := layout1 x0 x1 x2 37 3 (by decide) (by omega) (by omega) (by omega) (by decide) (w := 2483027971 + x0 * 2097152 + x1 * 65536 + x2 * 2048) (by omega)
  exact of_word (i := (.post x0 x1 x2)) rfl hl (by rw [show field (encode (.post x0 x1 x2)) 26 6 = 37 from hM]; decide)
    (show candidate (2483027971 + x0 * 2097152 + x1 * 65536 + x2 * 2048) = _ by rw [candidate25 hM]; delta major25; simp only [g0, f0, f1, f2]) hw rest

theorem accept (x0 : Nat) : Statement (.accept x0) := by
  intro hw _ _ rest
  have hb : (decide (x0 < 32)) = true := hw
  simp only [decide_eq_true_eq] at hb
  obtain ⟨hl, hM, g0, f0⟩ := layout35 x0 37 4 (by decide) (by omega) (by decide) (w := 2483027972 + x0 * 2097152) (by omega)
  exact of_word (i := (.accept x0)) rfl hl (by rw [show field (encode (.accept x0)) 26 6 = 37 from hM]; decide)
    (show candidate (2483027972 + x0 * 2097152) = _ by rw [candidate25 hM]; delta major25; simp only [g0, f0]) hw rest

theorem pfree (x0 : Nat) : Statement (.pfree x0) := by
  intro hw _ _ rest
  have hb : (decide (x0 < 32)) = true := hw
  simp only [decide_eq_true_eq] at hb
  obtain ⟨hl, hM, g0, f0⟩ := layout36 x0 37 5 (by decide) (by omega) (by decide) (w := 2483027973 + x0 * 65536) (by omega)
  exact of_word (i := (.pfree x0)) rfl hl (by rw [show field (encode (.pfree x0)) 26 6 = 37 from hM]; decide)
    (show candidate (2483027973 + x0 * 65536) = _ by rw [candidate25 hM]; delta major25; simp only [g0, f0]) hw rest

theorem mset (x0 x1 : Nat) : Statement (.mset x0 x1) := by
  intro hw _ _ rest
  have hb : (decide (x0 < 32) && decide (x1 < 32)) = true := hw
  simp only [Bool.and_eq_true, decide_eq_true_eq] at hb
  obtain ⟨hl, hM, g0, f0, f1⟩ := layout37 x0 x1 38 0 (by decide) (by omega) (by omega) (by decide) (w := 2550136832 + x0 * 2097152 + x1 * 16384) (by omega)
  exact of_word (i := (.mset x0 x1)) rfl hl (by rw [show field (encode (.mset x0 x1)) 26 6 = 38 from hM]; decide)
    (show candidate (2550136832 + x0 * 2097152 + x1 * 16384) = _ by rw [candidate26 hM]; delta major26; simp only [g0, f0, f1]) hw rest

theorem mfmt (x0 x1 : Nat) : Statement (.mfmt x0 x1) := by
  intro hw _ _ rest
  have hb : (decide (x0 < 32) && decide (x1 < 4)) = true := hw
  simp only [Bool.and_eq_true, decide_eq_true_eq] at hb
  obtain ⟨hl, hM, g0, f0, f1⟩ := layout38 x0 x1 38 1 (by decide) (by omega) (by omega) (by decide) (w := 2550138880 + x0 * 64 + x1 * 16) (by omega)
  exact of_word (i := (.mfmt x0 x1)) rfl hl (by rw [show field (encode (.mfmt x0 x1)) 26 6 = 38 from hM]; decide)
    (show candidate (2550138880 + x0 * 64 + x1 * 16) = _ by rw [candidate26 hM]; delta major26; simp only [g0, f0, f1]) hw rest

theorem mclaim (x0 : Nat) : Statement (.mclaim x0) := by
  intro hw _ _ rest
  have hb : (decide (x0 < 32)) = true := hw
  simp only [decide_eq_true_eq] at hb
  obtain ⟨hl, hM, g0, f0⟩ := layout39 x0 38 2 (by decide) (by omega) (by decide) (w := 2550140928 + x0 * 2097152) (by omega)
  exact of_word (i := (.mclaim x0)) rfl hl (by rw [show field (encode (.mclaim x0)) 26 6 = 38 from hM]; decide)
    (show candidate (2550140928 + x0 * 2097152) = _ by rw [candidate26 hM]; delta major26; simp only [g0, f0]) hw rest

theorem mrel : Statement (.mrel) := by
  intro hw _ _ rest
  obtain ⟨hl, hM, g0⟩ := layout40 38 3 (by decide) (by decide) (w := 2550142976) (by omega)
  exact of_word (i := (.mrel)) rfl hl (by rw [show field (encode (.mrel)) 26 6 = 38 from hM]; decide)
    (show candidate (2550142976) = _ by rw [candidate26 hM]; delta major26; simp only [g0]) hw rest

theorem wld (x0 x1 x2 x3 x4 : Nat) : Statement (.wld x0 x1 x2 x3 x4) := by
  intro hw _ _ rest
  have hb : (decide (x0 < 32) && decide (x1 < 32) && decide (x2 < 2) && decide (x3 < 32) && decide (x4 < 2)) = true := hw
  simp only [Bool.and_eq_true, decide_eq_true_eq] at hb
  obtain ⟨hl, hM, g0, f0, f1, f2, f3, f4⟩ := layout41 x0 x1 x2 x3 x4 39 0 (by decide) (by omega) (by omega) (by omega) (by omega) (by omega) (by decide) (w := 2617245696 + x0 * 16384 + x1 * 256 + x2 * 128 + x3 * 4 + x4 * 2) (by omega)
  exact of_word (i := (.wld x0 x1 x2 x3 x4)) rfl hl (by rw [show field (encode (.wld x0 x1 x2 x3 x4)) 26 6 = 39 from hM]; decide)
    (show candidate (2617245696 + x0 * 16384 + x1 * 256 + x2 * 128 + x3 * 4 + x4 * 2) = _ by rw [candidate27 hM]; delta major27; simp only [g0, f0, f1, f2, f3, f4]) hw rest

theorem wswap : Statement (.wswap) := by
  intro hw _ _ rest
  obtain ⟨hl, hM, g0⟩ := layout42 39 1 (by decide) (by decide) (w := 2617253888) (by omega)
  exact of_word (i := (.wswap)) rfl hl (by rw [show field (encode (.wswap)) 26 6 = 39 from hM]; decide)
    (show candidate (2617253888) = _ by rw [candidate27 hM]; delta major27; simp only [g0]) hw rest

theorem mrow (x0 x1 x2 x3 x4 : Nat) : Statement (.mrow x0 x1 x2 x3 x4) := by
  intro hw _ _ rest
  have hb : (decide (x0 < 32) && decide (x1 < 4) && decide (x2 < 32) && decide (x3 < 2) && decide (x4 < 4)) = true := hw
  simp only [Bool.and_eq_true, decide_eq_true_eq] at hb
  obtain ⟨hl, hM, g0, f0, f1, f2, f3, f4⟩ := layout43 x0 x1 x2 x3 x4 40 0 (by decide) (by omega) (by omega) (by omega) (by omega) (by omega) (by decide) (w := 2684354560 + x0 * 2097152 + x1 * 524288 + x2 * 16384 + x3 * 2048 + x4 * 512) (by omega)
  exact of_word (i := (.mrow x0 x1 x2 x3 x4)) rfl hl (by rw [show field (encode (.mrow x0 x1 x2 x3 x4)) 26 6 = 40 from hM]; decide)
    (show candidate (2684354560 + x0 * 2097152 + x1 * 524288 + x2 * 16384 + x3 * 2048 + x4 * 512) = _ by rw [candidate28 hM]; delta major28; simp only [g0, f0, f1, f2, f3, f4]) hw rest

theorem azero (x0 : Nat) : Statement (.azero x0) := by
  intro hw _ _ rest
  have hb : (decide (x0 < 4)) = true := hw
  simp only [decide_eq_true_eq] at hb
  obtain ⟨hl, hM, g0, f0⟩ := layout44 x0 40 1 (by decide) (by omega) (by decide) (w := 2684358656 + x0 * 524288) (by omega)
  exact of_word (i := (.azero x0)) rfl hl (by rw [show field (encode (.azero x0)) 26 6 = 40 from hM]; decide)
    (show candidate (2684358656 + x0 * 524288) = _ by rw [candidate28 hM]; delta major28; simp only [g0, f0]) hw rest

theorem ald (x0 x1 x2 : Nat) : Statement (.ald x0 x1 x2) := by
  intro hw _ _ rest
  have hb : (decide (x0 < 4) && decide (x1 < 32) && decide (x2 < 32)) = true := hw
  simp only [Bool.and_eq_true, decide_eq_true_eq] at hb
  obtain ⟨hl, hM, g0, f0, f1, f2⟩ := layout45 x0 x1 x2 40 2 (by decide) (by omega) (by omega) (by omega) (by decide) (w := 2684362752 + x0 * 524288 + x1 * 16384 + x2 * 128) (by omega)
  exact of_word (i := (.ald x0 x1 x2)) rfl hl (by rw [show field (encode (.ald x0 x1 x2)) 26 6 = 40 from hM]; decide)
    (show candidate (2684362752 + x0 * 524288 + x1 * 16384 + x2 * 128) = _ by rw [candidate28 hM]; delta major28; simp only [g0, f0, f1, f2]) hw rest

theorem ast (x0 x1 x2 x3 x4 : Nat) : Statement (.ast x0 x1 x2 x3 x4) := by
  intro hw _ _ rest
  have hb : (decide (x0 < 4) && decide (x1 < 32) && decide (x2 < 32) && decide (x3 < 16) && decide (x4 < 2) && decide (x3 < 12)) = true := hw
  simp only [Bool.and_eq_true, decide_eq_true_eq] at hb
  obtain ⟨hl, hM, g0, f0, f1, f2, f3, f4⟩ := layout46 x0 x1 x2 x3 x4 40 3 (by decide) (by omega) (by omega) (by omega) (by omega) (by omega) (by decide) (w := 2684366848 + x0 * 524288 + x1 * 16384 + x2 * 128 + x3 * 8 + x4 * 4) (by omega)
  exact of_word (i := (.ast x0 x1 x2 x3 x4)) rfl hl (by rw [show field (encode (.ast x0 x1 x2 x3 x4)) 26 6 = 40 from hM]; decide)
    (show candidate (2684366848 + x0 * 524288 + x1 * 16384 + x2 * 128 + x3 * 8 + x4 * 4) = _ by rw [candidate28 hM]; delta major28; simp only [g0, f0, f1, f2, f3, f4]) hw rest

theorem cpset (x0 x1 : Nat) : Statement (.cpset x0 x1) := by
  intro hw _ _ rest
  have hb : (decide (x0 < 32) && decide (x1 < 4)) = true := hw
  simp only [Bool.and_eq_true, decide_eq_true_eq] at hb
  obtain ⟨hl, hM, g0, f0, f1⟩ := layout47 x0 x1 41 0 (by decide) (by omega) (by omega) (by decide) (w := 2751463424 + x0 * 65536 + x1 * 1) (by omega)
  exact of_word (i := (.cpset x0 x1)) rfl hl (by rw [show field (encode (.cpset x0 x1)) 26 6 = 41 from hM]; decide)
    (show candidate (2751463424 + x0 * 65536 + x1 * 1) = _ by rw [candidate29 hM]; delta major29; simp only [g0, f0, f1]) hw rest

theorem cplaunch (x0 x1 : Nat) : Statement (.cplaunch x0 x1) := by
  intro hw _ _ rest
  have hb : (decide (x0 < 32) && decide (x1 < 4)) = true := hw
  simp only [Bool.and_eq_true, decide_eq_true_eq] at hb
  obtain ⟨hl, hM, g0, f0, f1⟩ := layout48 x0 x1 41 1 (by decide) (by omega) (by omega) (by decide) (w := 2751463428 + x0 * 2097152 + x1 * 1) (by omega)
  exact of_word (i := (.cplaunch x0 x1)) rfl hl (by rw [show field (encode (.cplaunch x0 x1)) 26 6 = 41 from hM]; decide)
    (show candidate (2751463428 + x0 * 2097152 + x1 * 1) = _ by rw [candidate29 hM]; delta major29; simp only [g0, f0, f1]) hw rest

theorem cpwait (x0 x1 x2 : Nat) : Statement (.cpwait x0 x1 x2) := by
  intro hw _ _ rest
  have hb : (decide (x0 < 32) && decide (x1 < 32) && decide (x2 < 4)) = true := hw
  simp only [Bool.and_eq_true, decide_eq_true_eq] at hb
  obtain ⟨hl, hM, g0, f0, f1, f2⟩ := layout49 x0 x1 x2 41 2 (by decide) (by omega) (by omega) (by omega) (by decide) (w := 2751463432 + x0 * 2097152 + x1 * 65536 + x2 * 1) (by omega)
  exact of_word (i := (.cpwait x0 x1 x2)) rfl hl (by rw [show field (encode (.cpwait x0 x1 x2)) 26 6 = 41 from hM]; decide)
    (show candidate (2751463432 + x0 * 2097152 + x1 * 65536 + x2 * 1) = _ by rw [candidate29 hM]; delta major29; simp only [g0, f0, f1, f2]) hw rest

theorem cpstat (x0 x1 x2 : Nat) : Statement (.cpstat x0 x1 x2) := by
  intro hw _ _ rest
  have hb : (decide (x0 < 32) && decide (x1 < 32) && decide (x2 < 4)) = true := hw
  simp only [Bool.and_eq_true, decide_eq_true_eq] at hb
  obtain ⟨hl, hM, g0, f0, f1, f2⟩ := layout49 x0 x1 x2 41 3 (by decide) (by omega) (by omega) (by omega) (by decide) (w := 2751463436 + x0 * 2097152 + x1 * 65536 + x2 * 1) (by omega)
  exact of_word (i := (.cpstat x0 x1 x2)) rfl hl (by rw [show field (encode (.cpstat x0 x1 x2)) 26 6 = 41 from hM]; decide)
    (show candidate (2751463436 + x0 * 2097152 + x1 * 65536 + x2 * 1) = _ by rw [candidate29 hM]; delta major29; simp only [g0, f0, f1, f2]) hw rest

theorem rtset (x0 : Nat) : Statement (.rtset x0) := by
  intro hw _ _ rest
  have hb : (decide (x0 < 32)) = true := hw
  simp only [decide_eq_true_eq] at hb
  obtain ⟨hl, hM, g0, f0⟩ := layout36 x0 42 0 (by decide) (by omega) (by decide) (w := 2818572288 + x0 * 65536) (by omega)
  exact of_word (i := (.rtset x0)) rfl hl (by rw [show field (encode (.rtset x0)) 26 6 = 42 from hM]; decide)
    (show candidate (2818572288 + x0 * 65536) = _ by rw [candidate2A hM]; delta major2A; simp only [g0, f0]) hw rest

theorem rtgo (x0 : Nat) : Statement (.rtgo x0) := by
  intro hw _ _ rest
  have hb : (decide (x0 < 32)) = true := hw
  simp only [decide_eq_true_eq] at hb
  obtain ⟨hl, hM, g0, f0⟩ := layout35 x0 42 1 (by decide) (by omega) (by decide) (w := 2818572289 + x0 * 2097152) (by omega)
  exact of_word (i := (.rtgo x0)) rfl hl (by rw [show field (encode (.rtgo x0)) 26 6 = 42 from hM]; decide)
    (show candidate (2818572289 + x0 * 2097152) = _ by rw [candidate2A hM]; delta major2A; simp only [g0, f0]) hw rest

theorem rtcomb (x0 : Nat) : Statement (.rtcomb x0) := by
  intro hw _ _ rest
  have hb : (decide (x0 < 32)) = true := hw
  simp only [decide_eq_true_eq] at hb
  obtain ⟨hl, hM, g0, f0⟩ := layout35 x0 42 2 (by decide) (by omega) (by decide) (w := 2818572290 + x0 * 2097152) (by omega)
  exact of_word (i := (.rtcomb x0)) rfl hl (by rw [show field (encode (.rtcomb x0)) 26 6 = 42 from hM]; decide)
    (show candidate (2818572290 + x0 * 2097152) = _ by rw [candidate2A hM]; delta major2A; simp only [g0, f0]) hw rest

theorem rtwait (x0 : Nat) : Statement (.rtwait x0) := by
  intro hw _ _ rest
  have hb : (decide (x0 < 32)) = true := hw
  simp only [decide_eq_true_eq] at hb
  obtain ⟨hl, hM, g0, f0⟩ := layout35 x0 42 3 (by decide) (by omega) (by decide) (w := 2818572291 + x0 * 2097152) (by omega)
  exact of_word (i := (.rtwait x0)) rfl hl (by rw [show field (encode (.rtwait x0)) 26 6 = 42 from hM]; decide)
    (show candidate (2818572291 + x0 * 2097152) = _ by rw [candidate2A hM]; delta major2A; simp only [g0, f0]) hw rest

theorem rtdrop (x0 x1 : Nat) : Statement (.rtdrop x0 x1) := by
  intro hw _ _ rest
  have hb : (decide (x0 < 32) && decide (x1 < 32)) = true := hw
  simp only [Bool.and_eq_true, decide_eq_true_eq] at hb
  obtain ⟨hl, hM, g0, f0, f1⟩ := layout2 x0 x1 42 4 (by decide) (by omega) (by omega) (by decide) (w := 2818572292 + x0 * 2097152 + x1 * 65536) (by omega)
  exact of_word (i := (.rtdrop x0 x1)) rfl hl (by rw [show field (encode (.rtdrop x0 x1)) 26 6 = 42 from hM]; decide)
    (show candidate (2818572292 + x0 * 2097152 + x1 * 65536) = _ by rw [candidate2A hM]; delta major2A; simp only [g0, f0, f1]) hw rest

theorem taskadd (x0 x1 : Nat) : Statement (.taskadd x0 x1) := by
  intro hw _ _ rest
  have hb : (decide (x0 < 32) && decide (x1 < 32)) = true := hw
  simp only [Bool.and_eq_true, decide_eq_true_eq] at hb
  obtain ⟨hl, hM, g0, f0, f1⟩ := layout2 x0 x1 43 0 (by decide) (by omega) (by omega) (by decide) (w := 2885681152 + x0 * 2097152 + x1 * 65536) (by omega)
  exact of_word (i := (.taskadd x0 x1)) rfl hl (by rw [show field (encode (.taskadd x0 x1)) 26 6 = 43 from hM]; decide)
    (show candidate (2885681152 + x0 * 2097152 + x1 * 65536) = _ by rw [candidate2B hM]; delta major2B; simp only [g0, f0, f1]) hw rest

theorem taskget (x0 x1 : Nat) : Statement (.taskget x0 x1) := by
  intro hw _ _ rest
  have hb : (decide (x0 < 32) && decide (x1 < 32)) = true := hw
  simp only [Bool.and_eq_true, decide_eq_true_eq] at hb
  obtain ⟨hl, hM, g0, f0, f1⟩ := layout2 x0 x1 43 1 (by decide) (by omega) (by omega) (by decide) (w := 2885681153 + x0 * 2097152 + x1 * 65536) (by omega)
  exact of_word (i := (.taskget x0 x1)) rfl hl (by rw [show field (encode (.taskget x0 x1)) 26 6 = 43 from hM]; decide)
    (show candidate (2885681153 + x0 * 2097152 + x1 * 65536) = _ by rw [candidate2B hM]; delta major2B; simp only [g0, f0, f1]) hw rest

theorem taskdone (x0 x1 x2 : Nat) : Statement (.taskdone x0 x1 x2) := by
  intro hw _ _ rest
  have hb : (decide (x0 < 32) && decide (x1 < 32) && decide (x2 < 32)) = true := hw
  simp only [Bool.and_eq_true, decide_eq_true_eq] at hb
  obtain ⟨hl, hM, g0, f0, f1, f2⟩ := layout1 x0 x1 x2 43 2 (by decide) (by omega) (by omega) (by omega) (by decide) (w := 2885681154 + x0 * 2097152 + x1 * 65536 + x2 * 2048) (by omega)
  exact of_word (i := (.taskdone x0 x1 x2)) rfl hl (by rw [show field (encode (.taskdone x0 x1 x2)) 26 6 = 43 from hM]; decide)
    (show candidate (2885681154 + x0 * 2097152 + x1 * 65536 + x2 * 2048) = _ by rw [candidate2B hM]; delta major2B; simp only [g0, f0, f1, f2]) hw rest

theorem graphgo (x0 x1 : Nat) : Statement (.graphgo x0 x1) := by
  intro hw _ _ rest
  have hb : (decide (x0 < 32) && decide (x1 < 32)) = true := hw
  simp only [Bool.and_eq_true, decide_eq_true_eq] at hb
  obtain ⟨hl, hM, g0, f0, f1⟩ := layout2 x0 x1 43 3 (by decide) (by omega) (by omega) (by decide) (w := 2885681155 + x0 * 2097152 + x1 * 65536) (by omega)
  exact of_word (i := (.graphgo x0 x1)) rfl hl (by rw [show field (encode (.graphgo x0 x1)) 26 6 = 43 from hM]; decide)
    (show candidate (2885681155 + x0 * 2097152 + x1 * 65536) = _ by rw [candidate2B hM]; delta major2B; simp only [g0, f0, f1]) hw rest

theorem qpost (x0 x1 x2 : Nat) : Statement (.qpost x0 x1 x2) := by
  intro hw _ _ rest
  have hb : (decide (x0 < 32) && decide (x1 < 32) && decide (x2 < 32)) = true := hw
  simp only [Bool.and_eq_true, decide_eq_true_eq] at hb
  obtain ⟨hl, hM, g0, f0, f1, f2⟩ := layout1 x0 x1 x2 44 0 (by decide) (by omega) (by omega) (by omega) (by decide) (w := 2952790016 + x0 * 2097152 + x1 * 65536 + x2 * 2048) (by omega)
  exact of_word (i := (.qpost x0 x1 x2)) rfl hl (by rw [show field (encode (.qpost x0 x1 x2)) 26 6 = 44 from hM]; decide)
    (show candidate (2952790016 + x0 * 2097152 + x1 * 65536 + x2 * 2048) = _ by rw [candidate2C hM]; delta major2C; simp only [g0, f0, f1, f2]) hw rest

theorem qtake (x0 x1 x2 : Nat) : Statement (.qtake x0 x1 x2) := by
  intro hw _ _ rest
  have hb : (decide (x0 < 32) && decide (x1 < 32) && decide (x2 < 32)) = true := hw
  simp only [Bool.and_eq_true, decide_eq_true_eq] at hb
  obtain ⟨hl, hM, g0, f0, f1, f2⟩ := layout1 x0 x1 x2 44 1 (by decide) (by omega) (by omega) (by omega) (by decide) (w := 2952790017 + x0 * 2097152 + x1 * 65536 + x2 * 2048) (by omega)
  exact of_word (i := (.qtake x0 x1 x2)) rfl hl (by rw [show field (encode (.qtake x0 x1 x2)) 26 6 = 44 from hM]; decide)
    (show candidate (2952790017 + x0 * 2097152 + x1 * 65536 + x2 * 2048) = _ by rw [candidate2C hM]; delta major2C; simp only [g0, f0, f1, f2]) hw rest

theorem nlsend (x0 x1 x2 x3 : Nat) : Statement (.nlsend x0 x1 x2 x3) := by
  intro hw _ _ rest
  have hb : (decide (x0 < 32) && decide (x1 < 32) && decide (x2 < 32) && decide (x3 < 4)) = true := hw
  simp only [Bool.and_eq_true, decide_eq_true_eq] at hb
  obtain ⟨hl, hM, g0, f0, f1, f2, f3⟩ := layout50 x0 x1 x2 x3 45 0 (by decide) (by omega) (by omega) (by omega) (by omega) (by decide) (w := 3019898880 + x0 * 2097152 + x1 * 65536 + x2 * 2048 + x3 * 1) (by omega)
  exact of_word (i := (.nlsend x0 x1 x2 x3)) rfl hl (by rw [show field (encode (.nlsend x0 x1 x2 x3)) 26 6 = 45 from hM]; decide)
    (show candidate (3019898880 + x0 * 2097152 + x1 * 65536 + x2 * 2048 + x3 * 1) = _ by rw [candidate2D hM]; delta major2D; simp only [g0, f0, f1, f2, f3]) hw rest

theorem nlrecv (x0 x1 x2 x3 : Nat) : Statement (.nlrecv x0 x1 x2 x3) := by
  intro hw _ _ rest
  have hb : (decide (x0 < 32) && decide (x1 < 32) && decide (x2 < 32) && decide (x3 < 4)) = true := hw
  simp only [Bool.and_eq_true, decide_eq_true_eq] at hb
  obtain ⟨hl, hM, g0, f0, f1, f2, f3⟩ := layout50 x0 x1 x2 x3 45 1 (by decide) (by omega) (by omega) (by omega) (by omega) (by decide) (w := 3019898884 + x0 * 2097152 + x1 * 65536 + x2 * 2048 + x3 * 1) (by omega)
  exact of_word (i := (.nlrecv x0 x1 x2 x3)) rfl hl (by rw [show field (encode (.nlrecv x0 x1 x2 x3)) 26 6 = 45 from hM]; decide)
    (show candidate (3019898884 + x0 * 2097152 + x1 * 65536 + x2 * 2048 + x3 * 1) = _ by rw [candidate2D hM]; delta major2D; simp only [g0, f0, f1, f2, f3]) hw rest

theorem wait (x0 x1 : Nat) : Statement (.wait x0 x1) := by
  intro hw _ _ rest
  have hb : (decide (x0 < 32) && decide (x1 < 32)) = true := hw
  simp only [Bool.and_eq_true, decide_eq_true_eq] at hb
  obtain ⟨hl, hM, g0, f0, f1⟩ := layout2 x0 x1 46 0 (by decide) (by omega) (by omega) (by decide) (w := 3087007744 + x0 * 2097152 + x1 * 65536) (by omega)
  exact of_word (i := (.wait x0 x1)) rfl hl (by rw [show field (encode (.wait x0 x1)) 26 6 = 46 from hM]; decide)
    (show candidate (3087007744 + x0 * 2097152 + x1 * 65536) = _ by rw [candidate2E hM]; delta major2E; simp only [g0, f0, f1]) hw rest

theorem notify (x0 x1 : Nat) : Statement (.notify x0 x1) := by
  intro hw _ _ rest
  have hb : (decide (x0 < 32) && decide (x1 < 32)) = true := hw
  simp only [Bool.and_eq_true, decide_eq_true_eq] at hb
  obtain ⟨hl, hM, g0, f0, f1⟩ := layout2 x0 x1 46 1 (by decide) (by omega) (by omega) (by decide) (w := 3087007745 + x0 * 2097152 + x1 * 65536) (by omega)
  exact of_word (i := (.notify x0 x1)) rfl hl (by rw [show field (encode (.notify x0 x1)) 26 6 = 46 from hM]; decide)
    (show candidate (3087007745 + x0 * 2097152 + x1 * 65536) = _ by rw [candidate2E hM]; delta major2E; simp only [g0, f0, f1]) hw rest

theorem nret : Statement (.nret) := by
  intro hw _ _ rest
  obtain ⟨hl, hM, g0⟩ := layout51 46 2 (by decide) (by decide) (w := 3087007746) (by omega)
  exact of_word (i := (.nret)) rfl hl (by rw [show field (encode (.nret)) 26 6 = 46 from hM]; decide)
    (show candidate (3087007746) = _ by rw [candidate2E hM]; delta major2E; simp only [g0]) hw rest

theorem setdl (x0 x1 x2 : Nat) : Statement (.setdl x0 x1 x2) := by
  intro hw _ _ rest
  have hb : (decide (x0 < 32) && decide (x1 < 32) && decide (x2 < 32)) = true := hw
  simp only [Bool.and_eq_true, decide_eq_true_eq] at hb
  obtain ⟨hl, hM, g0, f0, f1, f2⟩ := layout1 x0 x1 x2 46 3 (by decide) (by omega) (by omega) (by omega) (by decide) (w := 3087007747 + x0 * 2097152 + x1 * 65536 + x2 * 2048) (by omega)
  exact of_word (i := (.setdl x0 x1 x2)) rfl hl (by rw [show field (encode (.setdl x0 x1 x2)) 26 6 = 46 from hM]; decide)
    (show candidate (3087007747 + x0 * 2097152 + x1 * 65536 + x2 * 2048) = _ by rw [candidate2E hM]; delta major2E; simp only [g0, f0, f1, f2]) hw rest

theorem ecall : Statement (.ecall) := by
  intro hw _ _ rest
  obtain ⟨hl, hM, g0⟩ := layout51 47 0 (by decide) (by decide) (w := 3154116608) (by omega)
  exact of_word (i := (.ecall)) rfl hl (by rw [show field (encode (.ecall)) 26 6 = 47 from hM]; decide)
    (show candidate (3154116608) = _ by rw [candidate2F hM]; delta major2F; simp only [g0]) hw rest

theorem ebreak : Statement (.ebreak) := by
  intro hw _ _ rest
  obtain ⟨hl, hM, g0⟩ := layout51 47 1 (by decide) (by decide) (w := 3154116609) (by omega)
  exact of_word (i := (.ebreak)) rfl hl (by rw [show field (encode (.ebreak)) 26 6 = 47 from hM]; decide)
    (show candidate (3154116609) = _ by rw [candidate2F hM]; delta major2F; simp only [g0]) hw rest

theorem trapret : Statement (.trapret) := by
  intro hw _ _ rest
  obtain ⟨hl, hM, g0⟩ := layout51 47 2 (by decide) (by decide) (w := 3154116610) (by omega)
  exact of_word (i := (.trapret)) rfl hl (by rw [show field (encode (.trapret)) 26 6 = 47 from hM]; decide)
    (show candidate (3154116610) = _ by rw [candidate2F hM]; delta major2F; simp only [g0]) hw rest

theorem tlbinv (x0 x1 : Nat) : Statement (.tlbinv x0 x1) := by
  intro hw _ _ rest
  have hb : (decide (x0 < 32) && decide (x1 < 32)) = true := hw
  simp only [Bool.and_eq_true, decide_eq_true_eq] at hb
  obtain ⟨hl, hM, g0, f0, f1⟩ := layout34 x0 x1 47 3 (by decide) (by omega) (by omega) (by decide) (w := 3154116611 + x0 * 65536 + x1 * 2048) (by omega)
  exact of_word (i := (.tlbinv x0 x1)) rfl hl (by rw [show field (encode (.tlbinv x0 x1)) 26 6 = 47 from hM]; decide)
    (show candidate (3154116611 + x0 * 65536 + x1 * 2048) = _ by rw [candidate2F hM]; delta major2F; simp only [g0, f0, f1]) hw rest

theorem halt : Statement (.halt) := by
  intro hw _ _ rest
  obtain ⟨hl, hM, g0⟩ := layout51 47 4 (by decide) (by decide) (w := 3154116612) (by omega)
  exact of_word (i := (.halt)) rfl hl (by rw [show field (encode (.halt)) 26 6 = 47 from hM]; decide)
    (show candidate (3154116612) = _ by rw [candidate2F hM]; delta major2F; simp only [g0]) hw rest

theorem yield (x0 : Nat) : Statement (.yield x0) := by
  intro hw _ _ rest
  have hb : (decide (x0 < 32)) = true := hw
  simp only [decide_eq_true_eq] at hb
  obtain ⟨hl, hM, g0, f0⟩ := layout36 x0 47 5 (by decide) (by omega) (by decide) (w := 3154116613 + x0 * 65536) (by omega)
  exact of_word (i := (.yield x0)) rfl hl (by rw [show field (encode (.yield x0)) 26 6 = 47 from hM]; decide)
    (show candidate (3154116613 + x0 * 65536) = _ by rw [candidate2F hM]; delta major2F; simp only [g0, f0]) hw rest

theorem perf (x0 x1 : Nat) : Statement (.perf x0 x1) := by
  intro hw _ _ rest
  have hb : (decide (x0 < 32) && decide (x1 < 32)) = true := hw
  simp only [Bool.and_eq_true, decide_eq_true_eq] at hb
  obtain ⟨hl, hM, g0, f0, f1⟩ := layout2 x0 x1 47 6 (by decide) (by omega) (by omega) (by decide) (w := 3154116614 + x0 * 2097152 + x1 * 65536) (by omega)
  exact of_word (i := (.perf x0 x1)) rfl hl (by rw [show field (encode (.perf x0 x1)) 26 6 = 47 from hM]; decide)
    (show candidate (3154116614 + x0 * 2097152 + x1 * 65536) = _ by rw [candidate2F hM]; delta major2F; simp only [g0, f0, f1]) hw rest

theorem lanemap (x0 x1 x2 : Nat) : Statement (.lanemap x0 x1 x2) := by
  intro hw _ _ rest
  have hb : (decide (x0 < 32) && decide (x1 < 32) && decide (x2 < 32)) = true := hw
  simp only [Bool.and_eq_true, decide_eq_true_eq] at hb
  obtain ⟨hl, hM, g0, f0, f1, f2⟩ := layout1 x0 x1 x2 47 7 (by decide) (by omega) (by omega) (by omega) (by decide) (w := 3154116615 + x0 * 2097152 + x1 * 65536 + x2 * 2048) (by omega)
  exact of_word (i := (.lanemap x0 x1 x2)) rfl hl (by rw [show field (encode (.lanemap x0 x1 x2)) 26 6 = 47 from hM]; decide)
    (show candidate (3154116615 + x0 * 2097152 + x1 * 65536 + x2 * 2048) = _ by rw [candidate2F hM]; delta major2F; simp only [g0, f0, f1, f2]) hw rest

theorem illegalInstruction (x0 : Nat) (x1 : Nat) (x2 : Nat) : Statement (.illegalInstruction x0 x1 x2) := fun _ h => absurd rfl h

theorem trap (x0 : Nat) (x1 : Nat) (x2 : Nat) (x3 : Nat) (x4 : Nat) : Statement (.trap x0 x1 x2 x3 x4) := fun _ h => absurd rfl h

theorem elementGroupCommit : Statement (.elementGroupCommit) := fun _ h => absurd rfl h

theorem notification : Statement (.notification) := fun _ h => absurd rfl h

theorem late (x0 : Nat) : Statement (.late x0) := fun _ h => absurd rfl h

theorem publicationComplete (x0 : Nat) : Statement (.publicationComplete x0) := fun _ h => absurd rfl h

theorem barrierComplete (x0 : Nat) (x1 : Nat) (x2 : Nat) : Statement (.barrierComplete x0 x1 x2) := fun _ h => absurd rfl h

theorem pacerTranslate (x0 : Nat) (x1 : Nat) : Statement (.pacerTranslate x0 x1) := fun _ h => absurd rfl h

theorem copyComplete (x0 : Nat) (x1 : Nat) : Statement (.copyComplete x0 x1) := fun _ h => absurd rfl h

theorem copyFault (x0 : Nat) (x1 : Nat) : Statement (.copyFault x0 x1) := fun _ h => absurd rfl h

theorem routingOperationEnd (x0 : Nat) : Statement (.routingOperationEnd x0) := fun _ h => absurd rfl h

theorem routingFault (x0 : Nat) : Statement (.routingFault x0) := fun _ h => absurd rfl h

theorem tileLatch (x0 : Nat) : Statement (.tileLatch x0) := fun _ h => absurd rfl h

theorem neighbourRowArrival (x0 : Nat) (x1 : Nat) (x2 : Nat) (x3 : Nat) (x4 : Nat) : Statement (.neighbourRowArrival x0 x1 x2 x3 x4) := fun _ h => absurd rfl h

theorem graphNode (x0 : Nat) (x1 : Nat) : Statement (.graphNode x0 x1) := fun _ h => absurd rfl h

theorem parcelConfirm (x0 : Nat) : Statement (.parcelConfirm x0) := fun _ h => absurd rfl h

theorem parcelDeliveryFail (x0 : Nat) (x1 : Nat) : Statement (.parcelDeliveryFail x0 x1) := fun _ h => absurd rfl h

theorem retrainAttemptEnd (x0 : Nat) (x1 : Nat) (x2 : Nat) : Statement (.retrainAttemptEnd x0 x1 x2) := fun _ h => absurd rfl h

theorem linkUp (x0 : Nat) : Statement (.linkUp x0) := fun _ h => absurd rfl h

theorem moveEnded (x0 : Nat) : Statement (.moveEnded x0) := fun _ h => absurd rfl h

theorem pinExpiry (x0 : Nat) : Statement (.pinExpiry x0) := fun _ h => absurd rfl h

theorem hostQueueTake (x0 : Nat) : Statement (.hostQueueTake x0) := fun _ h => absurd rfl h

theorem contextSaved (x0 : Nat) (x1 : Nat) : Statement (.contextSaved x0 x1) := fun _ h => absurd rfl h

theorem eventRecordWrite : Statement (.eventRecordWrite) := fun _ h => absurd rfl h

theorem hotnessFlush (x0 : Nat) : Statement (.hotnessFlush x0) := fun _ h => absurd rfl h

theorem nearCacheEviction (x0 : Nat) (x1 : Nat) : Statement (.nearCacheEviction x0 x1) := fun _ h => absurd rfl h

theorem shadowStallTimeout (x0 : Nat) : Statement (.shadowStallTimeout x0) := fun _ h => absurd rfl h

theorem parcelConfirmTimeout (x0 : Nat) : Statement (.parcelConfirmTimeout x0) := fun _ h => absurd rfl h

theorem receiverDiscard (x0 : Nat) : Statement (.receiverDiscard x0) := fun _ h => absurd rfl h

theorem packetService (x0 : Nat) : Statement (.packetService x0) := fun _ h => absurd rfl h

theorem packageDeadline (x0 : Nat) : Statement (.packageDeadline x0) := fun _ h => absurd rfl h

theorem fabricDeadline (x0 : Nat) : Statement (.fabricDeadline x0) := fun _ h => absurd rfl h

theorem combineHoldExpiry (x0 : Nat) : Statement (.combineHoldExpiry x0) := fun _ h => absurd rfl h

theorem combinedReply (x0 : Nat) (x1 : Nat) : Statement (.combinedReply x0 x1) := fun _ h => absurd rfl h

theorem movedRefusal (x0 : Nat) : Statement (.movedRefusal x0) := fun _ h => absurd rfl h

theorem replyCacheExpiry (x0 : Nat) : Statement (.replyCacheExpiry x0) := fun _ h => absurd rfl h

theorem flitReceive (x0 : Nat) (x1 : Nat) (x2 : Nat) (x3 : Nat) (x4 : Nat) : Statement (.flitReceive x0 x1 x2 x3 x4) := fun _ h => absurd rfl h

theorem replayTimeout (x0 : Nat) : Statement (.replayTimeout x0) := fun _ h => absurd rfl h

theorem linkControlFlit (x0 : Nat) (x1 : Nat) (x2 : Nat) : Statement (.linkControlFlit x0 x1 x2) := fun _ h => absurd rfl h

theorem wavelengthDark (x0 : Nat) (x1 : Nat) : Statement (.wavelengthDark x0 x1) := fun _ h => absurd rfl h

theorem laserLineLost (x0 : Nat) : Statement (.laserLineLost x0) := fun _ h => absurd rfl h

theorem retrainWindow (x0 : Nat) (x1 : Nat) (x2 : Nat) : Statement (.retrainWindow x0 x1 x2) := fun _ h => absurd rfl h

theorem lockDone (x0 : Nat) (x1 : Nat) : Statement (.lockDone x0 x1) := fun _ h => absurd rfl h

theorem trainDone (x0 : Nat) (x1 : Nat) : Statement (.trainDone x0 x1) := fun _ h => absurd rfl h

theorem linkLock (x0 : Nat) : Statement (.linkLock x0) := fun _ h => absurd rfl h

theorem linkTrain (x0 : Nat) : Statement (.linkTrain x0) := fun _ h => absurd rfl h

theorem freePortPeer (x0 : Nat) (x1 : Nat) : Statement (.freePortPeer x0 x1) := fun _ h => absurd rfl h

theorem rekey (x0 : Nat) : Statement (.rekey x0) := fun _ h => absurd rfl h

theorem relane (x0 : Nat) : Statement (.relane x0) := fun _ h => absurd rfl h

theorem txkey (x0 : Nat) (x1 : Nat) : Statement (.txkey x0 x1) := fun _ h => absurd rfl h

theorem rxkey (x0 : Nat) (x1 : Nat) : Statement (.rxkey x0 x1) := fun _ h => absurd rfl h

theorem laserEnable (x0 : Nat) (x1 : Nat) : Statement (.laserEnable x0 x1) := fun _ h => absurd rfl h

theorem move (x0 : Nat) (x1 : Nat) : Statement (.move x0 x1) := fun _ h => absurd rfl h

theorem moveRelease (x0 : Nat) : Statement (.moveRelease x0) := fun _ h => absurd rfl h

theorem doorbell (x0 : Nat) (x1 : Nat) : Statement (.doorbell x0 x1) := fun _ h => absurd rfl h

theorem hqstatEnable (x0 : Nat) (x1 : Nat) : Statement (.hqstatEnable x0 x1) := fun _ h => absurd rfl h

theorem hqstatStoppedClear (x0 : Nat) : Statement (.hqstatStoppedClear x0) := fun _ h => absurd rfl h

theorem reqfree (x0 : Nat) : Statement (.reqfree x0) := fun _ h => absurd rfl h

theorem taskkill (x0 : Nat) : Statement (.taskkill x0) := fun _ h => absurd rfl h

theorem start (x0 : Nat) (x1 : Nat) : Statement (.start x0 x1) := fun _ h => absurd rfl h

theorem restore (x0 : Nat) (x1 : Nat) : Statement (.restore x0 x1) := fun _ h => absurd rfl h

theorem preEmpt (x0 : Nat) (x1 : Nat) : Statement (.preEmpt x0 x1) := fun _ h => absurd rfl h

theorem evhead (x0 : Nat) : Statement (.evhead x0) := fun _ h => absurd rfl h

theorem evsz (x0 : Nat) : Statement (.evsz x0) := fun _ h => absurd rfl h

theorem arrivalQueue (x0 : Nat) (x1 : Nat) : Statement (.arrivalQueue x0 x1) := fun _ h => absurd rfl h

theorem powerCap (x0 : Nat) (x1 : Nat) : Statement (.powerCap x0 x1) := fun _ h => absurd rfl h

theorem plim (x0 : Nat) : Statement (.plim x0) := fun _ h => absurd rfl h

theorem throttle (x0 : Nat) (x1 : Nat) : Statement (.throttle x0 x1) := fun _ h => absurd rfl h

theorem thermalTrip : Statement (.thermalTrip) := fun _ h => absurd rfl h

theorem powerLoss : Statement (.powerLoss) := fun _ h => absurd rfl h

theorem boot (x0 : Nat) (x1 : Nat) (x2 : Nat) : Statement (.boot x0 x1 x2) := fun _ h => absurd rfl h

theorem freeze : Statement (.freeze) := fun _ h => absurd rfl h

theorem bypass (x0 : Nat) : Statement (.bypass x0) := fun _ h => absurd rfl h

theorem idcode : Statement (.idcode) := fun _ h => absurd rfl h

theorem chain (x0 : Nat) : Statement (.chain x0) := fun _ h => absurd rfl h

theorem attestationRequest (x0 : Nat) : Statement (.attestationRequest x0) := fun _ h => absurd rfl h

theorem rollbackRaise : Statement (.rollbackRaise) := fun _ h => absurd rfl h

theorem registerWrite (x0 : Nat) (x1 : Nat) : Statement (.registerWrite x0 x1) := fun _ h => absurd rfl h

theorem hartRestart (x0 : Nat) : Statement (.hartRestart x0) := fun _ h => absurd rfl h

theorem lightReturn (x0 : Nat) (x1 : Nat) : Statement (.lightReturn x0 x1) := fun _ h => absurd rfl h

theorem hostWrite (x0 : Nat) (x1 : Nat) (x2 : Nat) : Statement (.hostWrite x0 x1 x2) := fun _ h => absurd rfl h

theorem ofs (a b c d e f g w2 : Nat) : Statement (.ofs a b c d e f g w2) := by
  intro hw _ hj rest
  obtain ⟨j, hj⟩ := hj
  have hb : (decide (a < 16) && decide (b < 16) && decide (c < 16) && decide (d < 16) && decide (e < 16) && decide (f < 16) &&
    decide (g < 4) && pairLegal d e f w2 && decide (w2 < 4294967296)) = true := hw
  simp only [Bool.and_eq_true, decide_eq_true_eq] at hb
  have hx : encode (.ofs a b c d e f g w2) = 4227858432 + a * 4194304 + b * 262144 + c * 16384 + d * 1024 + e * 64 + f * 4 + g * 1 := rfl
  generalize hy : 4227858432 + a * 4194304 + b * 262144 + c * 16384 + d * 1024 + e * 64 + f * 4 + g * 1 = w at hx
  have hl : w < 4294967296 := by omega
  have fo : isOfs w = true := by simp only [isOfs, field, beq_iff_eq]; omega
  have f1 : field w 22 4 = a := by simp only [field]; omega
  have f2 : field w 18 4 = b := by simp only [field]; omega
  have f3 : field w 14 4 = c := by simp only [field]; omega
  have f4 : field w 10 4 = d := by simp only [field]; omega
  have f5 : field w 6 4 = e := by simp only [field]; omega
  have f6 : field w 2 4 = f := by simp only [field]; omega
  have f7 : field w 0 2 = g := by simp only [field]; omega
  have hs : encodeWords (.ofs a b c d e f g w2) = [w, w2] := by simp only [encodeWords, hx]
  have hd : (wordBytes w ++ (wordBytes w2 ++ rest)).drop 4 = wordBytes w2 ++ rest := rfl
  simp only [encodeBytes, hs, List.flatMap_cons, List.flatMap_nil, List.append_nil, List.append_assoc, decode, leWord_wordBytes hl, hd,
    leWord_wordBytes hb.2, decodePair, fo, f1, f2, f3, f4, f5, f6, f7, hb.1.2, hj]
  rfl

end Sys2Proof.Laws.RoundTrip
end

