-- ==== Sys2Proof/Safety.lean ====
section
/-!
DEFINITION. What counts as a safe run: one that neither faults nor is refused, for as many steps as are asked.
-/

namespace Sys2Proof.Machine

/-- The state after `n` steps, if none of them faults or is refused. -/
def after : Nat → State → Option State
  | 0, s => some s
  | n + 1, s =>
    match step s with
    | .next t => after n t
    | _ => none

/-- A run of `n` steps from a state goes on. -/
def RunsSafely (n : Nat) (s : State) : Prop := (after n s).isSome

/-- A property of states that every step keeps. -/
def Invariant (P : State → Prop) : Prop := ∀ s t, P s → step s = .next t → P t

end Sys2Proof.Machine
end

