-- ==== Sys2Proof/Certificates/Slice0/Obligations.lean ====
section
/-!
DEFINITION. What is claimed of the model, for the provers.
-/

namespace Sys2Proof.Claims

open Sys2Proof.Machine

/-! Words used by many statements. -/

/-- The state after an instruction of `n` bytes that leaves everything else as it is: the program counter past it, INSTRET counted,
not waiting. -/
def passed (s : State) (n : Nat) : State :=
  { s with hart := { s.hart with pc := s.hart.pc + BitVec.ofNat 64 n, instret := s.hart.instret + 1, waiting := false } }

/-- The same, with register `r` of the view holding `v` (R9, R258). -/
def answered (s : State) (r : Nat) (v : Word) : State := passed (wx s r v) 4

/-- An integer as a register value, modulo 2^64; a field of `n` bits as a signed value (R131). -/
def asWord (v : Int) : Word := BitVec.ofInt 64 v

def signedField (n v : Nat) : Int := if v < 2 ^ (n - 1) then v else (v : Int) - 2 ^ n

/-- The trap that an instruction without an in-flight slot raises (R305). -/
def ownTrap (s : State) (cause sub acc elem : Nat) (addr : Word) : Trap :=
  { cause, sub, acc, elem, addr, rpc := s.hart.pc, w1 := s.hart.ir1, w2 := s.hart.ir2, pair := s.hart.irPair }

/-- The trap of an access of an instruction that failed (R305, R326). -/
def accessTrap (s : State) (f : AccFault) (acc elem va : Nat) : Trap :=
  { ownTrap s f.cause f.sub acc elem (BitVec.ofNat 64 va) with po := f.po }

/-- The state after a trap (R302): the record in bank depth, one level deeper, the privileged view, the fetch at TVEC. -/
def trapped (s : State) (t : Trap) : State :=
  { s with
    hart := { s.hart with
      bank0 := if s.hart.depth = 0 then recordOf s.hart t else s.hart.bank0
      bank1 := if s.hart.depth = 1 then recordOf s.hart t else s.hart.bank1
      depth := s.hart.depth + 1, priv := true, pc := s.hart.tvec &&& ~~~3#64, lap := none, inflight := [], held := none, waiting := false } }

/-- A trap of this instruction is taken at once: no older fault is held, a bank is free. -/
def CanTrap (s : State) : Prop := s.hart.held = none ∧ s.hart.depth < 2

/-! Scalar instructions. -/

/-- The number of bits of a value without its leading zeros. -/
def bitLength (n : Nat) : Nat := if n = 0 then 0 else n.log2 + 1

/-- Destination and result of the SALU forms (R138, R139), by exact arithmetic on the signed or unsigned values. -/
def scalarResult (s : State) : Instr → Option (Nat × Word)
  | .add xd a b => some (xd, asWord ((rx s a).toInt + (rx s b).toInt))
  | .sub xd a b => some (xd, asWord ((rx s a).toInt - (rx s b).toInt))
  | .and xd a b => some (xd, rx s a &&& rx s b)
  | .or xd a b => some (xd, rx s a ||| rx s b)
  | .xor xd a b => some (xd, rx s a ^^^ rx s b)
  | .sll xd a b => some (xd, asWord ((rx s a).toInt * 2 ^ ((rx s b).toNat % 64)))
  | .srl xd a b => some (xd, BitVec.ofNat 64 ((rx s a).toNat / 2 ^ ((rx s b).toNat % 64)))
  | .sra xd a b => some (xd, asWord ((rx s a).toInt / 2 ^ ((rx s b).toNat % 64)))
  | .slt xd a b => some (xd, if (rx s a).toInt < (rx s b).toInt then 1 else 0)
  | .sltZ xd a b => some (xd, if (rx s a).toNat < (rx s b).toNat then 1 else 0)
  | .min xd a b => some (xd, asWord (min (rx s a).toInt (rx s b).toInt))
  | .max xd a b => some (xd, asWord (max (rx s a).toInt (rx s b).toInt))
  | .minZ xd a b => some (xd, BitVec.ofNat 64 (min (rx s a).toNat (rx s b).toNat))
  | .maxZ xd a b => some (xd, BitVec.ofNat 64 (max (rx s a).toNat (rx s b).toNat))
  | .clz xd a => some (xd, BitVec.ofNat 64 (64 - bitLength (rx s a).toNat))
  | .popc xd a => some (xd, BitVec.ofNat 64 ((List.range 64).filter fun i => (rx s a).getLsbD i).length)
  | .sel xd a b => some (xd, if rx s xd ≠ 0 then rx s a else rx s b)
  | .mul xd a b => some (xd, asWord ((rx s a).toInt * (rx s b).toInt))
  | .mulh xd a b => some (xd, asWord ((rx s a).toInt * (rx s b).toInt / 2 ^ 64))
  | .mulhZ xd a b => some (xd, BitVec.ofNat 64 ((rx s a).toNat * (rx s b).toNat / 2 ^ 64))
  | .div xd a b => some (xd, if (rx s b).toInt = 0 then asWord (-1) else asWord ((rx s a).toInt.tdiv (rx s b).toInt))
  | .divZ xd a b => some (xd, if (rx s b).toNat = 0 then asWord (-1) else BitVec.ofNat 64 ((rx s a).toNat / (rx s b).toNat))
  | .rem xd a b => some (xd, if (rx s b).toInt = 0 then rx s a else asWord ((rx s a).toInt.tmod (rx s b).toInt))
  | .remZ xd a b => some (xd, if (rx s b).toNat = 0 then rx s a else BitVec.ofNat 64 ((rx s a).toNat % (rx s b).toNat))
  | _ => none

/-- Destination and result of the immediate forms (R140). -/
def immediateResult (s : State) : Instr → Option (Nat × Word)
  | .addi xd a imm => some (xd, asWord ((rx s a).toInt + signedField 16 imm))
  | .andi xd a imm => some (xd, rx s a &&& BitVec.ofNat 64 imm)
  | .ori xd a imm => some (xd, rx s a ||| BitVec.ofNat 64 imm)
  | .xori xd a imm => some (xd, rx s a ^^^ BitVec.ofNat 64 imm)
  | .slli xd a k => some (xd, asWord ((rx s a).toInt * 2 ^ k))
  | .srli xd a k => some (xd, BitVec.ofNat 64 ((rx s a).toNat / 2 ^ k))
  | .srai xd a k => some (xd, asWord ((rx s a).toInt / 2 ^ k))
  | .slti xd a imm => some (xd, if (rx s a).toInt < signedField 16 imm then 1 else 0)
  | .lui xd imm => some (xd, asWord (signedField 21 imm * 65536))
  | .addpc xd imm => some (xd, asWord (s.hart.pc.toInt + signedField 21 imm * 65536))
  | _ => none

/-- Scalar loads (R141): bytes, whether sign-extended, destination, base, displacement. -/
def loadForm : Instr → Option (Nat × Bool × Nat × Nat × Nat)
  | .ldsS8 xd xs1 imm => some (1, true, xd, xs1, imm)
  | .ldsZ8 xd xs1 imm => some (1, false, xd, xs1, imm)
  | .ldsS16 xd xs1 imm => some (2, true, xd, xs1, imm)
  | .ldsZ16 xd xs1 imm => some (2, false, xd, xs1, imm)
  | .ldsS32 xd xs1 imm => some (4, true, xd, xs1, imm)
  | .ldsZ32 xd xs1 imm => some (4, false, xd, xs1, imm)
  | .ldsZ64 xd xs1 imm => some (8, false, xd, xs1, imm)
  | _ => none

/-- Scalar stores (R141): bytes, register stored, base, displacement. -/
def storeForm : Instr → Option (Nat × Nat × Nat × Nat)
  | .stsZ8 xd xs1 imm => some (1, xd, xs1, imm)
  | .stsZ16 xd xs1 imm => some (2, xd, xs1, imm)
  | .stsZ32 xd xs1 imm => some (4, xd, xs1, imm)
  | .stsZ64 xd xs1 imm => some (8, xd, xs1, imm)
  | _ => none

/-- The address of a scalar access (R130, R141). -/
def accessAddr (s : State) (xs1 imm : Nat) : Nat := (asWord ((rx s xs1).toInt + signedField 13 imm)).toNat

/-- The value of `n` bytes, the byte at the lowest address least significant (R2). -/
def littleEndian : List Byte → Nat
  | [] => 0
  | b :: bs => b.toNat + 256 * littleEndian bs

/-- The `n` bytes at a virtual address as the hart reads them in its phase (R54), and as their homes hold them now. -/
def seenBytes (s : State) (va pa n : Nat) : List Byte := (List.range n).map fun k => hartByte s (va + k) (pa + k)

def homeBytes (s : State) (pa n : Nat) : List Byte := (List.range n).map fun k => mget s.memory (homeAddr s pa + k)

/-- The low `n` bytes of a value in memory order. -/
def storedBytes (n : Nat) (v : Nat) : List Byte := (List.range n).map fun k => BitVec.ofNat 8 (v / 256 ^ k)

/-- Whether a byte of a plain read is one that its home would have to give and cannot (R209, R385): it is neither the hart's own write nor read
before in the phase nor in the near cache. -/
def Spoilt (s : State) (va pa : Nat) : Prop := atHand s va pa = false ∧ uncorrectable s pa 1 = true

/-- Whether a plain read of the hart at `va` is served. -/
def Readable (s : State) (va pa n : Nat) : Prop := ∀ k < n, ¬ Spoilt s (va + k) (pa + k)

/-- The lowest byte that a plain read does not get. -/
def SpoiltAt (s : State) (va pa n k : Nat) : Prop := k < n ∧ Spoilt s (va + k) (pa + k) ∧ ∀ j < k, ¬ Spoilt s (va + j) (pa + j)

/-- The state with `bs` written by the hart at `va` in its address space and unpublished (R49, R53, R54), nothing else changed: `own` lists the
hart's writes. -/
def OwnAfter (s : State) (own : Table OwnByte) (va pa : Nat) (bs : List Byte) : Prop :=
  ∀ a, (own.find? fun p => p.1 == a).map Prod.snd =
    if hartLoc s va ≤ a ∧ a < hartLoc s va + bs.length then
      some ⟨bs.getD (a - hartLoc s va) 0, pa + (a - hartLoc s va), false, false⟩ else ownByte s.hart a

/-- Whether a plain read finds what it needs of its home: a read that fetches nothing needs nothing, and one that fetches reaches the home (R54,
R360). -/
def Reaches (s : State) (va pa n : Nat) : Prop := fetches s va pa n = true → reachHome s pa = (s, .ok pa)

/-- What a plain read of `n` bytes by the hart leaves: where a byte is fetched, a near-cache miss counted and the request sent under the deadline in
force; the aligned 8 bytes around the element kept in the snapshot, so that a later read of the phase gets the same; the access counted (R51, R54,
R260, R266, R317). -/
def readLeft (s : State) (va pa n kind : Nat) : State :=
  touch (if fetches s va pa n then cacheElem s va pa (keepElem keepSnap (request s.hart.deadline (addPerf s 3 1) pa 0) va pa)
    else keepElem keepNear (missAnyway s va) va pa) pa kind

/-- The branch conditions (R143): whether it is taken, and its offset. -/
def branchForm (s : State) : Instr → Option (Bool × Nat)
  | .beq a b off => some (decide (rx s a = rx s b), off)
  | .bne a b off => some (decide (rx s a ≠ rx s b), off)
  | .blt a b off => some (decide ((rx s a).toInt < (rx s b).toInt), off)
  | .bge a b off => some (decide ((rx s b).toInt ≤ (rx s a).toInt), off)
  | .bltZ a b off => some (decide ((rx s a).toNat < (rx s b).toNat), off)
  | .bgeZ a b off => some (decide ((rx s b).toNat ≤ (rx s a).toNat), off)
  | _ => none

/-- The state with the program counter at `t`, counted and not waiting. -/
def wentTo (s : State) (t : Word) : State :=
  { s with hart := { s.hart with pc := t, instret := s.hart.instret + 1, waiting := false } }

/-- A multiple of 4 (R117). -/
def Aligned (v : Word) : Prop := v.toNat % 4 = 0

/-! Control and status registers. -/

/-- CSR instructions: destination, register number, whether they write, and the value they form from the old one (R145). -/
def csrForm (s : State) : Instr → Option (Nat × Nat × Bool × (Word → Word))
  | .csrrw xd xs1 n => some (xd, n, true, fun _ => rx s xs1)
  | .csrrs xd xs1 n => some (xd, n, xs1 != 0, fun old => old ||| rx s xs1)
  | .csrrc xd xs1 n => some (xd, n, xs1 != 0, fun old => old &&& ~~~(rx s xs1))
  | _ => none

/-- The registers of R146, those of R303, and the trap-record registers among them. -/
def openNumbers : List Nat := [0x001, 0x002, 0x010, 0x011, 0x012, 0x013, 0x020, 0x021, 0x022]

def recordNumbers : List Nat :=
  [0x900, 0x901, 0x902, 0x903, 0x904, 0x905, 0x906, 0x907, 0x910, 0x911, 0x912, 0x913, 0x918, 0x919, 0x91A, 0x91B, 0x920, 0x921,
   0x922, 0x923, 0x928, 0x929, 0x92A, 0x92B]

def closedNumbers : List Nat := [0x800, 0x801, 0x802, 0x803, 0x810, 0x811] ++ recordNumbers

/-- Whether a register exists in the view of the hart (R146, R303). -/
def InView (s : State) (n : Nat) : Prop := n ∈ openNumbers ∨ (n ∈ closedNumbers ∧ s.hart.priv = true)

/-- Whether a write is refused (R12, R13, R148): an extent outside 1 to 8,192, an element type of 12 to 15. -/
def Refused (n : Nat) (v : Word) : Prop :=
  (n = 0x010 ∧ ∃ lo ∈ [0, 16, 32], v.toNat / 2 ^ lo % 16384 < 1 ∨ 8192 < v.toNat / 2 ^ lo % 16384) ∨ (n = 0x011 ∧ 12 ≤ v.toNat % 16)

/-- What a register reads after `v` is written to it over `old` (R12, R13, R73, R145, R149, R303, R306, R311). -/
def writtenValue (depth n : Nat) (old v : Word) : Word :=
  match n with
  | 0x001 => (v &&& 0x1F08) ||| (if v.toNat % 8 < 5 then v &&& 7 else old &&& 7)
  | 0x002 => v
  | 0x010 => v &&& 0x00003FFF3FFF3FFF
  | 0x011 => v &&& 0xF
  | 0x801 => v &&& ~~~3#64
  | 0x802 => v
  | 0x803 => v
  | 0x810 => v &&& 0x00FFFFFFFFFFFFFF
  | 0x903 => if depth = 0 then 0 else v
  | 0x905 => if depth = 0 then 0 else (old &&& ~~~0xF0#64) ||| (v &&& 0xF0)
  | _ => old

end Sys2Proof.Claims

open Sys2Proof Sys2Proof.Machine Sys2Proof.Claims

/-- R9, R258. -/
def Obligations.RegistersReadBackAndStayApart : Prop :=
  ∀ (s : State) (r q : Nat) (v : Word), r < 32 → q < 32 →
    rx s 0 = 0 ∧ wx s 0 v = s ∧ (r ≠ 0 → rx (wx s r v) r = v) ∧ (q ≠ r → rx (wx s r v) q = rx s q) ∧
    (s.hart.nh = false ∨ r < 24 → (wx s r v).hart.shadow = s.hart.shadow) ∧
    (s.hart.nh = true → 24 ≤ r → (wx s r v).hart.x = s.hart.x) ∧
    ∃ x' sh', wx s r v = { s with hart := { s.hart with x := x', shadow := sh' } }

/-- R138 to R140. -/
def Obligations.ScalarArithmeticResults : Prop :=
  ∀ (s : State) (i : Instr) (xd : Nat) (v : Word), wellFormed i = true → s.hart.lap = none →
    scalarResult s i = some (xd, v) ∨ immediateResult s i = some (xd, v) → exec i s = .next (answered s xd v)

/-- R51, R54, R141, R317: the translation is made (`u`), the read leaves the snapshot and its counts, the value is written. -/
def Sys2Proof.Claims.ScalarLoadResults : Prop :=
  ∀ (s u : State) (i : Instr) (n xd xs1 imm pa : Nat) (sg : Bool), wellFormed i = true → s.hart.lap = none →
    loadForm i = some (n, sg, xd, xs1, imm) → accessAddr s xs1 imm % n = 0 →
    locate (hartView s) 0 (accessAddr s xs1 imm) s = (u, .ok pa) → Reaches u (accessAddr s xs1 imm) pa n →
    Readable u (accessAddr s xs1 imm) pa n →
    exec i s = .next (answered (readLeft u (accessAddr s xs1 imm) pa n 1) xd
      (asWord (if sg then signedField (8 * n) (littleEndian (seenBytes u (accessAddr s xs1 imm) pa n))
        else (littleEndian (seenBytes u (accessAddr s xs1 imm) pa n) : Int))))

/-- R54, R141, R360, R361: the bytes become writes of the hart, every other byte reads as before, and memory waits for a publication; a store that its
home fails enters the error queue with the home's module and traps nothing. -/
def Sys2Proof.Claims.ScalarStoreResults : Prop :=
  ∀ (s u v : State) (i : Instr) (n xd xs1 imm pa : Nat), wellFormed i = true → s.hart.lap = none →
    storeForm i = some (n, xd, xs1, imm) → accessAddr s xs1 imm % n = 0 →
    locate (hartView s) 1 (accessAddr s xs1 imm) s = (u, .ok pa) →
    (reachHome u pa = (v, .ok pa) →
      ∃ own, OwnAfter v own (accessAddr s xs1 imm) pa (storedBytes n (rx s xd).toNat) ∧
        exec i s = .next (passed (touch { v with hart := { v.hart with own := own } } pa 1) 4)) ∧
    ∀ f, reachHome u pa = (v, .error f) → actsAnyway v pa f = false →
      exec i s = .next (passed (errorEntry v v.hart.ctxid 1 f.cause f.sub n (accessAddr s xs1 imm) (paModule pa) v.hart.irPc.toNat) 4)

/-- R38, R141, R144, R209, R305: a misaligned address, then what the translation finds, then a home that fails a read, then data that cannot be
corrected. -/
def Sys2Proof.Claims.ScalarAccessTraps : Prop :=
  (∀ (s : State) (i : Instr) (n xd xs1 imm : Nat) (sg : Bool), wellFormed i = true → CanTrap s → loadForm i = some (n, sg, xd, xs1, imm) →
    (accessAddr s xs1 imm % n ≠ 0 →
      exec i s = .next (trapped s (ownTrap s 3 0 0 0 (BitVec.ofNat 64 (accessAddr s xs1 imm))))) ∧
    ∀ (u : State) (f : AccFault), accessAddr s xs1 imm % n = 0 → f.po = false →
      (locate (hartView s) 0 (accessAddr s xs1 imm) s = (u, .error f) ∨
        ∃ v pa, locate (hartView s) 0 (accessAddr s xs1 imm) s = (v, .ok pa) ∧ fetches v (accessAddr s xs1 imm) pa n = true ∧
          reachHome v pa = (u, .error f)) →
      exec i s = .next (trapped u (accessTrap u f 0 0 (accessAddr s xs1 imm)))) ∧
  (∀ (s u : State) (i : Instr) (n xd xs1 imm pa k : Nat) (sg : Bool), wellFormed i = true → CanTrap s →
    loadForm i = some (n, sg, xd, xs1, imm) → accessAddr s xs1 imm % n = 0 →
    locate (hartView s) 0 (accessAddr s xs1 imm) s = (u, .ok pa) → Reaches u (accessAddr s xs1 imm) pa n →
    SpoiltAt u (accessAddr s xs1 imm) pa n k →
    let t := lastingError u (pa + k) 1
    exec i s = .next (trapped t (accessTrap t (if paModule pa = ownModule u then { cause := 12, sub := 6 } else { cause := 11, sub := 6 }) 0 0
      (accessAddr s xs1 imm)))) ∧
  (∀ (s : State) (i : Instr) (n xd xs1 imm : Nat), wellFormed i = true → CanTrap s → storeForm i = some (n, xd, xs1, imm) →
    (accessAddr s xs1 imm % n ≠ 0 →
      exec i s = .next (trapped s (ownTrap s 3 0 1 0 (BitVec.ofNat 64 (accessAddr s xs1 imm))))) ∧
    ∀ (u : State) (f : AccFault), accessAddr s xs1 imm % n = 0 → locate (hartView s) 1 (accessAddr s xs1 imm) s = (u, .error f) →
      f.po = false → exec i s = .next (trapped u (accessTrap u f 1 0 (accessAddr s xs1 imm)))) ∧
  ∀ (s : State) (xd xs1 imm : Nat) (t : Word), xd < 32 → xs1 < 32 → imm < 65536 → CanTrap s →
    t = asWord ((rx s xs1).toInt + signedField 16 imm * 4) → t.toNat % 4 ≠ 0 →
    exec (.jalr xd xs1 imm) s = .next (trapped s (ownTrap s 3 0 2 0 t))

/-- R143. -/
def Sys2Proof.Claims.BranchesGoWhereTheConditionSays : Prop :=
  ∀ (s : State) (i : Instr) (taken : Bool) (off : Nat), wellFormed i = true → Aligned s.hart.pc → branchForm s i = some (taken, off) →
    exec i s = .next (wentTo s (asWord (s.hart.pc.toInt + if taken then signedField 13 off * 4 else 4)))

/-- R144. -/
def Sys2Proof.Claims.JumpsLinkAndGo : Prop :=
  ∀ (s : State), Aligned s.hart.pc →
    (∀ xd off, xd < 32 → off < 2097152 →
      exec (.jal xd off) s = .next (wentTo (wx s xd (s.hart.pc + 4)) (asWord (s.hart.pc.toInt + signedField 21 off * 4)))) ∧
    ∀ xd xs1 imm t, xd < 32 → xs1 < 32 → imm < 65536 → t = asWord ((rx s xs1).toInt + signedField 16 imm * 4) → Aligned t →
      exec (.jalr xd xs1 imm) s = .next (wentTo (wx s xd (s.hart.pc + 4)) t)

/-- R145 to R147, R303: the old value is the answer, and the write changes the hart by `csrWrite` alone. -/
def Sys2Proof.Claims.CsrAnswersTheOldValue : Prop :=
  ∀ (s : State) (i : Instr) (xd n : Nat) (w : Bool) (new : Word → Word), wellFormed i = true → s.hart.lap = none →
    csrForm s i = some (xd, n, w, new) → InView s n → (w = true → ¬ Refused n (new (csrValue s n))) →
    exec i s = .next (answered (if w then { s with hart := csrWrite s.hart n (new (csrValue s n)) } else s) xd (csrValue s n))

/-- R12, R13, R73, R145, R148, R303, R306: what a write leaves in its register, and in every other one. -/
def Sys2Proof.Claims.CsrWritesReadBack : Prop :=
  ∀ (s : State) (n m : Nat) (v : Word), s.hart.depth ≤ 2 → ¬ Refused n v →
    csrValue { s with hart := csrWrite s.hart n v } n = writtenValue s.hart.depth n (csrValue s n) v ∧
    (m ≠ n → ¬ (n = 0x011 ∧ m = 0x012) → csrValue { s with hart := csrWrite s.hart n v } m = csrValue s m) ∧
    (n = 0x011 → csrValue { s with hart := csrWrite s.hart n v } 0x012 =
      BitVec.ofNat 64 (256 * s.hart.lanes / etypeSize (v.toNat % 16)))

/-- R118, R145, R146, R148: no register of the view, then a value that BSHAPE or VTYPE refuses. -/
def Sys2Proof.Claims.CsrRefusals : Prop :=
  ∀ (s : State) (i : Instr) (xd n : Nat) (w : Bool) (new : Word → Word), wellFormed i = true → CanTrap s →
    csrForm s i = some (xd, n, w, new) →
    (¬ InView s n → exec i s = .next (trapped s (ownTrap s 1 0 0 0 0))) ∧
    (InView s n → w = true → Refused n (new (csrValue s n)) → exec i s = .next (trapped s (ownTrap s 2 0 0 0 0)))

/-- R38, R54, R141, R305, R317: scalar loads, scalar stores, and the traps of both and of JALR. -/
def Obligations.ScalarAccesses : Prop := ScalarLoadResults ∧ ScalarStoreResults ∧ ScalarAccessTraps

/-- R145 to R148, R303: what a CSR instruction answers, what its write leaves, when it is refused. -/
def Obligations.CsrInstructions : Prop := CsrAnswersTheOldValue ∧ CsrWritesReadBack ∧ CsrRefusals

namespace Sys2Proof.Claims

open Sys2Proof.Machine

/-! Traps. -/

/-- The entries of a bank that TRAPRET resumes (R307): those whose skip bit is 0, oldest first. -/
def unskipped (b : TrapBank) : List Entry :=
  ((List.range b.ents.length).filter fun n => decide (b.inf.toNat / 2 ^ (4 + n) % 2 = 0)).filterMap fun n => b.ents[n]?

/-- The state that TRAPRET leaves from depth `d + 1` (R262, R307, R308). -/
def returned (s : State) (d : Nat) : State :=
  let b := if d = 0 then s.hart.bank0 else s.hart.bank1
  { s with
    hart := { s.hart with
      bank0 := if d = 0 then { s.hart.bank0 with lap := none } else s.hart.bank0
      bank1 := if d = 1 then { s.hart.bank1 with lap := none } else s.hart.bank1
      depth := d, priv := decide (b.inf.toNat / 256 % 2 = 1), pc := b.rpc &&& ~~~3#64, lap := b.lap, inflight := unskipped b
      instret := s.hart.instret + 1, waiting := false } }

/-- The state after the swap of a paged-out page begins (R326): the record in bank depth, the depth and the view as they were, the hart
and its slot being saved. -/
def swapped (s : State) (t : Trap) : State :=
  { s with
    hart := { s.hart with
      bank0 := if s.hart.depth = 0 then recordOf s.hart t else s.hart.bank0
      bank1 := if s.hart.depth = 1 then recordOf s.hart t else s.hart.bank1
      bank2 := if 2 ≤ s.hart.depth then recordOf s.hart t else s.hart.bank2
      lap := none, inflight := [], held := none, swap := true, run := .saving (s.hart.run == .saving true) }
    slots := tset s.slots s.hart.slot { tget s.slots s.hart.slot {} with st := 3 }
    agenda := s.agenda ++ [.contextSaved s.hart.dieNo (s.hart.slot % 512)] }

/-- The dwords of a crash record (R309), the third level being trap `t`. -/
def crashDwords (s : State) (t : Trap) : List Word :=
  let h := s.hart
  let level (b : TrapBank) : List Word :=
    [b.cause, b.elem, b.addr, b.rpc, b.word, (match b.ents[0]? with | some e => e.pc | none => 0),
     (match b.ents[0]? with | some e => BitVec.ofNat 64 (packCnt e.cnt) | none => 0), b.inf]
  [BitVec.ofNat 64 (s.core.crashes + 1), s.time, BitVec.ofNat 64 (h.cx + h.cy * 2 ^ 8 + h.idx % 8 * 2 ^ 16 + h.ctxid.toNat * 2 ^ 32),
   BitVec.ofNat 64 (16 * h.depth + if h.nh then 8 else 0)] ++ level h.bank0 ++ level h.bank1 ++ level (recordOf h t)

/-! Configuration and frames. -/

/-- The fault that a hart holds after BSHAPE and VTYPE have become `b` and `t`: it notes a change (R154). -/
def noted (h : Hart) (b t : Word) : Option Held := h.held.map fun f => { f with reshaped := f.reshaped || b != h.bshape || t != h.vtype }

/-- Configuration forms (R174 to R176): destination, source, the value read, whether a new one is legal, and the hart with it. -/
def configuration (s : State) : Instr → Option (Nat × Nat × Word × (Word → Prop) × (Word → Hart))
  | .bshape xd xs1 => some (xd, xs1, s.hart.bshape, fun v => ¬ Refused 0x010 v,
      fun v => { s.hart with bshape := v &&& 0x00003FFF3FFF3FFF, held := noted s.hart (v &&& 0x00003FFF3FFF3FFF) s.hart.vtype })
  | .vtype xd xs1 => some (xd, xs1, s.hart.vtype, fun v => ¬ Refused 0x011 v,
      fun v => { s.hart with vtype := v &&& 0xF, held := noted s.hart s.hart.bshape (v &&& 0xF) })
  | .setofs xd xs1 n => some (xd, xs1, BitVec.ofNat 64 (s.hart.offs[n]?.getD 0).toNat, fun _ => True,
      fun v => { s.hart with offs := s.hart.offs.setIfInBounds n (BitVec.ofNat 12 v.toNat) })
  | .adj xd xs1 r f => some (xd, xs1, s.hart.adj[6 * r + f]?.getD 0,
      fun v => v.toNat % 16 < 8 ∧ ¬ (v.toNat % 16 = 7 ∧ v.toNat / 256 % 2 = 1),
      fun v => { s.hart with adj := s.hart.adj.setIfInBounds (6 * r + f) (v &&& 0x1FF3FFF0FFF) })
  | _ => none

/-- The extents of BSHAPE (R12), and the grant of vlset (R177). -/
def extent (b : Word) (axis : Nat) : Nat := b.toNat / 2 ^ (16 * axis) % 16384

def granted (s : State) (want : Nat) : Nat :=
  min want (min (256 * s.hart.lanes / etypeSize (s.hart.vtype.toNat % 16)) (min s.hart.vlmax s.core.vcap) /
    (extent s.hart.bshape 1 * extent s.hart.bshape 2))

/-- The frame that a LAP captures (R178, R180). -/
def capturedFrame (s : State) (xs1 xs2 : Nat) (fr : List (Nat × Option Nat)) : Lap where
  frame := fr
  base := s.hart.pc + 4
  count := (rx s xs1).toNat
  sd := signedField 5 ((rx s xs2).toNat % 32)
  s1 := signedField 5 ((rx s xs2).toNat / 2 ^ 8 % 32)
  s2 := signedField 5 ((rx s xs2).toNat / 2 ^ 16 % 32)
  k := 0
  idx := 0

/-- Bytes of a frame of words and pairs. -/
def frameSize (fr : List (Nat × Option Nat)) : Nat := (fr.map fun p => if p.2.isSome then 8 else 4).sum

/-- Whether a frame instruction belongs to majors 0x10 to 0x1C and is an instruction (R179, second). -/
def FrameWord (p : Nat × Option Nat) : Prop :=
  match p.2 with
  | none => 16 ≤ p.1 / 2 ^ 26 % 64 ∧ p.1 / 2 ^ 26 % 64 ≤ 28 ∧ ∃ i, decodeWord p.1 = .ok i
  | some w2 => 16 ≤ w2 / 2 ^ 26 % 64 ∧ w2 / 2 ^ 26 % 64 ≤ 28 ∧ ∃ i, decodePair p.1 w2 = .ok (i, 8)

/-- Whether every brick field of a frame stays in 0 to 31 in every replay (R179, fourth). -/
def StridesStay (l : Lap) : Prop :=
  ∀ k < l.count, ∀ p ∈ l.frame,
    let w := p.2.getD p.1
    let b := brickFields w
    (b.1 = true → 0 ≤ (w / 2 ^ 21 % 32 : Int) + k * l.sd ∧ (w / 2 ^ 21 % 32 : Int) + k * l.sd ≤ 31) ∧
    (b.2.1 = true → 0 ≤ (w / 2 ^ 16 % 32 : Int) + k * l.s1 ∧ (w / 2 ^ 16 % 32 : Int) + k * l.s1 ≤ 31) ∧
    (b.2.2 = true → 0 ≤ (w / 2 ^ 11 % 32 : Int) + k * l.s2 ∧ (w / 2 ^ 11 % 32 : Int) + k * l.s2 ≤ 31)

/-! Steps. -/

/-- A hart after the cycles of a step (R150, R266): CYCLE and the stall counter of a bound one have gone on by free amounts. -/
def cycled (t : Nat) (h : Hart) : Hart :=
  if h.run = .idle then h
  else { h with cycle := h.cycle + Config.cycles t h.slot, perf := h.perf.set 0 (h.perf[0] + Config.stalls t h.slot) }

/-- The state in which the turn of a step is taken (R150): time has gone on by a free amount and never decreases, and so have all harts. -/
def ticked (s : State) : State :=
  { s with
    tick := s.tick + 1, time := BitVec.ofNat 64 (min (2 ^ 64 - 1) (s.time.toNat + (Config.nanos s.tick).toNat))
    hart := cycled s.tick s.hart, others := s.others.map (cycled s.tick) }

/-- The state with the words of the instruction that runs latched, for the trap record. -/
def latched (s : State) (w1 w2 : Nat) (pair : Bool) (pc : Word) : State :=
  { s with hart := { s.hart with ir1 := w1, ir2 := w2, irPair := pair, irPc := pc } }

/-- The hart in hand has this step's turn and is free to fetch: nothing is scheduled before it, no fault is held, nothing is in flight,
no notification is due, no reply is awaited. -/
def Fetches (s : State) : Prop :=
  s.power = .up ∧ s.turns = [] ∧ (s.agenda = [] ∨ s.tick % 2 = 0) ∧ s.hart.run = .running ∧ s.hart.held = none ∧ s.hart.request = none ∧
    notifies (ticked s) = false ∧ s.hart.inflight = [] ∧ s.hart.lap = none

end Sys2Proof.Claims

/-- R302, R133: the record in bank depth, one level deeper, the privileged view, the fetch at TVEC; the held fault of an older
instruction is reported in place of a trap. -/
def Sys2Proof.Claims.TrapEntrySavesAndEnters : Prop :=
  ∀ (s : State) (t : Trap), s.hart.depth < 2 → ¬ (t.cause = 6 ∧ t.po = true) →
    enterTrap s t = trapped s t ∧ (s.hart.held = none → takeTrap s t = trapped s t) ∧
    (∀ f, s.hart.held = some f → ∀ t', takeTrap s t' = enterTrap s (heldTrap s.hart f)) ∧
    (∀ cause sub acc elem addr, s.hart.run = .running → s.hart.held = none →
      exec (.trap cause sub acc elem addr) s = .next (trapped s (ownTrap s cause sub acc elem (BitVec.ofNat 64 addr))))

/-- R303 to R306: what the trap-record registers read in the handler. -/
def Sys2Proof.Claims.TrapRecordReads : Prop :=
  ∀ (s : State) (t : Trap), s.hart.depth < 2 → t.cause < 256 → t.sub < 256 → t.acc < 4 → t.lg < 8 → t.ents.length ≤ 4 →
    s.hart.lanes ≤ 32 → t.w1 < 2 ^ 32 → t.w2 < 2 ^ 32 → (∀ e ∈ t.ents, e.cnt.length ≤ 4 ∧ ∀ c ∈ e.cnt, c < 65536) →
    let u := trapped s t
    csrValue u 0x800 = BitVec.ofNat 64 (16 * (s.hart.depth + 1) + if s.hart.nh then 8 else 0) ∧
    csrValue u 0x900 = BitVec.ofNat 64 (t.cause + 2 ^ 8 * t.sub + 2 ^ 22 * t.acc + if t.fetch then 2 ^ 24 else 0) ∧
    csrValue u 0x901 = BitVec.ofNat 64 t.elem ∧ csrValue u 0x902 = t.addr ∧ csrValue u 0x903 = t.rpc ∧
    csrValue u 0x904 = BitVec.ofNat 64 (t.w1 + if t.pair then 2 ^ 32 * t.w2 else 0) ∧
    csrValue u 0x905 = BitVec.ofNat 64 (t.ents.length + (if t.pair then 8 else 0) + (if s.hart.priv then 256 else 0) +
      512 * ((s.hart.lanes + 7) / 8) + 4096 * t.lg) ∧
    csrValue u 0x906 = BitVec.ofNat 64 t.sec ∧ csrValue u 0x907 = BitVec.ofNat 64 t.bmap ∧
    ∀ n < 4, ∀ e, t.ents[n]? = some e →
      csrValue u (0x910 + 8 * n) = e.pc ∧ (∀ g c, e.cnt[g]? = some c → (csrValue u (0x911 + 8 * n)).toNat / 2 ^ (16 * g) % 65536 = c) ∧
      csrValue u (0x912 + 8 * n) = BitVec.ofNat 64 e.gs ∧
      (e.lap = none → csrValue u (0x913 + 8 * n) = 0) ∧
      ∀ k i, e.lap = some (k, i) → k < 65536 → i < 16 → csrValue u (0x913 + 8 * n) = BitVec.ofNat 64 (2 ^ 31 + 2 ^ 16 * i + k)

/-- R261: ecall and ebreak trap with the next address, counted. -/
def Sys2Proof.Claims.CallsTrapBehindThemselves : Prop :=
  ∀ (s : State), CanTrap s →
    let u := { s with hart := { s.hart with instret := s.hart.instret + 1 } }
    exec .ecall s = .next (trapped u { cause := 14, rpc := s.hart.pc + 4, w1 := s.hart.ir1 }) ∧
    exec .ebreak s = .next (trapped u { cause := 15, rpc := s.hart.pc + 4, w1 := s.hart.ir1 })

/-- R129, R132, R133, R118, R262: words that are no instruction, privileged forms in the other view, TRAPRET at depth 0. -/
def Sys2Proof.Claims.IllegalWordsTrap : Prop :=
  (∀ (s : State) (w1 w2 : Nat) (pair : Bool), CanTrap s →
    exec (.illegalInstruction w1 w2 (if pair then 1 else 0)) s =
      .next (trapped (latched s w1 (if pair then w2 else 0) pair (hereAddr s.hart))
        { cause := 1, rpc := s.hart.pc, w1, w2 := if pair then w2 else 0, pair })) ∧
  (∀ (s : State) (i : Instr), CanTrap s → s.hart.priv = false →
    (i = .trapret ∨ (∃ a b, i = .tlbinv a b) ∨ i = .halt ∨ ∃ a b c, i = .lanemap a b c) →
    exec i s = .next (trapped s (ownTrap s 1 0 0 0 0))) ∧
  ∀ (s : State), CanTrap s → s.hart.priv = true → s.hart.depth = 0 → exec .trapret s = .next (trapped s (ownTrap s 2 0 0 0 0))

/-- R262, R307, R308. That the two low bits of the resume address are dropped (log 21, DEDUCED) and that an entry that is skipped is not counted (log
105) are the model's choices. -/
def Obligations.TrapReturnRestores : Prop :=
  ∀ (s : State) (d : Nat), s.hart.priv = true → s.hart.depth = d + 1 → d < 2 → exec .trapret s = .next (returned s d)

/-- R326: the first steps of the swap of a paged-out page. -/
def Sys2Proof.Claims.PagedOutPagesSwap : Prop :=
  ∀ (s : State) (t : Trap), t.cause = 6 → t.po = true → s.hart.held = none → takeTrap s t = swapped s t

/-- R309, R342: the third trap writes the crash record and resets the core, its lane map kept; the thread of every hart of the core ends, each with
its event. -/
def Sys2Proof.Claims.ThirdTrapResetsTheCore : Prop :=
  ∀ (s : State) (t : Trap), s.memory.wf = true → s.hart.depth = 2 → s.hart.held = none → ¬ (t.cause = 6 ∧ t.po = true) →
    ((allHarts s).map Hart.slot).Nodup → homeAddr s (localPA s (0x17FF0000000 + 512 * s.hart.coreNo)) =
      localPA s (0x17FF0000000 + 512 * s.hart.coreNo) →
    let u := takeTrap s t
    let a := localPA s (0x17FF0000000 + 512 * s.hart.coreNo)
    (∀ h ∈ allHarts s, h.run ≠ .idle → h.coreNo = s.hart.coreNo → ∃ e ∈ u.events, e.frees = some h.slot ∧
      e.words = [BitVec.ofNat 64 (4 + h.dieNo * 2 ^ 8 + h.coreNo * 2 ^ 16 + h.idx * 2 ^ 32),
        BitVec.ofNat 64 (h.ctxid.toNat + h.ptroot.toNat % 65536 * 2 ^ 32), h.tag, BitVec.ofNat 64 (1 + h.slot * 2 ^ 32)]) ∧
    (∀ h ∈ allHarts u, h.coreNo = s.hart.coreNo → h.run = .idle) ∧
    (∀ k < 28, mgetN u.memory (a + 8 * k) 8 = ((crashDwords s t).getD k 0).toNat) ∧
    (∀ k, 224 ≤ k → k < 512 → mget u.memory (a + k) = 0) ∧
    (∀ b, (b < a ∨ a + 512 ≤ b) → mget u.memory b = mget s.memory b) ∧
    u.core.claimant = none ∧ u.core.lastAsid = none ∧ u.core.mvl = 16 ∧ u.core.afmt = .replicate 4 0 ∧ u.core.w0 = {} ∧
    u.core.w1 = {} ∧ u.core.acc = [] ∧ u.core.lanemap = s.core.lanemap ∧ u.core.crashes = s.core.crashes + 1 ∧
    u.hart.run = .idle

/-- R12, R13, R20, R21, R174 to R176. -/
def Sys2Proof.Claims.ConfigurationReadsAndWrites : Prop :=
  ∀ (s : State) (i : Instr) (xd xs1 : Nat) (old : Word) (legal : Word → Prop) (new : Word → Hart), wellFormed i = true →
    s.hart.lap = none → configuration s i = some (xd, xs1, old, legal, new) →
    (xs1 = 0 → exec i s = .next (answered s xd old)) ∧
    (xs1 ≠ 0 → legal (rx s xs1) → exec i s = .next (answered { s with hart := new (rx s xs1) } xd old)) ∧
    (xs1 ≠ 0 → ¬ legal (rx s xs1) → CanTrap s → exec i s = .next (trapped s (ownTrap s 2 0 0 0 0)))

/-- R177. -/
def Sys2Proof.Claims.VlsetGrants : Prop :=
  ∀ (s : State) (xd xs1 : Nat), xd < 32 → xs1 < 32 → s.hart.lap = none →
    let g := granted s (rx s xs1).toNat
    ∃ b : Word,
      exec (.vlset xd xs1) s =
        .next (answered { s with hart := { s.hart with bshape := b, held := noted s.hart b s.hart.vtype } } xd (BitVec.ofNat 64 g)) ∧
      (g = 0 → b = s.hart.bshape) ∧
      (1 ≤ g → g ≤ 8192 → b.toNat % 16384 = g ∧ b.toNat / 16384 = s.hart.bshape.toNat / 16384)

/-- R178, R180, R181: the frame is captured, and the program goes on behind it. -/
def Sys2Proof.Claims.LapCapturesItsFrame : Prop :=
  ∀ (s u : State) (xs1 xs2 : Nat) (fr : List (Nat × Option Nat)), xs1 < 32 → xs2 < 32 → Aligned s.hart.pc →
    fetchFrame (s.hart.pc + 4) ((rx s xs2).toNat / 2 ^ 24 % 16 + 1) s = (u, .ok fr) → (∀ p ∈ fr, FrameWord p) →
    (rx s xs1).toNat ≤ 65536 → StridesStay (capturedFrame s xs1 xs2 fr) →
    exec (.lap xs1 xs2) s = .next { u with
      hart := { u.hart with
        pc := s.hart.pc + 4 + BitVec.ofNat 64 (frameSize fr), instret := u.hart.instret + 1, waiting := false
        lap := if (rx s xs1).toNat = 0 then none else some (capturedFrame s xs1 xs2 fr) } }

/-- R178, R179: the four checks of a frame. -/
def Sys2Proof.Claims.LapRefusesBadFrames : Prop :=
  ∀ (s u : State) (xs1 xs2 : Nat), xs1 < 32 → xs2 < 32 → s.hart.held = none → s.hart.depth < 2 →
    let n := (rx s xs2).toNat / 2 ^ 24 % 16 + 1
    (∀ f va, fetchFrame (s.hart.pc + 4) n s = (u, .error (f, va)) → f.po = false →
      exec (.lap xs1 xs2) s = .next (trapped u
        { cause := f.cause, sub := f.sub, acc := 2, fetch := true, addr := va, rpc := s.hart.pc, w1 := s.hart.ir1 })) ∧
    ∀ fr, fetchFrame (s.hart.pc + 4) n s = (u, .ok fr) →
      (∀ as p bs, fr = as ++ p :: bs → (∀ q ∈ as, FrameWord q) → ¬ FrameWord p →
        exec (.lap xs1 xs2) s = .next (trapped u
          { cause := 1, rpc := s.hart.pc, w1 := p.1, w2 := p.2.getD 0, pair := p.2.isSome })) ∧
      ((∀ p ∈ fr, FrameWord p) → 65536 < (rx s xs1).toNat ∨ ¬ StridesStay (capturedFrame s xs1 xs2 fr) →
        exec (.lap xs1 xs2) s = .next (trapped u (ownTrap s 2 0 0 0 0)))

/-- R180: the instances of a frame: which comes next, which words it runs, and that its end leads behind the frame. -/
def Sys2Proof.Claims.FrameInstancesFollow : Prop :=
  ∀ (s : State) (l : Lap) (n : Nat), s.hart.lap = some l → l.idx < l.frame.length → l.k < l.count →
    (advance s n).hart.pc = s.hart.pc ∧
    (advance s n).hart.lap = (if l.idx + 1 < l.frame.length then some { l with idx := l.idx + 1 }
      else if l.k + 1 < l.count then some { l with idx := 0, k := l.k + 1 } else none) ∧
    ∀ p, l.frame[l.idx]? = some p → StridesStay l →
      let w := if p.2.isSome then (instanceWords l).2.getD 0 else (instanceWords l).1
      let w0 := p.2.getD p.1
      let b := brickFields w0
      (p.2.isSome → (instanceWords l).1 = p.1) ∧
      ((w / 2 ^ 21 % 32 : Nat) : Int) = (w0 / 2 ^ 21 % 32 : Nat) + (if b.1 then l.k * l.sd else 0) ∧
      ((w / 2 ^ 16 % 32 : Nat) : Int) = (w0 / 2 ^ 16 % 32 : Nat) + (if b.2.1 then l.k * l.s1 else 0) ∧
      ((w / 2 ^ 11 % 32 : Nat) : Int) = (w0 / 2 ^ 11 % 32 : Nat) + (if b.2.2 then l.k * l.s2 else 0) ∧
      w % 2 ^ 11 = w0 % 2 ^ 11 ∧ w / 2 ^ 26 = w0 / 2 ^ 26

/-- R118, R132, R305: a fetch at the program counter that fails. A fault of the translation, or a word that its home cannot give, is reported with the
program counter as the address and as the resume PC; a word that is no instruction runs as one. -/
def Sys2Proof.Claims.FailedFetchesTrap : Prop :=
  ∀ (s u : State), Fetches s →
    (∀ f : AccFault, CanTrap s → f.po = false → translate (hartView s) 2 s.hart.pc.toNat (ticked s) = (u, .error f) →
      step s = .next (trapped u { cause := f.cause, sub := f.sub, acc := 2, fetch := true, addr := s.hart.pc, rpc := s.hart.pc
                                  w1 := Config.trapWord u.tick })) ∧
    ∀ pa, translate (hartView s) 2 s.hart.pc.toNat (ticked s) = (u, .ok pa) →
      (uncorrectable u pa 4 = true → CanTrap s →
        step s = .next (trapped (lastingError u pa 4)
          { cause := if paModule pa = ownModule u then 12 else 11, sub := 6, acc := 2, fetch := true, addr := s.hart.pc, rpc := s.hart.pc
            w1 := Config.trapWord u.tick })) ∧
      ∀ e, uncorrectable u pa 4 = false → isOfs (littleEndian (homeBytes u pa 4)) = false → decode (homeBytes u pa 4) = .error e →
        step s = exec (.illegalInstruction (littleEndian (homeBytes u pa 4)) 0 0) u

/-- R118, R132, R143, R144, R305: branches and jumps, and the fetch that finds no instruction at the place they lead to. What TWORD holds where a fetch
faulted is open (log 11); that a fetch gets the value its home holds now (log 95) and the time that a step takes (log 7) are the model's choices. -/
def Obligations.ControlTransfers : Prop := BranchesGoWhereTheConditionSays ∧ JumpsLinkAndGo ∧ FailedFetchesTrap

/-- R117, R118, R305, R394: what stands at the program counter runs, after the time of the step has passed; a second word that faults is reported
with the prefix word. That a fetch gets the value its home holds now is the model's choice (log 95), and so are the amounts of time (log 7). -/
def Obligations.StepRunsTheDecodedInstruction : Prop :=
  ∀ (s u : State) (pa : Nat) (i : Instr), Fetches s → translate (hartView s) 2 s.hart.pc.toNat (ticked s) = (u, .ok pa) →
    uncorrectable u pa 4 = false →
    (decode (homeBytes u pa 4) = .ok (i, 4) →
      step s = exec i (latched u (littleEndian (homeBytes u pa 4)) 0 false s.hart.pc)) ∧
    (∀ (v : State) (pb : Nat), isOfs (littleEndian (homeBytes u pa 4)) = true →
      translate (hartView s) 2 (s.hart.pc + 4).toNat u = (v, .ok pb) → uncorrectable v pb 4 = false →
      decode (homeBytes u pa 4 ++ homeBytes v pb 4) = .ok (i, 8) →
      step s = exec i (latched v (littleEndian (homeBytes u pa 4)) (littleEndian (homeBytes v pb 4)) true s.hart.pc)) ∧
    ∀ (v : State) (f : AccFault), isOfs (littleEndian (homeBytes u pa 4)) = true → CanTrap s → f.po = false →
      translate (hartView s) 2 (s.hart.pc + 4).toNat u = (v, .error f) →
      step s = .next (trapped v { cause := f.cause, sub := f.sub, acc := 2, fetch := true, addr := s.hart.pc + 4, rpc := s.hart.pc
                                  w1 := littleEndian (homeBytes u pa 4) })

namespace Sys2Proof.Claims

/-- Whether an instruction with words `w1`, `w2` issues while the hart holds a fault (R36, R37, R133 to R136, R154, R188, R212; log 3): fewer than 380
have; no in-flight instruction may leave a mask or a scalar register; and it touches no memory and no special state, or a slot is free, shape and type
have stood still, and no older instruction makes it wait. -/
def GoesOn (h : Hart) (w1 w2 : Nat) : Prop :=
  let w := if isOfs w1 then w2 else w1
  let m := w / 2 ^ 26 % 64
  let older (e : Entry) : Nat := if e.pair then e.w2 else e.w1
  let om (e : Entry) : Nat := older e / 2 ^ 26 % 64
  (∀ f, h.held = some f → f.behind < 380) ∧
    (∀ e ∈ h.inflight, om e ≠ 0x14 ∧ om e ≠ 0x15 ∧ om e ≠ 0x1A ∧ ¬ (om e = 0x1B ∧ older e % 8 = 1)) ∧
    ((1 ≤ m ∧ m ≤ 9) ∨ m = 0x0C ∨ m = 0x0D ∨ m = 0x0E ∨ m = 0x1D ∨
      (((0x10 ≤ m ∧ m ≤ 0x1C ∧ m ≠ 0x15) ∨ (0x1F ≤ m ∧ m ≤ 0x22) ∨ m = 0x28) ∧ h.inflight.length < 4 ∧
        (∀ f, h.held = some f → f.reshaped = false) ∧
        ∀ e ∈ h.inflight, e.cap.bshape = h.bshape ∧ e.cap.vtype = h.vtype ∧ ¬ (m = 0x28 ∧ (om e = 0x27 ∨ om e = 0x28)) ∧
          ¬ (m = 0x1F ∧ w / 2 % 2 = 0 ∧ 0x1F ≤ om e ∧ om e ≤ 0x21 ∧ older e / 2 ^ 17 % 16 = w / 2 ^ 17 % 16)))

/-- One more instruction has issued behind the fault that is held. -/
def behindOne (s : State) : State :=
  { s with hart := { s.hart with held := s.hart.held.map fun f => { f with behind := f.behind + 1 } } }

/-- What the turn of the hart in hand answers in a state without a held fault, a reply to await or a notification that is due. -/
def FreeTurn (t : State) (r : Host.Outcome State Fault Refusal) : Prop :=
  (t.hart.inflight ≠ [] → r = exec .elementGroupCommit t) ∧
  (∀ l i n, t.hart.inflight = [] → t.hart.lap = some l → decodePair (instanceWords l).1 ((instanceWords l).2.getD 0) = .ok (i, n) →
    r = exec i (latched t (instanceWords l).1 (if isOfs (instanceWords l).1 then (instanceWords l).2.getD 0 else 0) (isOfs (instanceWords l).1)
      (instanceAddr l))) ∧
  ∀ (u : State) (pa : Nat) (i : Instr), t.hart.inflight = [] → t.hart.lap = none →
    translate (hartView t) 2 t.hart.pc.toNat t = (u, .ok pa) → uncorrectable u pa 4 = false → decode (homeBytes u pa 4) = .ok (i, 4) →
    r = exec i (latched u (littleEndian (homeBytes u pa 4)) 0 false t.hart.pc)

/-- What it answers while a fault is held: the trap is taken when a notification is due, when the next instruction may not issue behind the fault, or
when there is none, for its fetch fails or its words are no instruction; otherwise that instruction issues. -/
def HeldTurn (t : State) (f : Held) (r : Host.Outcome State Fault Refusal) : Prop :=
  (notifies t = true → r = .next (enterTrap t (heldTrap t.hart f))) ∧
  (notifies t = false →
    (∀ l, t.hart.lap = some l →
      let w1 := (instanceWords l).1
      let w2 := (instanceWords l).2.getD 0
      (∀ i n, decodePair w1 w2 = .ok (i, n) → GoesOn t.hart w1 w2 →
        r = exec i (latched (behindOne t) w1 (if isOfs w1 then w2 else 0) (isOfs w1) (instanceAddr l))) ∧
      ((¬ GoesOn t.hart w1 w2 ∨ ∃ e, decodePair w1 w2 = .error e) → r = .next (enterTrap t (heldTrap t.hart f)))) ∧
    (t.hart.lap = none → ∀ (u : State),
      (∀ e, translate (hartView t) 2 t.hart.pc.toNat t = (u, .error e) → r = .next (enterTrap u (heldTrap t.hart f))) ∧
      ∀ (pa : Nat), translate (hartView t) 2 t.hart.pc.toNat t = (u, .ok pa) → let w1 := littleEndian (homeBytes u pa 4)
        (uncorrectable u pa 4 = true → r = .next (enterTrap (lastingError u pa 4) (heldTrap t.hart f))) ∧
        (uncorrectable u pa 4 = false → isOfs w1 = false →
          ((¬ GoesOn t.hart w1 0 ∨ ∃ e, decode (homeBytes u pa 4) = .error e) → r = .next (enterTrap u (heldTrap t.hart f))) ∧
          ∀ i, decode (homeBytes u pa 4) = .ok (i, 4) → GoesOn t.hart w1 0 → r = exec i (latched (behindOne u) w1 0 false t.hart.pc)) ∧
        ∀ (v : State) (pb : Nat), uncorrectable u pa 4 = false → isOfs w1 = true →
          translate (hartView t) 2 (t.hart.pc + 4).toNat u = (v, .ok pb) → uncorrectable v pb 4 = false →
          let w2 := littleEndian (homeBytes v pb 4)
          let both := homeBytes u pa 4 ++ homeBytes v pb 4
          ((¬ GoesOn t.hart w1 w2 ∨ ∃ e, decode both = .error e) → r = .next (enterTrap v (heldTrap t.hart f))) ∧
          ∀ i, decode both = .ok (i, 8) → GoesOn t.hart w1 w2 → r = exec i (latched (behindOne v) w1 w2 true t.hart.pc)))

/-- What the turn of the hart in hand answers. -/
def HartTurn (t : State) (r : Host.Outcome State Fault Refusal) : Prop :=
  (t.hart.run ≠ .running → r = .next t) ∧
  (t.hart.run = .running →
    (t.hart.request ≠ none → r = .next t) ∧
    (t.hart.request = none →
      (∀ f, t.hart.held = some f → HeldTurn t f r) ∧
      (t.hart.held = none →
        (notifies t = true → r = exec .notification t) ∧ (notifies t = false → FreeTurn t r))))

/-- The rows that act on a module that has power and has not booted (R388 to R390): BOOT, FREEZE, the test port, and what takes the power away. -/
def ActsBeforeBoot : Instr → Prop
  | .boot _ _ _ | .freeze | .bypass _ | .idcode | .chain _ | .powerLoss | .thermalTrip => True
  | .throttle _ t => trips t = true
  | _ => False

/-- The inputs that need firmware: what other modules ask for (R390). -/
def NeedsFirmware : Input → Prop
  | .request _ | .pathLost _ | .pageIn _ _ _ _ _ | .frameReleased _ => True
  | _ => False

/-- R388 to R390, R394: a row without a word and an input act when their turn is scheduled, those that need firmware only once the module has booted. -/
def OutsideTurns : Prop :=
  ∀ (s : State), s.power = .up →
    (∀ i rest, s.turns = .event i :: rest →
      (wordless i = true → (s.regs.booted = true ∨ ActsBeforeBoot i) → step s = exec i { ticked s with turns := rest }) ∧
      (wordless i = false ∨ (s.regs.booted = false ∧ ¬ ActsBeforeBoot i) → step s = .next { ticked s with turns := rest })) ∧
    ∀ x rest, s.turns = .input x :: rest →
      ((s.regs.booted = true ∨ ¬ NeedsFirmware x) → step s = .next (execInput x { ticked s with turns := rest })) ∧
      (s.regs.booted = false → NeedsFirmware x → step s = .next { ticked s with turns := rest })

/-- The first act that waits is performed, in a turn that the schedule gives or in every other one of its own. -/
def EngineTurns : Prop :=
  ∀ (s : State), s.power = .up →
    (∀ rest i acts, s.turns = .engine :: rest → s.agenda = i :: acts → step s = exec i { ticked s with turns := rest, agenda := acts }) ∧
    (∀ rest, s.turns = .engine :: rest → s.agenda = [] → step s = .next { ticked s with turns := rest }) ∧
    ∀ i acts, s.turns = [] → s.agenda = i :: acts → s.tick % 2 = 1 → step s = exec i { ticked s with agenda := acts }

/-- The hart in hand has the other turns, and the hart of a slot the one that names it. -/
def HartTurns : Prop :=
  ∀ (s : State), s.power = .up →
    (s.turns = [] → (s.agenda = [] ∨ s.tick % 2 = 0) → HartTurn (ticked s) (step s)) ∧
    ∀ n rest, s.turns = .hart n :: rest → HartTurn (focus { ticked s with turns := rest } n) (step s)

/-- The hart of a slot comes into hand with its core and its die, the one that was in hand joins the others, and nothing else changes. -/
def FocusTakesUpTheHart : Prop :=
  ∀ (s : State) (n : Nat), ((allHarts s).map Hart.slot).Nodup →
    (s.hart.slot = n → focus s n = s) ∧
    (∀ h ∈ s.others, h.slot = n →
      (focus s n).hart = h ∧ (focus s n).others = s.hart :: s.others.filter (fun x => x.slot != n) ∧
      (focus s n).core = coreAt s h.coreNo ∧ (focus s n).die = dieAt s h.dieNo ∧
      (focus s n).memory = s.memory ∧ (focus s n).time = s.time ∧ (focus s n).turns = s.turns ∧ (focus s n).agenda = s.agenda) ∧
    ((∀ h ∈ allHarts s, h.slot ≠ n) → focus s n = s)

end Sys2Proof.Claims

/-- R36, R37, R180, R258, R302, R388 to R390: the other turns of a step: the outside world before boot and after, an act that waits, a hart of another
slot, a notification, an in-flight instruction, an instance of a frame, a fault that is held, a reply that is awaited. Whose turn it is, is the model's
choice (log 6), and so are what issues behind a held fault (log 3) and that a notification fires while a form waits (log 106). -/
def Obligations.StepTakesTheOtherTurns : Prop := OutsideTurns ∧ EngineTurns ∧ HartTurns ∧ FocusTakesUpTheHart

/-- R118, R129, R132, R133, R261, R262, R302 to R306: entering a trap, what its record reads; calls, illegal words, privileged forms in the other
view. -/
def Obligations.TrapEntry : Prop := TrapEntrySavesAndEnters ∧ TrapRecordReads ∧ CallsTrapBehindThemselves ∧ IllegalWordsTrap

/-- R309, R326, R342: the swap of a paged-out page, the third trap. That a swap at depth 2 or more leaves its record in a bank of its own is the model's
choice (log 12). -/
def Obligations.SwapsAndCrashes : Prop := PagedOutPagesSwap ∧ ThirdTrapResetsTheCore

/-- R174 to R177: the configuration forms and vlset, and MAXVL (R11), which follows VTYPE. A fault that is held notes a change of shape or type, so that
what is younger waits (R154). -/
def Obligations.ShapesAndLengths : Prop :=
  ConfigurationReadsAndWrites ∧ VlsetGrants ∧
    ∀ s : State, csrValue s 0x012 = BitVec.ofNat 64 (256 * s.hart.lanes / etypeSize (s.hart.vtype.toNat % 16))

/-- R178 to R181: a frame captured, refused, followed. -/
def Obligations.FramesRepeat : Prop := LapCapturesItsFrame ∧ LapRefusesBadFrames ∧ FrameInstancesFollow

namespace Sys2Proof.Claims

open Sys2Proof.Machine

/-! Numbers (R73 to R98): values as rationals, rounding between neighbours. -/

/-- A magnitude m · 2^e, and an exact value that is finite. -/
def mag (m : Nat) (e : Int) : ℚ := m * 2 ^ e

def ratOf : Machine.Num → ℚ
  | .fin s m e => if s then -mag m e else mag m e
  | _ => 0

/-- The vector float types (R76) and the OCP formats (R85). -/
def vectorFloats : List Fmt := [f64, f32, f16, bf16]

def floatFormats : List Fmt := vectorFloats ++ [e4m3, e5m2, e2m3, e3m2, e2m1]

/-- The formats of elements: integers, floats, the tapered family (R83, R87, R88). -/
def IsElem : Elem → Prop
  | .int w _ => 1 ≤ w ∧ w ≤ 64
  | .flt f => f ∈ floatFormats
  | .tap N M => (N, M) ∈ [(8, 0), (8, 1), (8, 2), (6, 0), (6, 1)]
  | .tapAlt => True

/-- The magnitude of a code without its sign, in the format continued above its largest value (R76, R78, R85): E and F are the code's upper
and lower bits. -/
def magnitude (f : Fmt) (c : Nat) : ℚ :=
  let F : Nat := c % 2 ^ f.fb
  let E : Nat := c / 2 ^ f.fb
  if E = 0 then (F : ℚ) / 2 ^ f.fb * 2 ^ (1 - (f.bias : ℤ)) else (1 + (F : ℚ) / 2 ^ f.fb) * 2 ^ ((E : ℤ) - f.bias)

/-- The run of equal bits at the top of the `n` bits of a tapered magnitude (R86). -/
def regime (n m : Nat) : Nat := ((List.range n).takeWhile fun i => m.testBit (n - 1 - i) == m.testBit (n - 1)).length

/-- The magnitude of a tapered code that is not 0 (R86): regime, exponent, fraction. -/
def tapered (N M m : Nat) : ℚ :=
  let n := N - 1
  let k := regime n m
  let r : ℤ := if m.testBit (n - 1) then k - 1 else -k
  let left := n - k - 1
  let ex : Nat := (List.range M).foldl (fun x i => 2 * x + if i < left ∧ m.testBit (left - 1 - i) = true then 1 else 0) 0
  let F : ℚ := if M < left then (m % 2 ^ (left - M) : Nat) / 2 ^ (left - M) else 0
  2 ^ (r * 2 ^ M + ex) * (1 + F)

def taperedOr0 (N M c : Nat) : ℚ := if c = 0 then 0 else tapered N M c

/-- Whether rounding of a magnitude between its neighbours `a` and `b` takes the upper one (R74, R80, R82). -/
def TakesUpper (mode u : Nat) (neg even : Bool) (a b : ℚ) (x : ℝ) : Prop :=
  match mode with
  | 0 => b - x < x - a ∨ (b - x = x - a ∧ even = false)
  | 1 => False
  | 2 => neg = false
  | 3 => neg = true
  | _ => (u : ℤ) < ⌊(x - a) / (b - a) * 2 ^ 32⌋

/-- `k` is the code that a magnitude rounds to, from the code `c` at or below it, in a scale of magnitudes. -/
def PicksCode (scale : Nat → ℚ) (mode u : Nat) (neg : Bool) (x : ℝ) (c k : Nat) : Prop :=
  scale c ≤ x ∧ x < scale (c + 1) ∧
    ((x = scale c ∧ k = c) ∨ (x ≠ scale c ∧ TakesUpper mode u neg (c % 2 == 0) (scale c) (scale (c + 1)) x ∧ k = c + 1) ∨
      (x ≠ scale c ∧ ¬ TakesUpper mode u neg (c % 2 == 0) (scale c) (scale (c + 1)) x ∧ k = c))

/-- Whether a magnitude, rounded at the precision of the format with an unbounded exponent range, lies below the smallest normal one (R78). -/
def IsTiny (f : Fmt) (mode u : Nat) (neg : Bool) (x : ℝ) : Prop :=
  let normal := magnitude f (2 ^ f.fb)
  let under := normal - normal / 2 ^ (f.fb + 1)
  x < normal ∧ ¬ (under < x ∧ TakesUpper mode u neg false under normal x)

/-- Encoding and flags of a magnitude above 0 with a sign rounded into a float format (R78 to R80, R82, R93). `sat` keeps an overflow
finite (R225). -/
def RoundsTo (f : Fmt) (mode u : Nat) (ftz sat neg : Bool) (x : ℝ) (r : Nat × Nat) : Prop :=
  ∃ c k, PicksCode (magnitude f) mode u neg x c k ∧
    let sign := if neg then 2 ^ (f.w - 1) else 0
    (f.maxCode < k → r = (sign + if f.special = .ieee ∧ sat = false ∧ (mode = 0 ∨ mode = 4 ∨ (mode = 2 ∧ neg = false) ∨ (mode = 3 ∧ neg = true))
      then f.maxCode + 1 else f.maxCode, 5)) ∧
    (k ≤ f.maxCode → ftz = true ∧ f.special = .ieee ∧ 0 < k ∧ k < 2 ^ f.fb → r = (sign, 3)) ∧
    (k ≤ f.maxCode → ¬ (ftz = true ∧ f.special = .ieee ∧ 0 < k ∧ k < 2 ^ f.fb) →
      r.1 = sign + k ∧ ((x = magnitude f c ∧ r.2 = 0) ∨ (x ≠ magnitude f c ∧ IsTiny f mode u neg x ∧ r.2 = 3) ∨
        (x ≠ magnitude f c ∧ ¬ IsTiny f mode u neg x ∧ r.2 = 1)))

/-- A value rounded to an integer of a format (R95). -/
def IntegerFrom (w : Nat) (sg : Bool) (mode u : Nat) (neg : Bool) (x : ℝ) (r : Nat × Nat) : Prop :=
  ∃ c k, PicksCode (fun n => n) mode u neg x c k ∧
    let y : ℤ := if neg then -k else k
    let lo : ℤ := if sg then -2 ^ (w - 1) else 0
    let hi : ℤ := if sg then 2 ^ (w - 1) - 1 else 2 ^ w - 1
    (y < lo → r = ((lo % 2 ^ w).toNat, 16)) ∧ (hi < y → r = ((hi % 2 ^ w).toNat, 16)) ∧
      (lo ≤ y → y ≤ hi → r.1 = (y % 2 ^ w).toNat ∧ ((x = c ∧ r.2 = 0) ∨ (x ≠ c ∧ r.2 = 1)))

/-- A magnitude above 0 with a sign rounded into a tapered format (R89). -/
def TaperedFrom (N M mode u : Nat) (neg : Bool) (x : ℝ) (r : Nat × Nat) : Prop :=
  let top := 2 ^ (N - 1) - 1
  let signed (k : Nat) := if k = 0 then 0 else if neg then 2 ^ (N - 1) + k else k
  (taperedOr0 N M top < x → r = (signed top, 5)) ∧
  (x = taperedOr0 N M top → r = (signed top, 0)) ∧
  (x < taperedOr0 N M top → ∃ c k, c < top ∧ PicksCode (taperedOr0 N M) mode u neg x c k ∧
    r.1 = signed k ∧ ((x = taperedOr0 N M c ∧ r.2 = 0) ∨ (x < taperedOr0 N M 1 ∧ r.2 = 3) ∨
      (x ≠ taperedOr0 N M c ∧ taperedOr0 N M 1 ≤ x ∧ r.2 = 1)))

/-- What a value is delivered as in a format (R77, R80, R89, R93, R95). A float source that gives the nearest bound of an integer format sets nv
alone (the model's choice where R78 could be read to set of too: log 93). -/
def Delivers (d : Elem) (mode u : Nat) (ftz sat : Bool) (v : Machine.Num) (r : Nat × Nat) : Prop :=
  match d, v with
  | .flt f, .fin s m e => (m = 0 → r = (if s then 2 ^ (f.w - 1) else 0, 0)) ∧ (m ≠ 0 → RoundsTo f mode u ftz sat s (mag m e : ℚ) r)
  | .flt f, .inf s => r = ((if s then 2 ^ (f.w - 1) else 0) + (if f.special = .ieee then f.maxCode + 1 else f.maxCode),
      if f.special = .ieee then 0 else 4)
  | .flt f, .nan l => r = (f.canonNaN, if f.special = .finite ∨ l = true then 16 else 0)
  | .int _ _, .nan _ => r = (0, 16)
  | .int w sg, .inf s => r = (if sg then (if s then 2 ^ (w - 1) else 2 ^ (w - 1) - 1) else if s then 0 else 2 ^ w - 1, 16)
  | .int w sg, .fin s m e => IntegerFrom w sg mode u s (mag m e : ℚ) r
  | .tap N _, .nan _ => r = (2 ^ (N - 1), 16)
  | .tap N _, .inf s => r = (if s then 2 ^ N - 1 else 2 ^ (N - 1) - 1, 4)
  | .tap N M, .fin s m e => (m = 0 → r = (0, 0)) ∧ (m ≠ 0 → TaperedFrom N M mode u s (mag m e : ℚ) r)
  | .tapAlt, .nan _ => r = (32, 16)
  | .tapAlt, .inf s => r = (if s then 63 else 31, 4)
  | .tapAlt, .fin s m e =>
    let x := ratOf (.fin s m e) - 1
    (x = 0 → r = (0, 0)) ∧ (x ≠ 0 → TaperedFrom 6 1 mode u (decide (x < 0)) (|x| : ℚ) r)

/-- What an encoding of a format stands for (R76, R77, R83, R85, R86, R88). -/
def Decodes (d : Elem) (b : Nat) (v : Machine.Num) : Prop :=
  match d with
  | .int w sg => (∃ s m e, v = .fin s m e) ∧ ratOf v = if sg then (signedField w (b % 2 ^ w) : ℚ) else (b % 2 ^ w : Nat)
  | .flt f =>
    let c := b % 2 ^ (f.w - 1)
    let neg := b.testBit (f.w - 1)
    match v with
    | .fin s m e => c ≤ f.maxCode ∧ s = neg ∧ mag m e = magnitude f c
    | .inf s => (f.special = .ieee ∨ f.special = .saturating) ∧ c = f.maxCode + 1 ∧ s = neg
    | .nan l => f.maxCode < c ∧ (f.special ≠ .oneNaN → c ≠ f.maxCode + 1) ∧ (f.special = .ieee → (l = true ↔ c.testBit (f.fb - 1) = false))
  | .tap N M =>
    let c := b % 2 ^ (N - 1)
    match v with
    | .fin s m e => ratOf (.fin s m e) = (if b.testBit (N - 1) then -taperedOr0 N M c else taperedOr0 N M c) ∧
        (c = 0 → b.testBit (N - 1) = false ∧ s = false)
    | .inf _ => False
    | .nan l => c = 0 ∧ b.testBit (N - 1) = true ∧ l = true
  | .tapAlt =>
    let c := b % 32
    match v with
    | .fin s m e => ratOf (.fin s m e) = 1 + (if b.testBit 5 then -taperedOr0 6 1 c else taperedOr0 6 1 c) ∧ (c = 0 → b.testBit 5 = false)
    | .inf _ => False
    | .nan l => c = 0 ∧ b.testBit 5 = true ∧ l = true

/-- Whether a value raises nv when it is read: a signalling NaN or NaV (R78). -/
def loudFlag (a b : Machine.Num) : Nat := if a.loud || b.loud then 16 else 0

/-- The value read under FTZ by a conversion between floats (R79; log 94 where one of them is an OCP or tapered format). -/
def readFor (src dst : Elem) (ftz : Bool) (b : Nat) : Machine.Num :=
  match src, dst with
  | _, .int _ _ => src.decode b
  | .flt f, _ => if ftz = true ∧ f.special = .ieee ∧ b % 2 ^ (f.w - 1) < 2 ^ f.fb then .fin (b.testBit (f.w - 1)) 0 0 else src.decode b
  | _, _ => src.decode b

end Sys2Proof.Claims

/-- R76, R77, R83, R85, R86, R88, R90: every encoding of every format decodes to the value it stands for. -/
def Sys2Proof.Claims.EncodingsDecodeToTheirValues : Prop :=
  (∀ (d : Elem) (b : Nat), IsElem d → b < 2 ^ d.width → Decodes d b (d.decode b)) ∧
  (magnitude f64 f64.maxCode = (2 - 1 / 2 ^ 52) * 2 ^ 1023 ∧ magnitude f32 f32.maxCode = (2 - 1 / 2 ^ 23) * 2 ^ 127 ∧
    magnitude f16 f16.maxCode = 65504 ∧ magnitude bf16 bf16.maxCode = (2 - 1 / 2 ^ 7) * 2 ^ 127 ∧
    magnitude e4m3 e4m3.maxCode = 448 ∧ magnitude e5m2 e5m2.maxCode = 57344 ∧ magnitude e2m3 e2m3.maxCode = 15 / 2 ∧
    magnitude e3m2 e3m2.maxCode = 28 ∧ magnitude e2m1 e2m1.maxCode = 6 ∧
    tapered 8 0 127 = 2 ^ 6 ∧ tapered 8 1 127 = 2 ^ 12 ∧ tapered 8 2 127 = 2 ^ 24 ∧ tapered 6 0 31 = 2 ^ 4 ∧ tapered 6 1 31 = 2 ^ 8) ∧
  f64.canonNaN = 0x7FF8000000000000 ∧ f32.canonNaN = 0x7FC00000 ∧ f16.canonNaN = 0x7E00 ∧ bf16.canonNaN = 0x7FC0 ∧
    e4m3.canonNaN = 0x7F ∧ e5m2.canonNaN = 0x7E

/-- R74, R77 to R80, R82, R89, R93, R95: every value is delivered in every format as its neighbours, the mode and the draw say. -/
def Sys2Proof.Claims.ValuesAreDeliveredRounded : Prop :=
  ∀ (d : Elem) (mode u : Nat) (ftz sat : Bool) (v : Machine.Num), IsElem d → mode ≤ 4 → u < 2 ^ 32 →
    Delivers d mode u ftz sat v (d.ofNum mode u ftz sat v)

/-- R79, R83, R95, R167: conversions between any two formats. -/
def Sys2Proof.Claims.ConversionsDeliver : Prop :=
  ∀ (src dst : Elem) (mode u : Nat) (ftz sat : Bool) (b : Nat), IsElem src → IsElem dst → mode ≤ 4 → u < 2 ^ 32 → b < 2 ^ src.width →
    (∀ w sg w' sg', src = .int w sg → dst = .int w' sg' →
      let v : ℤ := if sg then signedField w b else b
      let lo : ℤ := if sg' then -2 ^ (w' - 1) else 0
      let hi : ℤ := if sg' then 2 ^ (w' - 1) - 1 else 2 ^ w' - 1
      convert src dst mode u ftz sat b = (((if sat then max lo (min hi v) else v) % 2 ^ w').toNat, 0)) ∧
    ((∀ w sg w' sg', ¬ (src = .int w sg ∧ dst = .int w' sg')) → Delivers dst mode u ftz sat (readFor src dst ftz b) (convert src dst mode u ftz sat b))

/-- R77, R78, R80, R161, R163: sums and products are exact, and what infinities and NaNs give. -/
def Sys2Proof.Claims.SumsAndProductsAreExact : Prop :=
  ∀ (rdn : Bool) (a b : Machine.Num),
    (a.isNaN = true ∨ b.isNaN = true → addNum rdn a b = (.nan false, loudFlag a b) ∧ mulNum a b = (.nan false, loudFlag a b)) ∧
    (∀ s t, a = .inf s → b = .inf t → addNum rdn a b = (if s = t then (.inf s, 0) else (.nan false, 16)) ∧ mulNum a b = (.inf (s != t), 0)) ∧
    (∀ s t m e, a = .inf s → b = .fin t m e →
      addNum rdn a b = (.inf s, 0) ∧ addNum rdn b a = (.inf s, 0) ∧
      mulNum a b = (if m = 0 then (.nan false, 16) else (.inf (s != t), 0)) ∧ mulNum b a = mulNum a b) ∧
    ∀ s m e t n f, a = .fin s m e → b = .fin t n f →
      (∃ v k g, addNum rdn a b = (.fin v k g, 0) ∧ ratOf (.fin v k g) = ratOf a + ratOf b ∧ (k = 0 → v = if s = t then s else rdn)) ∧
      ∃ k g, mulNum a b = (.fin (s != t) k g, 0) ∧ ratOf (.fin (s != t) k g) = ratOf a * ratOf b

/-- R78, R161: quotients and square roots, rounded once, and what zeros, infinities and NaNs give. -/
def Sys2Proof.Claims.QuotientsAndRootsAreRounded : Prop :=
  ∀ (f : Fmt) (mode u : Nat) (ftz : Bool) (a b : Machine.Num), f ∈ vectorFloats → mode ≤ 4 → u < 2 ^ 32 →
    let sign (s : Bool) : Nat := if s then 2 ^ (f.w - 1) else 0
    (a.isNaN = true ∨ b.isNaN = true → divRound f mode u ftz a b = (f.canonNaN, loudFlag a b)) ∧
    (∀ s t, a = .inf s → b = .inf t → divRound f mode u ftz a b = (f.canonNaN, 16)) ∧
    (∀ s t m e, a = .inf s → b = .fin t m e →
      divRound f mode u ftz a b = (sign (s != t) + f.maxCode + 1, 0) ∧ divRound f mode u ftz b a = (sign (s != t), 0)) ∧
    (∀ s m e t n g, a = .fin s m e → b = .fin t n g →
      (n = 0 → divRound f mode u ftz a b = if m = 0 then (f.canonNaN, 16) else (sign (s != t) + f.maxCode + 1, 8)) ∧
      (n ≠ 0 → m = 0 → divRound f mode u ftz a b = (sign (s != t), 0)) ∧
      (n ≠ 0 → m ≠ 0 → RoundsTo f mode u ftz false (s != t) ((mag m e : ℚ) / (mag n g : ℚ)) (divRound f mode u ftz a b))) ∧
    (∀ l, a = .nan l → sqrtRound f mode u ftz a = (f.canonNaN, if l then 16 else 0)) ∧
    (∀ s, a = .inf s → sqrtRound f mode u ftz a = if s then (f.canonNaN, 16) else (f.maxCode + 1, 0)) ∧
    ∀ s m e, a = .fin s m e →
      (m = 0 → sqrtRound f mode u ftz a = (sign s, 0)) ∧
      (m ≠ 0 → s = true → sqrtRound f mode u ftz a = (f.canonNaN, 16)) ∧
      (m ≠ 0 → s = false → RoundsTo f mode u ftz false false (Real.sqrt (mag m e : ℚ)) (sqrtRound f mode u ftz a))

/-- R81, R162, R165: the order of values, the smaller and the larger one, and the draw of an element. -/
def Sys2Proof.Claims.OrderAndDraw : Prop :=
  (∀ a b : Machine.Num, a.isNaN = false → b.isNaN = false →
    (∀ s m e t n f, a = .fin s m e → b = .fin t n f → (numLt a b = true ↔ ratOf a < ratOf b) ∧ (numEq a b = true ↔ ratOf a = ratOf b)) ∧
    (∀ s, a = .inf s → (numLt a b = true ↔ s = true ∧ b ≠ .inf true) ∧ (numEq a b = true ↔ b = .inf s) ∧
      (numLt b a = true ↔ s = false ∧ b ≠ .inf false)) ∧
    ∀ mx, ∃ r, minMaxNum mx false a b = (r, 0) ∧ (r = a ∨ r = b) ∧
      (if mx then numLt r a = false ∧ numLt r b = false else numLt a r = false ∧ numLt b r = false) ∧
      (numEq a b = true → a.isNeg ≠ b.isNeg → r.isNeg = !mx)) ∧
  (∀ (mx prop : Bool) (a b : Machine.Num), a.isNaN = true ∨ b.isNaN = true →
    minMaxNum mx prop a b = (if prop || (a.isNaN && b.isNaN) then .nan false else if a.isNaN then b else a, loudFlag a b)) ∧
  ∀ (seed : Word) (e : Nat),
    let z := (seed.toNat + (e + 1) * 0x9E3779B97F4A7C15) % 2 ^ 64
    let z := (z ^^^ (z / 2 ^ 30)) * 0xBF58476D1CE4E5B9 % 2 ^ 64
    let z := (z ^^^ (z / 2 ^ 27)) * 0x94D049BB133111EB % 2 ^ 64
    drawU seed e = (z ^^^ (z / 2 ^ 31)) / 2 ^ 32

/-- R73 to R95, R161 to R165: what the number formats hold, and how values are rounded, converted, divided, rooted and ordered. That e5m2 has
signalling NaNs is log 24, that an infinity converted to a format without one sets of alone log 25, that a tiny result sets uf when it rounds to
zero log 26, flags of conversions to integers log 93, packs and unpacks under FTZ log 94 (the model's choices). -/
def Obligations.NumbersAreRounded : Prop :=
  EncodingsDecodeToTheirValues ∧ ValuesAreDeliveredRounded ∧ ConversionsDeliver ∧ SumsAndProductsAreExact ∧ QuotientsAndRootsAreRounded ∧ OrderAndDraw

namespace Sys2Proof.Claims

open Sys2Proof.Machine

/-! Bricks. -/

/-- Elements of the shape, element type, its size in bytes and width in bits (R12, R13). -/
def count (s : State) : Nat := extent s.hart.bshape 0 * extent s.hart.bshape 1 * extent s.hart.bshape 2

def elemType (s : State) : Nat := s.hart.vtype.toNat % 16

def elemSize (s : State) : Nat := etypeSize (elemType s)

def elemWidth (s : State) : Nat := 8 * elemSize s

/-- Whether element `e` is active under mask register `m` (R6, R9, R157). -/
def governed (s : State) (m e : Nat) : Bool := decide (e < count s) && (decide (m = 0) || (s.hart.masks[m]?.getD 0).getLsbD e)

/-- Lanes as a partition has them (R8), the hart's stores in canonical form; and the capacity of R15. -/
def Seated (s : State) : Prop := 1 ≤ s.hart.lanes ∧ s.hart.lanes ≤ 32 ∧ s.hart.bricks.wf = true ∧ s.hart.scratch.wf = true

def BrickReady (s : State) : Prop := s.hart.held = none ∧ Seated s ∧ count s * elemSize s ≤ 256 * s.hart.lanes

/-- An integer value of the type (R159), a result modulo 2^w, a result held in the range of the type (R83). -/
def intVal (s : State) (v : Nat) : Int := if elemType s < 4 then signedField (elemWidth s) v else v

def wrapped (s : State) (v : Int) : Nat := (v % 2 ^ elemWidth s).toNat

def clamped (s : State) (v : Int) : Nat :=
  if elemType s < 4 then wrapped s (max (-2 ^ (elemWidth s - 1)) (min (2 ^ (elemWidth s - 1) - 1) v))
  else wrapped s (max 0 (min (2 ^ elemWidth s - 1) v))

/-- The scalar of a VX form: a register, or a signed immediate; its low w bits (R160). -/
def scalarOf (s : State) (sel xs : Nat) : Word := if sel = 1 then asWord (signedField 5 xs) else rx s xs

def scalarBits (s : State) (sel xs : Nat) : Nat := (scalarOf s sel xs).toNat % 2 ^ elemWidth s

/-- A brick form over one or two sources: destination, mask, type class (1 integer, 2 float), sources, the offset entry of vs2, rounding
field, whether it rounds, and the value of an element with its flags from mode, element, operands and old destination. -/
structure Op where
  dest : Nat
  mask : Nat
  cls : Nat
  src1 : Nat
  src2 : Option Nat
  offset : Nat := 0
  rm : Nat := 0
  rounds : Bool := false
  value : Nat → Nat → Nat → Nat → Nat → Nat × Nat

/-- Integer forms over two bricks, and over a brick and a scalar. -/
def Op.vv (vd vs1 vs2 m o : Nat) (f : Nat → Nat → Nat) : Op :=
  { dest := vd, mask := m, cls := 1, src1 := vs1, src2 := some vs2, offset := o, value := fun _ _ a b _ => (f a b, 0) }

def Op.vx (vd vs1 m t : Nat) (f : Nat → Nat → Nat) : Op :=
  { dest := vd, mask := m, cls := 1, src1 := vs1, src2 := none, value := fun _ _ a _ _ => (f a t, 0) }

/-- Integer forms (R159, R160). -/
def intOp (s : State) : Instr → Option Op
  | .vadd vd a b m o _ _ => some (.vv vd a b m o fun a b => wrapped s (intVal s a + intVal s b))
  | .vsub vd a b m o _ _ => some (.vv vd a b m o fun a b => wrapped s (intVal s a - intVal s b))
  | .vmul vd a b m o _ _ => some (.vv vd a b m o fun a b => wrapped s (intVal s a * intVal s b))
  | .vmulh vd a b m o _ _ => some (.vv vd a b m o fun a b => wrapped s (intVal s a * intVal s b / 2 ^ elemWidth s))
  | .vmin vd a b m o _ _ => some (.vv vd a b m o fun a b => wrapped s (min (intVal s a) (intVal s b)))
  | .vmax vd a b m o _ _ => some (.vv vd a b m o fun a b => wrapped s (max (intVal s a) (intVal s b)))
  | .vaddSat vd a b m o _ _ => some (.vv vd a b m o fun a b => clamped s (intVal s a + intVal s b))
  | .vsubSat vd a b m o _ _ => some (.vv vd a b m o fun a b => clamped s (intVal s a - intVal s b))
  | .vmulSat vd a b m o _ _ => some (.vv vd a b m o fun a b => clamped s (intVal s a * intVal s b))
  | .vand vd a b m o _ _ => some (.vv vd a b m o fun a b => a &&& b)
  | .vor vd a b m o _ _ => some (.vv vd a b m o fun a b => a ||| b)
  | .vxor vd a b m o _ _ => some (.vv vd a b m o fun a b => a ^^^ b)
  | .vsll vd a b m o _ _ => some (.vv vd a b m o fun a b => wrapped s ((a : Int) * 2 ^ (b % elemWidth s)))
  | .vsrl vd a b m o _ _ => some (.vv vd a b m o fun a b => a / 2 ^ (b % elemWidth s))
  | .vsra vd a b m o _ _ => some (.vv vd a b m o fun a b => wrapped s (signedField (elemWidth s) a / 2 ^ (b % elemWidth s)))
  | .vsel vd a b m o _ _ => some { Op.vv vd a b m o fun a _ => a with value := fun _ _ a b old => (if old ≠ 0 then a else b, 0) }
  | .vaddx vd a xs m _ sel => some (.vx vd a m (scalarBits s sel xs) fun a b => wrapped s (intVal s a + intVal s b))
  | .vsubx vd a xs m _ sel => some (.vx vd a m (scalarBits s sel xs) fun a b => wrapped s (intVal s a - intVal s b))
  | .vmulx vd a xs m _ sel => some (.vx vd a m (scalarBits s sel xs) fun a b => wrapped s (intVal s a * intVal s b))
  | .vminx vd a xs m _ sel => some (.vx vd a m (scalarBits s sel xs) fun a b => wrapped s (min (intVal s a) (intVal s b)))
  | .vmaxx vd a xs m _ sel => some (.vx vd a m (scalarBits s sel xs) fun a b => wrapped s (max (intVal s a) (intVal s b)))
  | .vsllx vd a xs m _ sel => some (.vx vd a m (scalarBits s sel xs) fun a b => wrapped s ((a : Int) * 2 ^ (b % elemWidth s)))
  | .vsrlx vd a xs m _ sel => some (.vx vd a m (scalarBits s sel xs) fun a b => a / 2 ^ (b % elemWidth s))
  | .vsrax vd a xs m _ sel => some (.vx vd a m (scalarBits s sel xs) fun a b => wrapped s (signedField (elemWidth s) a / 2 ^ (b % elemWidth s)))
  | _ => none

/-! Float elements (R74 to R82, R161 to R164). -/

def floatFmt (s : State) : Fmt := etypeFmt (elemType s)

/-- Flush-to-zero of FPCTL (R73, R79). -/
def flushes (s : State) : Bool := s.hart.fpctl.getLsbD 3

/-- The rounding mode of a field (R74): 7 is the dynamic mode of FPCTL. -/
def modeOf (s : State) (rm : Nat) : Nat := if rm = 7 then s.hart.fpctl.toNat % 8 else rm

/-- The draw of an element in mode rsto (R81). -/
def draw (s : State) (mode e : Nat) : Nat := if mode = 4 then drawU (seedNow s) e else 0

/-- An operand as an exact value, flushed under FTZ (R76, R79). -/
def floatVal (s : State) (v : Nat) : Machine.Num := flushNum (.flt (floatFmt s)) (flushes s) ((floatFmt s).decode v)

/-- An exact value with the flags of its operation rounded once (R78, R80); a value that needs no rounding (R162). -/
def rounded (s : State) (mode e : Nat) (v : Machine.Num × Nat) : Nat × Nat :=
  let r := Elem.ofNum (.flt (floatFmt s)) mode (draw s mode e) (flushes s) false v.1
  (r.1, r.2 ||| v.2)

def delivered (s : State) (v : Machine.Num × Nat) : Nat × Nat := ((Elem.ofNum (.flt (floatFmt s)) 0 0 false false v.1).1, v.2)

/-- ±(a·b) ± c, exact (R163). -/
def fusedSum (mode : Nat) (negP negC : Bool) (a b c : Machine.Num) : Machine.Num × Nat :=
  let p := mulNum a b
  let q := addNum (mode == 3) (if negP then p.1.neg else p.1) (if negC then c.neg else c)
  (q.1, q.2 ||| p.2)

def Op.flt (vd vs1 : Nat) (vs2 : Option Nat) (m : Nat) (rm : Option Nat) (f : Nat → Nat → Nat → Nat → Nat → Nat × Nat) : Op :=
  { dest := vd, mask := m, cls := 2, src1 := vs1, src2 := vs2, rm := rm.getD 0, rounds := rm.isSome, value := f }

/-- Float forms. -/
def floatOp (s : State) : Instr → Option Op
  | .vfadd vd a b m rm _ _ => some (.flt vd a (some b) m (some rm) fun mo e a b _ => rounded s mo e (addNum (mo == 3) (floatVal s a) (floatVal s b)))
  | .vfsub vd a b m rm _ _ => some (.flt vd a (some b) m (some rm) fun mo e a b _ => rounded s mo e (addNum (mo == 3) (floatVal s a) (floatVal s b).neg))
  | .vfmul vd a b m rm _ _ => some (.flt vd a (some b) m (some rm) fun mo e a b _ => rounded s mo e (mulNum (floatVal s a) (floatVal s b)))
  | .vfdiv vd a b m rm _ _ => some (.flt vd a (some b) m (some rm) fun mo e a b _ => divRound (floatFmt s) mo (draw s mo e) (flushes s) (floatVal s a) (floatVal s b))
  | .vfsqrt vd a m rm _ => some (.flt vd a none m (some rm) fun mo e a _ _ => sqrtRound (floatFmt s) mo (draw s mo e) (flushes s) (floatVal s a))
  | .vfmin vd a b m _ _ => some (.flt vd a (some b) m none fun _ _ a b _ => delivered s (minMaxNum false false (floatVal s a) (floatVal s b)))
  | .vfmax vd a b m _ _ => some (.flt vd a (some b) m none fun _ _ a b _ => delivered s (minMaxNum true false (floatVal s a) (floatVal s b)))
  | .vfabs vd a m _ => some (.flt vd a none m none fun _ _ a _ _ => (a % 2 ^ (elemWidth s - 1), 0))
  | .vfma vd a b m rm _ _ => some (.flt vd a (some b) m (some rm) fun mo e a b c => rounded s mo e (fusedSum mo false false (floatVal s a) (floatVal s b) (floatVal s c)))
  | .vfms vd a b m rm _ _ => some (.flt vd a (some b) m (some rm) fun mo e a b c => rounded s mo e (fusedSum mo false true (floatVal s a) (floatVal s b) (floatVal s c)))
  | .vfnma vd a b m rm _ _ => some (.flt vd a (some b) m (some rm) fun mo e a b c => rounded s mo e (fusedSum mo true true (floatVal s a) (floatVal s b) (floatVal s c)))
  | .vfnms vd a b m rm _ _ => some (.flt vd a (some b) m (some rm) fun mo e a b c => rounded s mo e (fusedSum mo true false (floatVal s a) (floatVal s b) (floatVal s c)))
  | .vfaddx vd a xs m rm _ => some (.flt vd a none m (some rm) fun mo e a _ _ => rounded s mo e (addNum (mo == 3) (floatVal s a) (floatVal s (scalarBits s 0 xs))))
  | .vfsubx vd a xs m rm _ => some (.flt vd a none m (some rm) fun mo e a _ _ => rounded s mo e (addNum (mo == 3) (floatVal s a) (floatVal s (scalarBits s 0 xs)).neg))
  | .vfmulx vd a xs m rm _ => some (.flt vd a none m (some rm) fun mo e a _ _ => rounded s mo e (mulNum (floatVal s a) (floatVal s (scalarBits s 0 xs))))
  | .vfdivx vd a xs m rm _ => some (.flt vd a none m (some rm) fun mo e a _ _ => divRound (floatFmt s) mo (draw s mo e) (flushes s) (floatVal s a) (floatVal s (scalarBits s 0 xs)))
  | .vfrsubx vd a xs m rm _ => some (.flt vd a none m (some rm) fun mo e a _ _ => rounded s mo e (addNum (mo == 3) (floatVal s (scalarBits s 0 xs)) (floatVal s a).neg))
  | .vfmaxPropagating vd a xs m _ => some (.flt vd a none m none fun _ _ a _ _ => delivered s (minMaxNum true true (floatVal s a) (floatVal s (scalarBits s 0 xs))))
  | .vfminx vd a xs m _ => some (.flt vd a none m none fun _ _ a _ _ => delivered s (minMaxNum false false (floatVal s a) (floatVal s (scalarBits s 0 xs))))
  | .vfmaxx vd a xs m _ => some (.flt vd a none m none fun _ _ a _ _ => delivered s (minMaxNum true false (floatVal s a) (floatVal s (scalarBits s 0 xs))))
  | _ => none

/-- What a form leaves in a brick: destination, mask, which active elements it writes, rounding field, whether it rounds, and the value
of each with its flags from the mode. -/
structure Fill where
  dest : Nat
  mask : Nat
  writes : Nat → Bool := fun _ => true
  rm : Nat := 0
  rounds : Bool := false
  value : Nat → Nat → Nat × Nat

/-- The elements written, and where one lies in its register (R16). -/
def Fill.on (f : Fill) (s : State) (e : Nat) : Bool := governed s f.mask e && f.writes e

def Fill.place (f : Fill) (s : State) (e : Nat) : Nat := 8192 * f.dest + 256 * (e % s.hart.lanes) + e / s.hart.lanes * elemSize s

/-- Whether RSEED is used and advances (R81). -/
def Fill.draws (f : Fill) (s : State) : Bool := f.rounds && modeOf s f.rm == 4

/-- The flags raised by all elements written (R75). -/
def Fill.flags (f : Fill) (s : State) : Nat :=
  (List.range (count s)).foldl (fun fl e => if f.on s e then fl ||| (f.value (modeOf s f.rm) e).2 else fl) 0

/-- The tag of the register written (R322): dirty, and its written length of a lane's part. -/
def Fill.tag (f : Fill) (s : State) : Nat × Bool :=
  (List.range (count s)).foldl (fun t e => if f.on s e then (max t.1 (e / s.hart.lanes * elemSize s + elemSize s), true) else t)
    (s.hart.btag[f.dest]?.getD (0, false))

/-- The state after an instruction of `n` bytes, in a frame or not, that changes nothing else (R150, R180). -/
def moved (s : State) (n : Nat) : State :=
  match s.hart.lap with
  | none => passed s n
  | some l =>
    { s with
      hart := { s.hart with
        lap := if l.idx + 1 < l.frame.length then some { l with idx := l.idx + 1 }
          else if l.k + 1 < l.count then some { l with idx := 0, k := l.k + 1 } else none
        instret := s.hart.instret + 1, waiting := false } }

/-- A brick form of `n` bytes has done its work: its elements hold their values, no other byte of a brick has changed; flags, RSEED, the
tag of the register and the count of element groups have moved; nothing else. -/
def Filled (s t : State) (n : Nat) (f : Fill) : Prop :=
  (∀ e, f.on s e = true →
    elemAt t.hart.bricks s.hart.lanes (elemSize s) f.dest e = (f.value (modeOf s f.rm) e).1 % 2 ^ elemWidth s) ∧
  (∀ a, (∀ e, f.on s e = true → a < f.place s e ∨ f.place s e + elemSize s ≤ a) →
    mget t.hart.bricks a = mget s.hart.bricks a) ∧
  t = { moved s n with
    hart := { (moved s n).hart with
      bricks := t.hart.bricks
      fpctl := s.hart.fpctl ||| BitVec.ofNat 64 (2 ^ 8 * f.flags s)
      rseed := s.hart.rseed + (if f.draws s then BitVec.ofNat 64 (count s) else 0)
      btag := s.hart.btag.setIfInBounds f.dest (f.tag s)
      perf := s.hart.perf.setIfInBounds 1 (s.hart.perf[1] + BitVec.ofNat 64 ((count s + s.hart.lanes - 1) / s.hart.lanes)) } }

/-- An element of a register of the hart (R16). -/
def elemOf (s : State) (reg e : Nat) : Nat := elemAt s.hart.bricks s.hart.lanes (elemSize s) reg e

/-- The fill of a form whose sources are read in place. -/
def Op.fill (o : Op) (s : State) : Fill :=
  { dest := o.dest, mask := o.mask, rm := o.rm, rounds := o.rounds
    value := fun mode e => o.value mode e (elemOf s o.src1 e) (match o.src2 with | some r => elemOf s r e | none => 0) (elemOf s o.dest e) }

/-- The class a form requires of VTYPE (R123). -/
def ClassFits (s : State) (cls : Nat) : Prop := (cls = 1 → elemType s < 8) ∧ (cls = 2 → 8 ≤ elemType s)

/-- An offset entry with the zero offset (R20). -/
def OffsetZero (s : State) (o : Nat) : Prop := o = 0 ∨ s.hart.offs[o]?.getD 0 = 0

/-! Reads at an offset (R19 to R32). -/

/-- A displaced form: the instruction, its bytes, the offsets of its sources and the boundary override. -/
structure Displaced where
  i : Instr
  bytes : Nat
  off1 : Triple
  off2 : Triple
  ovr : Nat

/-- The ways a form gets its offsets (R19, R152): its own offset entry, if it has one, or a prefix. -/
def DisplacedAs (s : State) (j : Instr) (entry : Nat) (d : Displaced) : Prop :=
  (d.i = j ∧ d.bytes = 4 ∧ d.off1 = ⟨0, 0, 0⟩ ∧ d.ovr = 0 ∧
    d.off2 = if entry = 0 then ⟨0, 0, 0⟩ else
      let v := (s.hart.offs[entry]?.getD 0).toNat
      ⟨signedField 4 (v % 16), signedField 4 (v / 16 % 16), signedField 4 (v / 256 % 16)⟩) ∨
  ∃ x1 y1 z1 x2 y2 z2 w2, d.i = .ofs x1 y1 z1 x2 y2 z2 d.ovr w2 ∧ d.bytes = 8 ∧ decodeWord w2 = .ok j ∧
    x1 < 16 ∧ y1 < 16 ∧ z1 < 16 ∧ x2 < 16 ∧ y2 < 16 ∧ z2 < 16 ∧
    d.off1 = ⟨signedField 4 x1, signedField 4 y1, signedField 4 z1⟩ ∧
    d.off2 = ⟨signedField 4 x2, signedField 4 y2, signedField 4 z2⟩

/-- What the reads of a displaced form use (R153). -/
def Displaced.capture (d : Displaced) (s : State) : Captured := Machine.capture s d.off1 d.off2 d.ovr 0 (seedNow s) 0 0

/-- A source may be read at its offset (R19, R26, R32), and no entry that its reads can use is a stream halo, or a scratchpad halo where
scratchpad bytes have failed (R385). -/
def Displaced.SourceFits (d : Displaced) (s : State) (reg : Nat) (off : Triple) (dest : Option Nat) : Prop :=
  sourceFits s (d.capture s) reg off dest = true ∧
    ∀ w ∈ (reach (d.capture s) s.hart.idx reg off).2, w.toNat % 16 ≠ 7 ∧ (w.toNat % 16 = 6 → s.core.badScratch = [])

/-- The value of element `e` of a register at an offset (R25), for elements of `size` bytes. -/
def Displaced.readSized (d : Displaced) (s : State) (size reg e : Nat) (off : Triple) : Nat :=
  match (adjRead s (d.capture s) reg e off size).2 with
  | .ok v => v
  | .error _ => 0

def Displaced.read (d : Displaced) (s : State) (reg e : Nat) (off : Triple) : Nat := d.readSized s (elemSize s) reg e off

def Displaced.fill (d : Displaced) (o : Op) (s : State) : Fill :=
  { dest := o.dest, mask := o.mask, rm := o.rm, rounds := o.rounds
    value := fun mode e => o.value mode e (d.read s o.src1 e d.off1)
      (match o.src2 with | some r => d.read s r e d.off2 | none => 0) (elemOf s o.dest e) }

/-- The coordinates of an element in a shape, and the element at coordinates (R16). -/
def coordX (s : State) (e : Nat) : Nat := e % extent s.hart.bshape 0
def coordY (s : State) (e : Nat) : Nat := e / extent s.hart.bshape 0 % extent s.hart.bshape 1
def coordZ (s : State) (e : Nat) : Nat := e / (extent s.hart.bshape 0 * extent s.hart.bshape 1)
def elemAtXYZ (s : State) (x y z : Nat) : Nat := x + extent s.hart.bshape 0 * (y + extent s.hart.bshape 1 * z)

/-- One axis of a read that stands in a register of its own hart (R22 to R25), through faces of kinds 0 to 4: the register entered and the
coordinate there; none where the read ends with zero. -/
def crossOwn (s : State) (r : Nat) (v n : Int) (face : Nat) : Option (Nat × Int) :=
  if 0 ≤ v ∧ v < n then some (r, v)
  else
    let w := s.hart.adj[6 * r + (if v < 0 then face else face + 1)]?.getD 0
    match w.toNat % 16 with
    | 0 => none
    | 1 => some (r, if v < 0 then 0 else n - 1)
    | 2 => some (r, if v < 0 then v + n else v - n)
    | 3 => some (r, if v < 0 then -v - 1 else 2 * n - 1 - v)
    | _ => some (w.toNat / 16 % 32, if v < 0 then v + n else v - n)

/-- Every face of every register of the hart is of kinds 0 to 4 (R22). -/
def OwnFaces (s : State) : Prop := ∀ k < 192, (s.hart.adj[k]?.getD 0).toNat % 16 ≤ 4

/-- The element at an offset, x first, then y, then z (R25): zero where a face ends the read. -/
def readOwn (s : State) (reg e : Nat) (off : Triple) : Nat :=
  match crossOwn s reg (coordX s e + off.dx) (extent s.hart.bshape 0) 0 with
  | none => 0
  | some (r, x) =>
    match crossOwn s r (coordY s e + off.dy) (extent s.hart.bshape 1) 2 with
    | none => 0
    | some (q, y) =>
      match crossOwn s q (coordZ s e + off.dz) (extent s.hart.bshape 2) 4 with
      | none => 0
      | some (p, z) => elemOf s p (elemAtXYZ s x.toNat y.toNat z.toNat)

end Sys2Proof.Claims

/-- R159, R160, R155, R16, R157. -/
def Obligations.IntegerBrickResults : Prop :=
  ∀ (s : State) (i : Instr) (o : Op), wellFormed i = true → intOp s i = some o → BrickReady s → ClassFits s o.cls →
    OffsetZero s o.offset → ∃ t, exec i s = .next t ∧ Filled s t 4 (o.fill s)

/-- R161 to R164, R74, R75, R81. That a minimum and a maximum read subnormals as zero under FTZ is the model's choice (log 27). -/
def Obligations.FloatBrickResults : Prop :=
  ∀ (s : State) (i : Instr) (o : Op), wellFormed i = true → floatOp s i = some o → BrickReady s → ClassFits s o.cls →
    ∃ t, exec i s = .next t ∧ Filled s t 4 (o.fill s)

/-- R19, R26, R31, R32, R117, R152: an offset entry or a prefix displaces the sources, and a pair is one instruction of 8 bytes. -/
def Sys2Proof.Claims.DisplacedFormsReadAtTheirOffsets : Prop :=
  ∀ (s : State) (j : Instr) (o : Op) (d : Displaced), wellFormed j = true → (intOp s j = some o ∨ floatOp s j = some o) →
    DisplacedAs s j o.offset d → d.ovr < 4 → BrickReady s → ClassFits s o.cls → d.SourceFits s o.src1 d.off1 (some o.dest) →
    (∀ r, o.src2 = some r → d.SourceFits s r d.off2 (some o.dest)) → (o.src2 = none → d.off2 = ⟨0, 0, 0⟩) →
    ∃ t, exec d.i s = .next t ∧ Filled s t d.bytes (d.fill o s)

/-- R16, R22 to R25, R31: where a read at an offset ends, with faces of kinds 0 to 4, and under an override. -/
def Sys2Proof.Claims.OffsetReadsCrossFaces : Prop :=
  ∀ (s : State) (d : Displaced) (reg e : Nat) (off : Triple), reg < 32 → e < count s →
    off.dx.natAbs ≤ extent s.hart.bshape 0 → off.dy.natAbs ≤ extent s.hart.bshape 1 → off.dz.natAbs ≤ extent s.hart.bshape 2 →
    (d.ovr = 0 → OwnFaces s → d.read s reg e off = readOwn s reg e off) ∧
    ∀ k, k < 3 → d.ovr = k + 1 →
      d.read s reg e off = readOwn { s with hart := { s.hart with adj := .replicate 192 (BitVec.ofNat 64 k) } } reg e off

/-- An offset entry beyond the extent of an axis (R19). -/
def Sys2Proof.Claims.EntryBeyond (s : State) (n : Nat) : Prop :=
  n ≠ 0 ∧ let v := (s.hart.offs[n]?.getD 0).toNat
    extent s.hart.bshape 0 < (signedField 4 (v % 16)).natAbs ∨ extent s.hart.bshape 1 < (signedField 4 (v / 16 % 16)).natAbs ∨
      extent s.hart.bshape 2 < (signedField 4 (v / 256 % 16)).natAbs

/-- The class of VTYPE that every other brick form requires, and the offset entry that it names (R123, R126, R152, R166): vcun compares floats, the bitwise
reductions take integers, the others take every type. -/
def Sys2Proof.Claims.otherClass : Instr → Option (Nat × Nat)
  | .vceq _ _ _ _ o _ _ | .vcne _ _ _ _ o _ _ | .vclt _ _ _ _ o _ _ | .vcle _ _ _ _ o _ _ => some (0, o)
  | .vcun _ _ _ _ o _ _ => some (2, o)
  | .vceqx _ _ _ _ _ _ | .vcnex _ _ _ _ _ _ | .vcltx _ _ _ _ _ _ | .vclex _ _ _ _ _ _ | .vcgtx _ _ _ _ _ _ | .vcgex _ _ _ _ _ _ => some (0, 0)
  | .vmand _ _ _ _ | .vmor _ _ _ _ | .vmxor _ _ _ _ | .vmandn _ _ _ _ | .vmnot _ _ _ | .vmpopc _ _ _ | .vmfirst _ _ _ => some (0, 0)
  | .vcvt _ _ _ _ _ _ | .vcvtSat _ _ _ _ _ _ | .vunpk _ _ _ _ _ _ | .vpack _ _ _ _ _ _ => some (0, 0)
  | .vrsum _ _ _ _ _ _ | .vrmin _ _ _ _ _ | .vrmax _ _ _ _ _ => some (0, 0)
  | .vrand _ _ _ _ _ | .vror _ _ _ _ _ | .vrxor _ _ _ _ _ => some (1, 0)
  | .vmovx _ _ _ _ | .vextx _ _ _ _ _ | .vcoordX _ _ _ _ | .vcoordY _ _ _ _ | .vcoordZ _ _ _ _ => some (0, 0)
  | .vtrxy _ _ _ _ | .vslide _ _ _ _ _ _ | .vrot _ _ _ _ _ _ | .vgidx _ _ _ _ _ _ => some (0, 0)
  | _ => none

/-- R15, R19, R118, R123, R126, R152, R166: a class that does not fit, more elements than the lanes hold, an offset beyond the extent. -/
def Obligations.BrickIssueChecksTrap : Prop :=
  (∀ (s : State) (i : Instr) (o : Op), wellFormed i = true → (intOp s i = some o ∨ floatOp s i = some o) → CanTrap s →
    (256 * s.hart.lanes < count s * elemSize s ∨ ¬ ClassFits s o.cls ∨ (o.src2.isSome = true ∧ EntryBeyond s o.offset)) →
    exec i s = .next (trapped s (ownTrap s 2 0 0 0 0))) ∧
  ∀ (s : State) (i : Instr) (cls o : Nat), wellFormed i = true → otherClass i = some (cls, o) → CanTrap s →
    (256 * s.hart.lanes < count s * elemSize s ∨ ¬ ClassFits s cls ∨ EntryBeyond s o) →
    exec i s = .next (trapped s (ownTrap s 2 0 0 0 0))

namespace Sys2Proof.Claims

open Sys2Proof.Machine

/-! Conversions, reductions, permutes, moves (R167 to R173). -/

/-- Bits of an element of a packed brick (R168). -/
def packedOf (s : State) (w reg e : Nat) : Nat := packedAt s.hart.bricks s.hart.lanes w reg e

/-- Whether a packed brick of elements of `w` bits fits its register (R168). -/
def PackedFits (s : State) (w : Nat) : Prop := w * ((count s + s.hart.lanes - 1) / s.hart.lanes) ≤ 2048

/-- A conversion between two formats under FPCTL (R95). -/
def converted (s : State) (src dst : Elem) (sat : Bool) (mode e v : Nat) : Nat × Nat := convert src dst mode (draw s mode e) (flushes s) sat v

/-- How a form reads an element of a brick source: from its size, register and number. -/
abbrev Reader := Nat → Nat → Nat → Nat

/-- Sources read in place (R16). -/
def inPlace (s : State) : Reader := fun size reg e => elemAt s.hart.bricks s.hart.lanes size reg e

/-- vcvt, vcvt.sat and vunpk: what they leave, and when they may issue (R167 to R169). The two forms of vcvt differ only between integers. -/
def convertFill (s : State) (rd : Reader) : Instr → Option (Fill × Prop)
  | .vcvt vd a code m rm _ => some (
      { dest := vd, mask := m, rm := rm, rounds := !holdsAll (etypeElem code) (etypeElem (elemType s))
        value := fun mode e => converted s (etypeElem code) (etypeElem (elemType s)) false mode e
          (rd (etypeSize code) a e) },
      count s * etypeSize code ≤ 256 * s.hart.lanes ∧ (vd = a → etypeSize code = elemSize s))
  | .vcvtSat vd a code m rm _ => some (
      { dest := vd, mask := m, rm := rm, rounds := !holdsAll (etypeElem code) (etypeElem (elemType s))
        value := fun mode e => converted s (etypeElem code) (etypeElem (elemType s)) (decide (code < 8 ∧ elemType s < 8)) mode e
          (rd (etypeSize code) a e) },
      count s * etypeSize code ≤ 256 * s.hart.lanes ∧ (vd = a → etypeSize code = elemSize s))
  | .vunpk vd a code m rm _ => some (
      { dest := vd, mask := m, rm := rm, rounds := !holdsAll (codeElem code) (etypeElem (elemType s))
        value := fun mode e => converted s (codeElem code) (etypeElem (elemType s)) false mode e (packedOf s (codeElem code).width a e) },
      PackedFits s (codeElem code).width ∧ (vd = a → (codeElem code).width = elemWidth s))
  | _ => none

/-- Coordinate on an axis, and the element with another coordinate there. -/
def coordOn (s : State) (axis e : Nat) : Nat :=
  match axis with
  | 0 => coordX s e
  | 1 => coordY s e
  | _ => coordZ s e

def elemWith (s : State) (axis e k : Nat) : Nat :=
  match axis with
  | 0 => elemAtXYZ s k (coordY s e) (coordZ s e)
  | 1 => elemAtXYZ s (coordX s e) k (coordZ s e)
  | _ => elemAtXYZ s (coordX s e) (coordY s e) k

/-- The scalar of a broadcast (R173): an immediate is converted to a float type exactly. -/
def broadcast (s : State) (sel xs : Nat) : Nat :=
  if sel = 1 ∧ 8 ≤ elemType s then (delivered s (numOfInt (signedField 5 xs), 0)).1 else scalarBits s sel xs

/-- A coordinate plus a scalar (R173). -/
def coordValue (s : State) (axis sel xs e : Nat) : Nat × Nat :=
  let v : Int := coordOn s axis e + (scalarOf s sel xs).toInt
  if 8 ≤ elemType s then Elem.ofNum (.flt (floatFmt s)) 0 0 false false (numOfInt v) else (wrapped s v, 0)

/-- Permutes, broadcast and coordinates: what they leave, and when they may issue (R172, R173). -/
def permuteFill (s : State) : Instr → Option (Fill × Prop)
  | .vtrxy vd a m _ => some (
      { dest := vd, mask := m, value := fun _ e => (elemOf s a (elemAtXYZ s (coordY s e) (coordX s e) (coordZ s e)), 0) },
      vd ≠ a ∧ extent s.hart.bshape 0 = extent s.hart.bshape 1)
  | .vslide vd a amt m axis _ => some (
      { dest := vd, mask := m
        value := fun _ e =>
          let k : Int := coordOn s axis e - signedField 5 amt
          (if 0 ≤ k ∧ k < extent s.hart.bshape axis then elemOf s a (elemWith s axis e k.toNat) else 0, 0) },
      vd ≠ a)
  | .vrot vd a amt m axis _ => some (
      { dest := vd, mask := m
        value := fun _ e =>
          let k : Int := (coordOn s axis e - signedField 5 amt) % extent s.hart.bshape axis
          (elemOf s a (elemWith s axis e k.toNat), 0) },
      vd ≠ a)
  | .vgidx vd a b m _ _ => some (
      { dest := vd, mask := m, value := fun _ e => (if elemOf s b e < count s then elemOf s a (elemOf s b e) else 0, 0) },
      vd ≠ a ∧ vd ≠ b)
  | .vmovx vd xs m sel => some ({ dest := vd, mask := m, value := fun _ _ => (broadcast s sel xs, 0) }, True)
  | .vcoordX vd xs m sel => some ({ dest := vd, mask := m, value := fun _ e => coordValue s 0 sel xs e }, True)
  | .vcoordY vd xs m sel => some ({ dest := vd, mask := m, value := fun _ e => coordValue s 1 sel xs e }, True)
  | .vcoordZ vd xs m sel => some ({ dest := vd, mask := m, value := fun _ e => coordValue s 2 sel xs e }, True)
  | _ => none

/-! Reductions. -/

/-- Length of the line of an element on an axis, and its `k`-th element (R170); axis 3 is the whole brick. -/
def lineLength (s : State) (axis : Nat) : Nat := if axis = 3 then count s else extent s.hart.bshape axis

def lineElem (s : State) (axis e k : Nat) : Nat := if axis = 3 then k else elemWith s axis e k

/-- Whether an element is the result position of its line. -/
def leadsLine (s : State) (axis e : Nat) : Bool := if axis = 3 then e == 0 else coordOn s axis e == 0

/-- The values of a line in order, an inactive element absent. -/
def lineVals (s : State) (rd : Reader) (m axis a e : Nat) : List (Option Nat) :=
  (List.range (lineLength s axis)).map fun k =>
    if governed s m (lineElem s axis e k) then some (rd (elemSize s) a (lineElem s axis e k)) else none

/-- Node `i` of level `d` of the tree of R171 over the leaves `l`. -/
def treeNode (op : Nat → Nat → Nat × Nat) (l : List (Option Nat)) : Nat → Nat → Option Nat × Nat
  | 0, i => (l.getD i none, 0)
  | d + 1, i =>
    let a := treeNode op l d (2 * i)
    let b := treeNode op l d (2 * i + 1)
    match a.1, b.1 with
    | some x, some y => (some (op x y).1, (op x y).2 ||| a.2 ||| b.2)
    | some x, none => (some x, a.2 ||| b.2)
    | none, y => (y, a.2 ||| b.2)

/-- Values combined from the first on, with the flags of every step. -/
def combined (op : Nat → Nat → Nat × Nat) : List Nat → Nat × Nat
  | [] => (0, 0)
  | a :: as => as.foldl (fun r b => ((op r.1 b).1, r.2 ||| (op r.1 b).2)) (a, 0)

/-- A value as it is read (R79, R170): a float is flushed, a NaN keeps its bits. -/
def asRead (s : State) (v : Nat) : Nat :=
  if 8 ≤ elemType s ∧ (floatVal s v).isNaN = false then (delivered s (floatVal s v, 0)).1 else v

/-- The result of a line: the identity, the only value, or the values combined (R170). -/
def lineValue (s : State) (ident : Nat) (op : List (Option Nat) → Nat × Nat) (l : List (Option Nat)) : Nat × Nat :=
  match l.filterMap id with
  | [] => (ident, 0)
  | [v] => (asRead s v, 0)
  | _ => op l

/-- A sum of two floats as a node of a reduction (R171): rsto reads as rne. -/
def nodeSum (s : State) (mode a b : Nat) : Nat × Nat :=
  let mo := if mode = 4 then 0 else mode
  let r := Elem.ofNum (.flt (floatFmt s)) mo 0 (flushes s) false (addNum (mo == 3) (floatVal s a) (floatVal s b)).1
  (r.1, r.2 ||| (addNum (mo == 3) (floatVal s a) (floatVal s b)).2)

/-- The float sum of a line (R171). -/
def lineSum (s : State) (mode : Nat) (l : List (Option Nat)) : Nat × Nat :=
  let t := treeNode (nodeSum s mode) (l.map fun v => v.map (asRead s)) (Nat.clog 2 l.length) 0
  (t.1.getD 0, t.2)

/-- The smaller, or larger, of two elements (R162, R170). -/
def lineMinMax (s : State) (mx : Bool) (a b : Nat) : Nat × Nat :=
  if 8 ≤ elemType s then delivered s (minMaxNum mx false (floatVal s a) (floatVal s b))
  else (wrapped s (if mx then max (intVal s a) (intVal s b) else min (intVal s a) (intVal s b)), 0)

/-- The largest and the smallest value of the type, +∞ and −∞ for floats. -/
def largestVal (s : State) : Nat :=
  if 8 ≤ elemType s then (2 ^ (floatFmt s).eb - 1) * 2 ^ (floatFmt s).fb
  else if elemType s < 4 then 2 ^ (elemWidth s - 1) - 1 else 2 ^ elemWidth s - 1

def smallestVal (s : State) : Nat :=
  if 8 ≤ elemType s then 2 ^ (elemWidth s - 1) + (2 ^ (floatFmt s).eb - 1) * 2 ^ (floatFmt s).fb
  else if elemType s < 4 then 2 ^ (elemWidth s - 1) else 0

def reduction (s : State) (rd : Reader) (vd a axis m rm : Nat) (ident : Nat) (op : Nat → List (Option Nat) → Nat × Nat) : Fill :=
  { dest := vd, mask := m, writes := leadsLine s axis, rm := rm, value := fun mode e => lineValue s ident (op mode) (lineVals s rd m axis a e) }

/-- Reductions (R170, R171), with the class they require. -/
def reduceFill (s : State) (rd : Reader) : Instr → Option (Fill × Nat)
  | .vrsum vd a axis m rm _ => some (reduction s rd vd a axis m rm 0 fun mode l =>
      if 8 ≤ elemType s then lineSum s mode l else (wrapped s ((l.filterMap id).map (intVal s)).sum, 0), 0)
  | .vrmin vd a axis m _ => some (reduction s rd vd a axis m 0 (largestVal s) fun _ l => combined (lineMinMax s false) (l.filterMap id), 0)
  | .vrmax vd a axis m _ => some (reduction s rd vd a axis m 0 (smallestVal s) fun _ l => combined (lineMinMax s true) (l.filterMap id), 0)
  | .vrand vd a axis m _ => some (reduction s rd vd a axis m 0 (2 ^ elemWidth s - 1) fun _ l => combined (fun a b => (a &&& b, 0)) (l.filterMap id), 1)
  | .vror vd a axis m _ => some (reduction s rd vd a axis m 0 0 fun _ l => combined (fun a b => (a ||| b, 0)) (l.filterMap id), 1)
  | .vrxor vd a axis m _ => some (reduction s rd vd a axis m 0 0 fun _ l => combined (fun a b => (a ^^^ b, 0)) (l.filterMap id), 1)
  | _ => none

/-! Compares and masks (R165, R166). -/

/-- A form that writes mask bits: destination, governing mask, class, and each element's bit with its flags. -/
structure Marks where
  dest : Nat
  mask : Nat
  cls : Nat := 0
  offset : Nat := 0
  bit : Nat → Bool × Nat

/-- A relation of two elements (R165): integers by type; floats with -0 equal to +0; a NaN decides by `onNaN`, and sets nv if it is
loud or, for an ordered relation, always. -/
def related (s : State) (int : Int → Int → Prop) [∀ a b, Decidable (int a b)] (flt : Machine.Num → Machine.Num → Bool) (onNaN ordered : Bool) (a b : Nat) :
    Bool × Nat :=
  if 8 ≤ elemType s then
    let x := floatVal s a
    let y := floatVal s b
    if x.isNaN || y.isNaN then (onNaN, if ordered || x.loud || y.loud then 16 else 0) else (flt x y, 0)
  else (decide (int (intVal s a) (intVal s b)), 0)

def isEq (s : State) := related s (· = ·) numEq false false
def isNe (s : State) := related s (· ≠ ·) (fun x y => !numEq x y) true false
def isLt (s : State) := related s (· < ·) numLt false true
def isLe (s : State) := related s (· ≤ ·) (fun x y => numLt x y || numEq x y) false true

/-- A float is unordered with another when either is a NaN. -/
def isUn (s : State) := related s (fun _ _ => False) (fun _ _ => false) true false

def compareMarks (s : State) (rd1 rd2 : Reader) : Instr → Option Marks
  | .vceq md a b m o _ _ => some { dest := md, mask := m, offset := o, bit := fun e => isEq s (rd1 (elemSize s) a e) (rd2 (elemSize s) b e) }
  | .vcne md a b m o _ _ => some { dest := md, mask := m, offset := o, bit := fun e => isNe s (rd1 (elemSize s) a e) (rd2 (elemSize s) b e) }
  | .vclt md a b m o _ _ => some { dest := md, mask := m, offset := o, bit := fun e => isLt s (rd1 (elemSize s) a e) (rd2 (elemSize s) b e) }
  | .vcle md a b m o _ _ => some { dest := md, mask := m, offset := o, bit := fun e => isLe s (rd1 (elemSize s) a e) (rd2 (elemSize s) b e) }
  | .vcun md a b m o _ _ => some { dest := md, mask := m, offset := o, cls := 2, bit := fun e => isUn s (rd1 (elemSize s) a e) (rd2 (elemSize s) b e) }
  | .vceqx md a xs m _ sel => some { dest := md, mask := m, bit := fun e => isEq s (rd1 (elemSize s) a e) (broadcast s sel xs) }
  | .vcnex md a xs m _ sel => some { dest := md, mask := m, bit := fun e => isNe s (rd1 (elemSize s) a e) (broadcast s sel xs) }
  | .vcltx md a xs m _ sel => some { dest := md, mask := m, bit := fun e => isLt s (rd1 (elemSize s) a e) (broadcast s sel xs) }
  | .vclex md a xs m _ sel => some { dest := md, mask := m, bit := fun e => isLe s (rd1 (elemSize s) a e) (broadcast s sel xs) }
  | .vcgtx md a xs m _ sel => some { dest := md, mask := m, bit := fun e => isLt s (broadcast s sel xs) (rd1 (elemSize s) a e) }
  | .vcgex md a xs m _ sel => some { dest := md, mask := m, bit := fun e => isLe s (broadcast s sel xs) (rd1 (elemSize s) a e) }
  | _ => none

/-- Bit `e` of a mask register; M0 reads all ones (R9). -/
def maskBit (s : State) (m e : Nat) : Bool := decide (m = 0) || (s.hart.masks[m]?.getD 0).getLsbD e

def maskMarks (s : State) : Instr → Option Marks
  | .vmand md a b m => some { dest := md, mask := m, bit := fun e => (maskBit s a e && maskBit s b e, 0) }
  | .vmor md a b m => some { dest := md, mask := m, bit := fun e => (maskBit s a e || maskBit s b e, 0) }
  | .vmxor md a b m => some { dest := md, mask := m, bit := fun e => (maskBit s a e != maskBit s b e, 0) }
  | .vmandn md a b m => some { dest := md, mask := m, bit := fun e => (maskBit s a e && !maskBit s b e, 0) }
  | .vmnot md a m => some { dest := md, mask := m, bit := fun e => (!maskBit s a e, 0) }
  | _ => none

/-- A form of `n` bytes has written its mask bits (R157): the bits of active elements of a register other than M0, the flags of all of them, and
nothing else. -/
def Marked (s t : State) (n : Nat) (f : Marks) : Prop :=
  (f.dest ≠ 0 → ∀ e < 8192, (t.hart.masks[f.dest]?.getD 0).getLsbD e =
    if governed s f.mask e then (f.bit e).1 else (s.hart.masks[f.dest]?.getD 0).getLsbD e) ∧
  (∀ r, r ≠ f.dest ∨ r = 0 → t.hart.masks[r]?.getD 0 = s.hart.masks[r]?.getD 0) ∧
  t = { moved s n with
    hart := { (moved s n).hart with
      masks := t.hart.masks
      fpctl := s.hart.fpctl ||| BitVec.ofNat 64 (2 ^ 8 * (List.range (count s)).foldl
        (fun fl e => if governed s f.mask e then fl ||| (f.bit e).2 else fl) 0)
      perf := s.hart.perf.setIfInBounds 1 (s.hart.perf[1] + BitVec.ofNat 64 ((count s + s.hart.lanes - 1) / s.hart.lanes)) } }

/-- The state after a form of `n` bytes that writes one scalar register and counts its element groups. -/
def scored (s : State) (n r : Nat) (v : Word) : State :=
  let u := moved (wx s r v) n
  { u with hart := { u.hart with
      perf := s.hart.perf.setIfInBounds 1 (s.hart.perf[1] + BitVec.ofNat 64 ((count s + s.hart.lanes - 1) / s.hart.lanes)) } }

/-- The active elements whose bit is set in a mask register, in order. -/
def markedElems (s : State) (m a : Nat) : List Nat := (List.range (count s)).filter fun e => governed s m e && maskBit s a e

/-- A brick element as a register value: signed types extend their sign (R173). -/
def elemWord (s : State) (v : Nat) : Word := if elemType s < 4 then asWord (signedField (elemWidth s) v) else BitVec.ofNat 64 v

end Sys2Proof.Claims

/-- R95, R167 to R169. -/
def Sys2Proof.Claims.ConversionResults : Prop :=
  ∀ (s : State) (i : Instr) (f : Fill) (legal : Prop), wellFormed i = true → convertFill s (inPlace s) i = some (f, legal) → BrickReady s →
    elemType s < 12 → (legal → ∃ t, exec i s = .next t ∧ Filled s t 4 f) ∧
      (¬ legal → s.hart.depth < 2 → exec i s = .next (trapped s (ownTrap s 2 0 0 0 0)))

/-- Elements of `w` bits of a packed register hold their values, and no other bit of a brick has changed (R84, R168). -/
def Sys2Proof.Claims.PackedBits (s t : State) (vd w : Nat) (on : Nat → Bool) (value : Nat → Nat × Nat) : Prop :=
  (∀ e, on e = true → packedOf t w vd e = (value e).1 % 2 ^ w) ∧
    (∀ l j, l < s.hart.lanes → j < 2048 →
      (∀ e, on e = true → e % s.hart.lanes = l → j < w * (e / s.hart.lanes) ∨ w * (e / s.hart.lanes) + w ≤ j) →
      laneBits t.hart.bricks vd l j 1 = laneBits s.hart.bricks vd l j 1) ∧
    ∀ b, b < 8192 * vd ∨ 8192 * vd + 256 * s.hart.lanes ≤ b → mget t.hart.bricks b = mget s.hart.bricks b

/-- A pack of `n` bytes has written the bits of its active elements in a packed brick, and no other bit. -/
def Sys2Proof.Claims.Packed (s t : State) (n vd m code rm : Nat) (source : Nat → Nat) : Prop :=
  let w := (codeElem code).width
  let mode := modeOf s rm
  let value (e : Nat) := converted s (etypeElem (elemType s)) (codeElem code) false mode e (source e)
  PackedBits s t vd w (governed s m) value ∧
    t = { moved s n with
      hart := { (moved s n).hart with
        bricks := t.hart.bricks, btag := t.hart.btag
        fpctl := s.hart.fpctl ||| BitVec.ofNat 64 (2 ^ 8 * (List.range (count s)).foldl
          (fun fl e => if governed s m e then fl ||| (value e).2 else fl) 0)
        rseed := s.hart.rseed + (if !holdsAll (etypeElem (elemType s)) (codeElem code) && mode == 4 then BitVec.ofNat 64 (count s) else 0)
        perf := s.hart.perf.setIfInBounds 1 (s.hart.perf[1] + BitVec.ofNat 64 ((count s + s.hart.lanes - 1) / s.hart.lanes)) } } ∧
    ∀ r, r ≠ vd → t.hart.btag[r]? = s.hart.btag[r]?

/-- R84, R168, R169: the bits of active elements of a packed brick, and no other bit; a packed brick that does not fit, or that overlaps its source
with another width, is an illegal operand. -/
def Sys2Proof.Claims.PackResults : Prop :=
  ∀ (s : State) (vd a code m rm c : Nat), wellFormed (.vpack vd a code m rm c) = true →
    let legal : Prop := PackedFits s (codeElem code).width ∧ (vd = a → (codeElem code).width = elemWidth s)
    (legal → BrickReady s → elemType s < 12 →
      ∃ t, exec (.vpack vd a code m rm c) s = .next t ∧ Packed s t 4 vd m code rm (elemOf s a)) ∧
    (¬ legal → CanTrap s → exec (.vpack vd a code m rm c) s = .next (trapped s (ownTrap s 2 0 0 0 0)))

/-- R170, R171. That inactive elements leave holes in the tree of a float sum is the model's choice (log 36). -/
def Obligations.ReductionResults : Prop :=
  ∀ (s : State) (i : Instr) (f : Fill) (cls : Nat), wellFormed i = true → reduceFill s (inPlace s) i = some (f, cls) → BrickReady s →
    ClassFits s cls → elemType s < 12 → ∃ t, exec i s = .next t ∧ Filled s t 4 f

/-- R172, R173. -/
def Obligations.PermuteAndMoveResults : Prop :=
  ∀ (s : State) (i : Instr) (f : Fill) (legal : Prop), wellFormed i = true → permuteFill s i = some (f, legal) → BrickReady s →
    (legal → ∃ t, exec i s = .next t ∧ Filled s t 4 f) ∧
      (¬ legal → s.hart.depth < 2 → exec i s = .next (trapped s (ownTrap s 2 0 0 0 0)))

/-- R157, R165. A compare reads a subnormal float as zero under FTZ: R165 does not name FTZ, and that R79 covers compares is the model's choice
(log 27). -/
def Sys2Proof.Claims.CompareResults : Prop :=
  ∀ (s : State) (i : Instr) (f : Marks), wellFormed i = true → compareMarks s (inPlace s) (inPlace s) i = some f → BrickReady s → ClassFits s f.cls →
    OffsetZero s f.offset → ∃ t, exec i s = .next t ∧ Marked s t 4 f

/-- R157, R166. -/
def Sys2Proof.Claims.MaskResults : Prop :=
  (∀ (s : State) (i : Instr) (f : Marks), wellFormed i = true → maskMarks s i = some f → BrickReady s →
    ∃ t, exec i s = .next t ∧ Marked s t 4 f) ∧
  (∀ (s : State) (xd a m : Nat), xd < 8 → a < 8 → m < 8 → BrickReady s →
    exec (.vmpopc xd a m) s = .next (scored s 4 xd (BitVec.ofNat 64 (markedElems s m a).length)) ∧
    exec (.vmfirst xd a m) s = .next (scored s 4 xd (match (markedElems s m a).head? with
      | some e => BitVec.ofNat 64 e
      | none => asWord (-1))))

/-- R135, R173: the element that a register names, and an index beyond the brick. -/
def Sys2Proof.Claims.ElementExtraction : Prop :=
  ∀ (s : State) (xd a xs m c : Nat), wellFormed (.vextx xd a xs m c) = true → BrickReady s →
    ((rx s xs).toNat < count s →
      exec (.vextx xd a xs m c) s = .next (scored s 4 xd
        (if governed s m (rx s xs).toNat then elemWord s (elemOf s a (rx s xs).toNat) else 0))) ∧
    (count s ≤ (rx s xs).toNat → s.hart.depth < 2 → exec (.vextx xd a xs m c) s = .next (trapped s (ownTrap s 2 0 0 0 0)))

/-- The brick sources that offsets displace, in compares, conversions, reductions and the extraction of an element. -/
def Sys2Proof.Claims.sourcesOf : Instr → Nat × Option Nat
  | .vceq _ a b _ _ _ _ | .vcne _ a b _ _ _ _ | .vclt _ a b _ _ _ _ | .vcle _ a b _ _ _ _ | .vcun _ a b _ _ _ _ => (a, some b)
  | .vceqx _ a _ _ _ _ | .vcnex _ a _ _ _ _ | .vcltx _ a _ _ _ _ | .vclex _ a _ _ _ _ | .vcgtx _ a _ _ _ _ | .vcgex _ a _ _ _ _ => (a, none)
  | .vcvt _ a _ _ _ _ | .vcvtSat _ a _ _ _ _ | .vpack _ a _ _ _ _ | .vrsum _ a _ _ _ _ | .vextx _ a _ _ _ => (a, none)
  | .vrmin _ a _ _ _ | .vrmax _ a _ _ _ | .vrand _ a _ _ _ | .vror _ a _ _ _ | .vrxor _ a _ _ _ => (a, none)
  | _ => (0, none)

/-- Every source of a form may be read at its offset, and no offset stands for a field that names no brick (R152). -/
def Sys2Proof.Claims.Displaced.Fits (d : Displaced) (s : State) (j : Instr) (dest : Option Nat) : Prop :=
  d.SourceFits s (sourcesOf j).1 d.off1 dest ∧
    match (sourcesOf j).2 with
    | some r => d.SourceFits s r d.off2 dest
    | none => d.off2 = ⟨0, 0, 0⟩

/-- The readers of the two sources at their offsets. -/
def Sys2Proof.Claims.Displaced.reader (d : Displaced) (s : State) (off : Triple) : Reader := fun size reg e => d.readSized s size reg e off

/-- R19, R25, R31, R117, R152, R165, R167 to R173: compares, conversions, packs, reductions and the extraction of an element read their
sources at their offsets. -/
def Sys2Proof.Claims.OtherFormsReadAtTheirOffsets : Prop :=
  ∀ (s : State) (j : Instr) (d : Displaced), wellFormed j = true → d.ovr < 4 → BrickReady s → elemType s < 12 →
    let rd1 := d.reader s d.off1
    let rd2 := d.reader s d.off2
    (∀ f, compareMarks s rd1 rd2 j = some f → DisplacedAs s j f.offset d → ClassFits s f.cls → d.Fits s j none →
      ∃ t, exec d.i s = .next t ∧ Marked s t d.bytes f) ∧
    (DisplacedAs s j 0 d →
      (∀ f legal vd a code m rm c, (j = .vcvt vd a code m rm c ∨ j = .vcvtSat vd a code m rm c) → convertFill s rd1 j = some (f, legal) →
        legal → d.Fits s j (some vd) → ∃ t, exec d.i s = .next t ∧ Filled s t d.bytes f) ∧
      (∀ f cls, reduceFill s rd1 j = some (f, cls) → ClassFits s cls → d.Fits s j (some f.dest) →
        ∃ t, exec d.i s = .next t ∧ Filled s t d.bytes f) ∧
      (∀ vd a code m rm c, j = .vpack vd a code m rm c → PackedFits s (codeElem code).width → (vd = a → (codeElem code).width = elemWidth s) →
        d.Fits s j (some vd) → ∃ t, exec d.i s = .next t ∧ Packed s t d.bytes vd m code rm (rd1 (elemSize s) a)) ∧
      ∀ xd a xs m c, j = .vextx xd a xs m c → (rx s xs).toNat < count s → d.Fits s j none →
        exec d.i s = .next (scored s d.bytes xd
          (if governed s m (rx s xs).toNat then elemWord s (rd1 (elemSize s) a (rx s xs).toNat) else 0)))

/-- A source that may not be read at its offset: a magnitude beyond the extent (R19); an entry of kind 5 that its reads can use and whose hart is not
there, has another shape or another element size (R26), or an entry of kind 7 whose stream has another element size (R184); a destination that the
source can reach at an offset that is not zero (R32). -/
def Sys2Proof.Claims.Displaced.Misfits (d : Displaced) (s : State) (reg : Nat) (off : Triple) (dest : Option Nat) : Prop :=
  let r := reach (d.capture s) s.hart.idx reg off
  extent s.hart.bshape 0 < off.dx.natAbs ∨ extent s.hart.bshape 1 < off.dy.natAbs ∨ extent s.hart.bshape 2 < off.dz.natAbs ∨
    (∃ w ∈ r.2, w.toNat % 16 = 5 ∧
      ∀ h, coreHartIdx s (w.toNat / 2 ^ 9 % 8) = some h → h.bshape ≠ s.hart.bshape ∨ etypeSize (h.vtype.toNat % 16) ≠ elemSize s) ∨
    (∃ w ∈ r.2, w.toNat % 16 = 7 ∧ 2 ^ ((s.hart.streams[w.toNat / 16 % 16]?.getD 0).toNat / 2 ^ 352 % 4) ≠ elemSize s) ∨
    (off ≠ ⟨0, 0, 0⟩ ∧ ∃ v, dest = some v ∧ Stand.reg none v ∈ r.1)

/-- The brick that such a form writes, if it writes one. -/
def Sys2Proof.Claims.brickWritten : Instr → Option Nat
  | .vcvt vd _ _ _ _ _ | .vcvtSat vd _ _ _ _ _ | .vpack vd _ _ _ _ _ | .vrsum vd _ _ _ _ _ => some vd
  | .vrmin vd _ _ _ _ | .vrmax vd _ _ _ _ | .vrand vd _ _ _ _ | .vror vd _ _ _ _ | .vrxor vd _ _ _ _ => some vd
  | _ => none

/-- Which fields of a prefixed form name a brick that an offset displaces, vs1 and vs2, and whether it reads a brick at all (R120, R152). -/
def Sys2Proof.Claims.prefixFields : Instr → Option (Bool × Bool × Bool)
  | .vmand _ _ _ _ | .vmor _ _ _ _ | .vmxor _ _ _ _ | .vmandn _ _ _ _ | .vmnot _ _ _ | .vmpopc _ _ _ | .vmfirst _ _ _ => some (false, false, false)
  | .vmovx _ _ _ _ | .vcoordX _ _ _ _ | .vcoordY _ _ _ _ | .vcoordZ _ _ _ _ => some (false, false, false)
  | .vunpk _ _ _ _ _ _ => some (false, false, true)
  | .vceqx _ _ _ _ _ _ | .vcnex _ _ _ _ _ _ | .vcltx _ _ _ _ _ _ | .vclex _ _ _ _ _ _ | .vcgtx _ _ _ _ _ _ | .vcgex _ _ _ _ _ _ => some (true, false, true)
  | .vcvt _ _ _ _ _ _ | .vcvtSat _ _ _ _ _ _ | .vpack _ _ _ _ _ _ | .vrsum _ _ _ _ _ _ | .vextx _ _ _ _ _ => some (true, false, true)
  | .vrmin _ _ _ _ _ | .vrmax _ _ _ _ _ | .vrand _ _ _ _ _ | .vror _ _ _ _ _ | .vrxor _ _ _ _ _ => some (true, false, true)
  | .vceq _ _ _ _ _ _ _ | .vcne _ _ _ _ _ _ _ | .vclt _ _ _ _ _ _ _ | .vcle _ _ _ _ _ _ _ | .vcun _ _ _ _ _ _ _ => some (true, true, true)
  | _ => none

/-- R19, R26, R32, R152, R184: a form with a displaced source that may not be read at its offset is an illegal operand, whether an entry or a prefix
displaces it. -/
def Sys2Proof.Claims.SourcesThatDoNotFitTrap : Prop :=
  ∀ (s : State) (j : Instr) (d : Displaced), wellFormed j = true → d.ovr < 4 → CanTrap s →
    (∀ o, intOp s j = some o ∨ floatOp s j = some o → DisplacedAs s j o.offset d →
      (d.Misfits s o.src1 d.off1 (some o.dest) ∨ ∃ r, o.src2 = some r ∧ d.Misfits s r d.off2 (some o.dest)) →
      exec d.i s = .next (trapped s (ownTrap s 2 0 0 0 0))) ∧
    ∀ p2 any cls n, prefixFields j = some (true, p2, any) → otherClass j = some (cls, n) → DisplacedAs s j n d →
      (d.Misfits s (sourcesOf j).1 d.off1 (brickWritten j) ∨ ∃ r, (sourcesOf j).2 = some r ∧ d.Misfits s r d.off2 (brickWritten j)) →
      exec d.i s = .next (trapped s (ownTrap s 2 0 0 0 0))

/-- R117, R152: an offset for a field that names no brick and an override before a form that reads none are illegal operands; without
them such a form runs as it does alone, as one instruction of 8 bytes. -/
def Sys2Proof.Claims.PrefixesFitTheirForms : Prop :=
  ∀ (s : State) (j : Instr) (d : Displaced) (p1 p2 any : Bool), wellFormed j = true → DisplacedAs s j 0 d → d.bytes = 8 → d.ovr < 4 →
    prefixFields j = some (p1, p2, any) →
    ((p1 = false ∧ d.off1 ≠ ⟨0, 0, 0⟩) ∨ (p2 = false ∧ d.off2 ≠ ⟨0, 0, 0⟩) ∨ (any = false ∧ d.ovr ≠ 0) → CanTrap s →
      exec d.i s = .next (trapped s (ownTrap s 2 0 0 0 0))) ∧
    (p1 = false → p2 = false → d.off1 = ⟨0, 0, 0⟩ → d.off2 = ⟨0, 0, 0⟩ → (any = false → d.ovr = 0) → BrickReady s → elemType s < 12 →
      (∀ f, maskMarks s j = some f → ∃ t, exec d.i s = .next t ∧ Marked s t 8 f) ∧
      (∀ f legal, (permuteFill s j = some (f, legal) ∨ convertFill s (inPlace s) j = some (f, legal)) → legal →
        ∃ t, exec d.i s = .next t ∧ Filled s t 8 f) ∧
      (∀ xd a m, j = .vmpopc xd a m → exec d.i s = .next (scored s 8 xd (BitVec.ofNat 64 (markedElems s m a).length))) ∧
      ∀ xd a m, j = .vmfirst xd a m → exec d.i s = .next (scored s 8 xd (match (markedElems s m a).head? with
        | some e => BitVec.ofNat 64 e
        | none => asWord (-1))))

/-- R84, R95, R167 to R169: conversions, packs and unpacks. Flags of a float that an integer does not hold (log 93), infinities without a code (log
25), FTZ in packs and unpacks (log 94) are the model's choices. -/
def Obligations.ConversionsAndPacks : Prop := ConversionResults ∧ PackResults

/-- R135, R157, R165, R166, R173: compares (with log 27), mask forms, and the element that a register names. -/
def Obligations.ComparesMasksAndElements : Prop := CompareResults ∧ MaskResults ∧ ElementExtraction

/-- R19, R25, R26, R31, R32, R117, R120, R152, R184: prefixes before compares, conversions, packs, reductions, mask forms, moves and extractions, and
sources of every form that may not be read at their offsets. What holds of compares under FTZ (log 27), of flags of conversions (log 93) and of an entry
of kind 7 in another hart's table (log 88) is the model's choice. -/
def Obligations.PrefixesDisplaceEveryForm : Prop := OtherFormsReadAtTheirOffsets ∧ SourcesThatDoNotFitTrap ∧ PrefixesFitTheirForms

namespace Sys2Proof.Claims

open Sys2Proof.Machine

/-! Accesses of the hart, one after the other. -/

/-- The state after some elements have acted, in order; a condition that holds before the first and after each of them. -/
def along (step : Nat → State → State) (els : List Nat) (s : State) : State := els.foldl (fun u e => step e u) s

def AllAlong (step : Nat → State → State) (P : State → Prop) : List Nat → State → Prop
  | [], s => P s
  | e :: es, s => P s ∧ AllAlong step P es (step e s)

/-- A plain read of the hart of `n` bytes (R54): what it leaves. -/
def readStep (va pa : Nat → Nat) (n kind e : Nat) (u : State) : State := readLeft u (va e) (pa e) n kind

/-- A read of an engine of the hart (R66): its request. -/
def engineStep (pa : Nat → Nat) (e : Nat) (u : State) : State := request u.hart.deadline u (pa e) 0

/-- A plain write of the hart: its bytes are its own, unpublished, and the access is counted (R53, R54, R317). -/
def writeStep (va pa : Nat → Nat) (bs : Nat → List Byte) (kind e : Nat) (u : State) : State :=
  touch (hartWrite u (va e) (pa e) (bs e)) (pa e) kind

/-- An access finds its translation at hand (R314, R316) and its home (R360), and leaves both as they are. -/
def Placed (u : State) (acc va pa : Nat) : Prop := locate (hartView u) acc va u = (u, .ok pa) ∧ reachHome u pa = (u, .ok pa)

/-- A plain read is served: its translation, which keeps alignment, is at hand, its home answers where a byte is fetched, data is there (R54, R385). -/
def ReadServed (u : State) (va pa n : Nat) : Prop :=
  locate (hartView u) 0 va u = (u, .ok pa) ∧ va % 8 = pa % 8 ∧ Reaches u va pa n ∧ Readable u va pa n

/-- Whether a read of an engine finds every byte: its home gives those that the hart has not written. -/
def EngineReadable (s : State) (v : View) (va pa n : Nat) : Prop :=
  ∀ k < n, ownByte s.hart (v.loc (va + k)) = none → uncorrectable s (pa + k) 1 = false

/-- The accesses of a list are served, whichever of them have been made. -/
def Reads (s : State) (els : List Nat) (va pa : Nat → Nat) (n kind : Nat) : Prop :=
  AllAlong (readStep va pa n kind) (fun u => ∀ e ∈ els, ReadServed u (va e) (pa e) n) els s

def EngineReads (s : State) (els : List Nat) (va pa : Nat → Nat) (n : Nat) : Prop :=
  AllAlong (engineStep pa) (fun u => ∀ e ∈ els, Placed u 0 (va e) (pa e) ∧ EngineReadable u (hartView u) (va e) (pa e) n) els s

def Writes (s : State) (els : List Nat) (va pa : Nat → Nat) (bs : Nat → List Byte) (kind : Nat) : Prop :=
  AllAlong (writeStep va pa bs kind) (fun u => ∀ e ∈ els, Placed u 1 (va e) (pa e)) els s

def readAll (s : State) (els : List Nat) (va pa : Nat → Nat) (n kind : Nat) : State := along (readStep va pa n kind) els s

def writeAll (s : State) (els : List Nat) (va pa : Nat → Nat) (bs : Nat → List Byte) (kind : Nat) : State :=
  along (writeStep va pa bs kind) els s

/-- No two elements share a byte of `n` from `f`. -/
def Apart (on : Nat → Prop) (f : Nat → Nat) (n : Nat) : Prop := ∀ d e, on d → on e → d ≠ e → f d + n ≤ f e ∨ f e + n ≤ f d

/-- Bytes at a place after elements have written `n` bytes each at theirs, the one with the highest index last (R52, R194): what a byte is
after (`now`), and what it was. -/
def LastWrites {α : Type} (els : List Nat) (place : Nat → Nat) (n : Nat) (bs : Nat → Nat → α) (was now : Nat → α) : Prop :=
  (∀ e ∈ els, ∀ k < n, (∀ d ∈ els, e < d → ¬ (place d ≤ place e + k ∧ place e + k < place d + n)) → now (place e + k) = bs e k) ∧
    ∀ a, (∀ e ∈ els, a < place e ∨ place e + n ≤ a) → now a = was a

/-- The elements that a mask governs, in order; those that a test keeps. -/
def activeElems (s : State) (m : Nat) (p : Nat → Bool) : List Nat := (List.range (count s)).filter fun e => governed s m e && p e

/-- The counters after all element groups. -/
def groupedPerf (s : State) : Vector Word 8 :=
  s.hart.perf.setIfInBounds 1 (s.hart.perf[1] + BitVec.ofNat 64 ((count s + s.hart.lanes - 1) / s.hart.lanes))

/-- The same as `Filled`, where the form has also left `b` in place of the state it started in, and raises no flag and draws nothing. -/
def FilledFrom (s b t : State) (n : Nat) (f : Fill) : Prop :=
  (∀ e, f.on s e = true → elemAt t.hart.bricks s.hart.lanes (elemSize s) f.dest e = (f.value 0 e).1 % 2 ^ elemWidth s) ∧
  (∀ a, (∀ e, f.on s e = true → a < f.place s e ∨ f.place s e + elemSize s ≤ a) → mget t.hart.bricks a = mget s.hart.bricks a) ∧
  t = { moved b n with
    hart := { (moved b n).hart with bricks := t.hart.bricks, btag := s.hart.btag.setIfInBounds f.dest (f.tag s), perf := groupedPerf b } }

/-! Streams (R182 to R189): bits `lo` to `lo + n - 1` of a stream register. -/

def streamBits (r : BitVec 512) (lo n : Nat) : Nat := r.toNat / 2 ^ lo % 2 ^ n

def streamOf (s : State) (sn : Nat) : BitVec 512 := s.hart.streams[sn]?.getD 0

/-- Tensor coordinate of an element, whether it lies inside, its address. -/
def tensorCoord (s : State) (sn axis e : Nat) : Nat := streamBits (streamOf s sn) (384 + 32 * axis) 32 + coordOn s axis e

def insideTensor (s : State) (sn e : Nat) : Bool :=
  [0, 1, 2].all fun axis => decide (tensorCoord s sn axis e < streamBits (streamOf s sn) (256 + 32 * axis) 32)

def tensorAddr (s : State) (sn e : Nat) : Int :=
  streamBits (streamOf s sn) 0 55 + tensorCoord s sn 0 e * signedField 64 (streamBits (streamOf s sn) 64 64) +
    tensorCoord s sn 1 e * signedField 64 (streamBits (streamOf s sn) 128 64) +
    tensorCoord s sn 2 e * signedField 64 (streamBits (streamOf s sn) 192 64)

/-- An element's address is aligned and in the address space (R187). -/
def Legal (s : State) (a : Int) : Prop := a % elemSize s = 0 ∧ 0 ≤ a ∧ a < 2 ^ 55

/-- A stream register at another position, and at the position after an .adv form under a shape (R189). -/
def atPosition (r : BitVec 512) (x y z : Nat) : BitVec 512 :=
  BitVec.ofNat 512 (r.toNat % 2 ^ 384 + x * 2 ^ 384 + y * 2 ^ 416 + z * 2 ^ 448 + r.toNat / 2 ^ 480 * 2 ^ 480)

def nextPosition (r : BitVec 512) (b : Word) : BitVec 512 :=
  let go (axis : Nat) : Nat := min (streamBits r (384 + 32 * axis) 32 + extent b axis) (2 ^ 32 - 1)
  if go 0 < streamBits r 256 32 then atPosition r (go 0) (streamBits r 416 32) (streamBits r 448 32)
  else if go 1 < streamBits r 288 32 then atPosition r 0 (go 1) (streamBits r 448 32)
  else atPosition r 0 0 (go 2)

/-- A stream register changed, and the pacer told where its look-ahead is on (R186). -/
def restreamed (s : State) (sn : Nat) (r : BitVec 512) : State :=
  { s with
    hart := { s.hart with streams := s.hart.streams.setIfInBounds sn r }
    agenda := s.agenda ++ if streamBits r 360 4 = 0 then [] else [.pacerTranslate s.hart.slot sn] }

/-- The issue of a stream form (R186, R189). -/
def streamed (s : State) (adv : Bool) (sn : Nat) : State :=
  restreamed s sn (if adv then nextPosition (streamOf s sn) s.hart.bshape else streamOf s sn)

/-- The counter of a stream access (R317). -/
def streamKind (s : State) (sn : Nat) : Nat := if signedField 64 (streamBits (streamOf s sn) 64 64) = elemSize s then 0 else 1

/-- The stream serves elements of the type (R184). -/
def StreamFits (s : State) (sn : Nat) : Prop := 2 ^ streamBits (streamOf s sn) 352 2 = elemSize s

/-- Address of an indexed element (R190). -/
def indexed (s : State) (sn mode vi e : Nat) : Int :=
  streamBits (streamOf s sn) 0 55 + signedField (elemWidth s) (elemOf s vi e) * if mode = 0 then (elemSize s : Int) else 1

/-- Bytes as an engine of the hart reads them (R66): its own writes, else what the home holds now. -/
def engineSeen (s : State) (va pa n : Nat) : List Byte :=
  (List.range n).map fun k => match ownByte s.hart (hartLoc s (va + k)) with
    | some o => o.val
    | none => mget s.memory (homeAddr s (pa + k))

/-- Where an element's scratchpad bytes lie (R46, R194). -/
def scratchPlace (s : State) (vi e : Nat) : Nat := 16384 * (e % s.hart.lanes) + elemOf s vi e

/-- A form that makes an access for each of some active elements: the state its issue leaves, the mask, which elements make one, the address or
offset of an element, the kind of access, what an access leaves, when it can be made, why it faults, whether the lane groups stop together
(R198), what an access leaves whose data cannot be corrected, and the brick it fills with the value of each active element. -/
structure Access where
  start : State
  mask : Nat
  makes : Nat → Bool
  addr : Nat → Int
  acc : Nat
  step : Nat → State → State
  served : State → Nat → Prop
  faults : State → Nat → AccFault → Prop
  together : Bool := false
  loses : Nat → State → State := fun _ u => u
  fill : Option (Nat × (Nat → Nat)) := none

/-- Why an element at an exact address faults before its home is met (R38, R187): misaligned, outside the address space, or what its translation
finds. -/
def AddressFaults (u : State) (acc n : Nat) (a : Int) (f : AccFault) : Prop :=
  (a % n ≠ 0 ∧ f = { cause := 3 }) ∨ (a % n = 0 ∧ ¬ (0 ≤ a ∧ a < 2 ^ 55) ∧ f = { cause := 4 }) ∨
    (a % n = 0 ∧ 0 ≤ a ∧ a < 2 ^ 55 ∧ locate (hartView u) acc a.toNat u = (u, .error f))

/-- The fault of data that cannot be corrected, here or in another module (R209, R385). -/
def lossAt (u : State) (pa : Nat) : AccFault :=
  { cause := if paModule pa = ownModule u then 12 else 11, sub := 6, data := true }

/-- Why a plain read of an element faults: its address, its home where it fetches, data that cannot be corrected. -/
def ReadFaults (u : State) (n : Nat) (a : Int) (pa : Nat) (f : AccFault) : Prop :=
  AddressFaults u 0 n a f ∨ (a % n = 0 ∧ 0 ≤ a ∧ a < 2 ^ 55 ∧ locate (hartView u) 0 a.toNat u = (u, .ok pa) ∧
    ((fetches u a.toNat pa n = true ∧ reachHome u pa = (u, .error f)) ∨
      (Reaches u a.toNat pa n ∧ ¬ Readable u a.toNat pa n ∧ f = lossAt u pa)))

/-! Index-list packets (R191, R192). -/

/-- Where the access of an element goes that passes its checks. -/
def placeOf (u : State) (acc n : Nat) (a : Int) : Option Nat :=
  if a % n = 0 ∧ 0 ≤ a ∧ a < 2 ^ 55 then
    match (locate (hartView u) acc a.toNat u).2 with
    | .ok pa => some (homeAddr u pa)
    | .error _ => none
  else none

/-- The elements that go in one packet with an element: alone where its home is here, else those of its element group that go to the same module. -/
def packetMates (u : State) (acc n : Nat) (els : List Nat) (addr : Nat → Int) (e : Nat) : List Nat :=
  els.filter fun x => x / u.hart.lanes == e / u.hart.lanes && match placeOf u acc n (addr x), placeOf u acc n (addr e) with
    | some p, some q => if paModule q = ownModule u then x == e else paModule p == paModule q
    | _, _ => false

/-- The packet goes out with its first element, `data` bytes for each (log 101). -/
def packetLeft (acc n data : Nat) (els : List Nat) (addr : Nat → Int) (e : Nat) (u : State) : State :=
  let mates := packetMates u acc n els addr e
  match placeOf u acc n (addr e) with
  | some pa => if mates.head? = some e then request u.hart.deadline u pa (data * mates.length) else u
  | none => u

/-- Some element of the packet is not answered in time, so that all of it fails (R191, R351, R359). -/
def PacketLate (u : State) (acc n : Nat) (els : List Nat) (addr : Nat → Int) (e : Nat) : Prop :=
  ∃ x ∈ packetMates u acc n els addr e, ∃ pa, placeOf u acc n (addr x) = some pa ∧ overdue u pa = true

/-- What meeting data that cannot be corrected leaves (R384): a plain read, a read of an engine. -/
def lostPlain (va pa n : Nat) (u : State) : State :=
  match (List.range n).find? fun k => !atHand u (va + k) (pa + k) && uncorrectable u (pa + k) 1 with
  | some k => lastingError u (pa + k) 1
  | none => u

def lostEngine (va pa n : Nat) (u : State) : State :=
  match (List.range n).find? fun k => (ownByte u.hart (hartLoc u (va + k))).isNone && uncorrectable u (pa + k) 1 with
  | some k => lastingError u (pa + k) 1
  | none => u

/-- Whether byte `o` of the scratchpad slice of an effective lane, which a physical lane serves (R43), cannot be corrected; what a read that meets one
leaves (R384). -/
def scratchSpoilt (u : State) (lane o : Nat) : Bool :=
  (physicalLane u.core (logicalLane u.core u.hart.lbase u.hart.psize lane)).any fun p => u.core.badScratch.contains (16384 * p + o)

def lostScratch (lane : Nat) (offs : List Nat) (u : State) : State :=
  match offs.find? (scratchSpoilt u lane), physicalLane u.core (logicalLane u.core u.hart.lbase u.hart.psize lane) with
  | some o, some p => arrayLasting u u.hart.coreNo 4 p o true
  | _, _ => u

/-- Why a scratchpad element faults (R194, R209, R385). -/
def OffsetFaults (s : State) (acc lane o : Nat) (f : AccFault) : Prop :=
  (o % elemSize s ≠ 0 ∧ f = { cause := 3 }) ∨ (o % elemSize s = 0 ∧ 16384 < o + elemSize s ∧ f = { cause := 4 }) ∨
    (o % elemSize s = 0 ∧ o + elemSize s ≤ 16384 ∧ acc = 0 ∧
      (∃ k < elemSize s, scratchSpoilt s lane (o + k) = true) ∧ f = { cause := 12, sub := 6, data := true })

/-- The stream, gather and scratchpad forms (R187, R190, R192, R194), with the physical addresses of their elements. -/
def accessOf (s : State) (pa : Nat → Nat) : Instr → Option Access
  | .vld vd sn m _ => some (loads false vd sn m)
  | .vldAdv vd sn m _ => some (loads true vd sn m)
  | .vst vd sn m _ => some (stores false vd sn m)
  | .vstAdv vd sn m _ => some (stores true vd sn m)
  | .vgath vd sn m mode vi _ => some {
      start := streamed s false sn, mask := m, makes := fun _ => true, addr := indexed s sn mode vi, acc := 0
      step := fun e u => touch (packetLeft 0 (elemSize s) 8 (activeElems s m fun _ => true) (indexed s sn mode vi) e u) (pa e) 2
      served := fun u e => Legal s (indexed s sn mode vi e) ∧ Placed u 0 (indexed s sn mode vi e).toNat (pa e) ∧
        portFull u (homeAddr u (pa e)) 0 = false ∧ ¬ PacketLate u 0 (elemSize s) (activeElems s m fun _ => true) (indexed s sn mode vi) e ∧
        EngineReadable u (hartView u) (indexed s sn mode vi e).toNat (pa e) (elemSize s)
      faults := fun u e f => AddressFaults u 0 (elemSize s) (indexed s sn mode vi e) f ∨
        (Legal s (indexed s sn mode vi e) ∧ locate (hartView u) 0 (indexed s sn mode vi e).toNat u = (u, .ok (pa e)) ∧
          portFull u (homeAddr u (pa e)) 0 = false ∧
          (reachHome u (pa e) = (u, .error f) ∨
            (reachHome u (pa e) = (u, .ok (pa e)) ∧
              ((PacketLate u 0 (elemSize s) (activeElems s m fun _ => true) (indexed s sn mode vi) e ∧ f = { cause := 11, sub := 1, data := true }) ∨
                (¬ PacketLate u 0 (elemSize s) (activeElems s m fun _ => true) (indexed s sn mode vi) e ∧
                  ¬ EngineReadable u (hartView u) (indexed s sn mode vi e).toNat (pa e) (elemSize s) ∧ f = lossAt u (pa e))))))
      loses := fun e u => lostEngine (indexed s sn mode vi e).toNat (pa e) (elemSize s)
        (packetLeft 0 (elemSize s) 8 (activeElems s m fun _ => true) (indexed s sn mode vi) e u)
      fill := some (vd, fun e => littleEndian (engineSeen s (indexed s sn mode vi e).toNat (pa e) (elemSize s))) }
  | .spld vd m vi _ => some {
      start := s, mask := m, makes := fun _ => true, addr := fun e => elemOf s vi e, acc := 0, step := fun _ u => u
      served := fun u e => ∀ f, ¬ OffsetFaults u 0 (e % s.hart.lanes) (elemOf s vi e) f
      faults := fun u e f => OffsetFaults u 0 (e % s.hart.lanes) (elemOf s vi e) f
      loses := fun e u => lostScratch (e % s.hart.lanes) ((List.range (elemSize s)).map (elemOf s vi e + ·)) u
      fill := some (vd, fun e => littleEndian ((List.range (elemSize s)).map fun k => mget s.hart.scratch (scratchPlace s vi e + k))) }
  | .spst vd m vi _ => some {
      start := s, mask := m, makes := fun _ => true, addr := fun e => elemOf s vi e, acc := 1
      step := fun e u => putScratch u (e % s.hart.lanes) (elemOf s vi e) (elemSize s) (elemOf s vd e)
      served := fun _ e => ∀ f, ¬ OffsetFaults s 1 (e % s.hart.lanes) (elemOf s vi e) f
      faults := fun _ e f => OffsetFaults s 1 (e % s.hart.lanes) (elemOf s vi e) f }
  | _ => none
where
  Room (u : State) (sn pa e : Nat) : Prop := fetches u (tensorAddr s sn e).toNat pa (elemSize s) = true → portFull u (homeAddr u pa) 0 = false
  loads (adv : Bool) (vd sn m : Nat) : Access := {
    start := streamed s adv sn, mask := m, makes := insideTensor s sn, addr := tensorAddr s sn, acc := 0
    step := readStep (fun e => (tensorAddr s sn e).toNat) pa (elemSize s) (streamKind s sn)
    served := fun u e => Legal s (tensorAddr s sn e) ∧ ReadServed u (tensorAddr s sn e).toNat (pa e) (elemSize s) ∧ Room u sn (pa e) e
    faults := fun u e f => ReadFaults u (elemSize s) (tensorAddr s sn e) (pa e) f ∧
      ∀ p, (locate (hartView u) 0 (tensorAddr s sn e).toNat u).2 = .ok p → Room u sn p e
    loses := fun e u => lostPlain (tensorAddr s sn e).toNat (pa e) (elemSize s) u
    fill := some (vd, fun e =>
      if insideTensor s sn e then littleEndian (seenBytes s (tensorAddr s sn e).toNat (pa e) (elemSize s)) else 0) }
  stores (adv : Bool) (vd sn m : Nat) : Access := {
    start := streamed s adv sn, mask := m, makes := insideTensor s sn, addr := tensorAddr s sn, acc := 1
    step := writeStep (fun e => (tensorAddr s sn e).toNat) pa (fun e => storedBytes (elemSize s) (elemOf s vd e)) (streamKind s sn)
    served := fun u e => Legal s (tensorAddr s sn e) ∧ Placed u 1 (tensorAddr s sn e).toNat (pa e)
    faults := fun u e f => AddressFaults u 1 (elemSize s) (tensorAddr s sn e) f }

/-- What such a form checks at issue besides (R184, R190, R194). -/
def AccessIssues (s : State) : Instr → Prop
  | .vld _ sn _ _ | .vldAdv _ sn _ _ | .vst _ sn _ _ | .vstAdv _ sn _ _ => StreamFits s sn
  | .vgath vd sn _ _ vi _ => StreamFits s sn ∧ vd ≠ vi
  | .spld vd _ vi _ => vd ≠ vi
  | _ => True

/-- The elements of a form that make an access. -/
def Access.els (a : Access) (s : State) : List Nat := activeElems s a.mask a.makes

/-- The state after all accesses of a form, before it completes. -/
def Access.left (a : Access) (s : State) : State := along a.step (a.els s) a.start

/-- The state after the issue of an instruction of `n` bytes that is in flight (R36, R136). -/
def issuedPast (s : State) (n : Nat) : State :=
  { moved s n with hart := { (moved s n).hart with instret := s.hart.instret, waiting := s.hart.waiting } }

/-- Element `x` is the lowest of those that fault and pass a test. -/
def LowestOf (bad : Nat → Option AccFault) (p : Nat → Prop) (x : Nat) (f : AccFault) : Prop :=
  bad x = some f ∧ p x ∧ ∀ y, (bad y).isSome = true → p y → x ≤ y

/-- The fault of an instruction in flight is held, with the record its trap will make (R36 to R39, R305): elements of group `k` fault, the reported
one is the lowest. A lane group that stops keeps its counter and the bits of the elements it committed; `together` makes all of them stop, and
`unsent` says that none of the group has acted. That the
fault is held until a trap strikes is log 3, that lane groups move together log 4, that TSEC names the reported lane group too log 22. -/
def FaultHeld (s t : State) (en : Entry) (k m : Nat) (bad : Nat → Option AccFault) (addr : Nat → Int) (acc : Nat) (together unsent : Bool) : Prop :=
  let lane (x : Nat) : Nat := x % s.hart.lanes / 8
  let stops (g : Nat) : Prop := together = true ∨ ∃ x, (bad x).isSome = true ∧ lane x = g
  ∃ x f h, LowestOf bad (fun _ => True) x f ∧ t.hart.inflight = [en] ∧ t.hart.held = some h ∧
    h.cause = f.cause ∧ h.sub = f.sub ∧ h.acc = acc ∧ h.elem = x ∧ h.addr = BitVec.ofInt 64 (addr x) ∧ h.po = f.po ∧ h.lg = lane x ∧
    h.w1 = s.hart.ir1 ∧ h.w2 = s.hart.ir2 ∧ h.pair = s.hart.irPair ∧ h.bmap = en.bmap ∧
    (∀ g < 8, (∀ y f', LowestOf bad (fun z => lane z = g) y f' → h.sec / 2 ^ (8 * g) % 256 = f'.cause % 256) ∧
      ((∀ y, lane y = g → bad y = none) → h.sec / 2 ^ (8 * g) % 256 = 0)) ∧
    en.w1 = s.hart.ir1 ∧ en.pc = hereAddr s.hart ∧
    (∀ g < (s.hart.lanes + 7) / 8, (stops g → en.cnt.getD g 0 = k) ∧ (¬ stops g → en.cnt.getD g 0 = k + 1)) ∧
    (∀ l < s.hart.lanes, en.bmap.testBit l = true ↔
      unsent = false ∧ stops (l / 8) ∧ governed s m (k * s.hart.lanes + l) = true ∧ bad (k * s.hart.lanes + l) = none) ∧
    (∀ v, takeTrap t v = enterTrap t (heldTrap t.hart h)) ∧ (heldTrap t.hart h).rpc = t.hart.pc ∧ (heldTrap t.hart h).ents = [en]

/-! Atomics (R195 to R198). -/

/-- The number of an atomic row (R196) with its fields d, xs1, b, acq, rel, v, w. -/
def atomicRow : Instr → Option (Nat × Nat × Nat × Nat × Nat × Nat × Nat × Nat)
  | .atomAld d xs1 b _ acq rel v w => some (0, d, xs1, b, acq, rel, v, w)
  | .atomAadd d xs1 b _ acq rel v w => some (1, d, xs1, b, acq, rel, v, w)
  | .atomAmin d xs1 b _ acq rel v w => some (2, d, xs1, b, acq, rel, v, w)
  | .atomAmax d xs1 b _ acq rel v w => some (3, d, xs1, b, acq, rel, v, w)
  | .atomAminZ d xs1 b _ acq rel v w => some (4, d, xs1, b, acq, rel, v, w)
  | .atomAmaxZ d xs1 b _ acq rel v w => some (5, d, xs1, b, acq, rel, v, w)
  | .atomAand d xs1 b _ acq rel v w => some (6, d, xs1, b, acq, rel, v, w)
  | .atomAor d xs1 b _ acq rel v w => some (7, d, xs1, b, acq, rel, v, w)
  | .atomAxor d xs1 b _ acq rel v w => some (8, d, xs1, b, acq, rel, v, w)
  | .atomSwap d xs1 b _ acq rel v w => some (9, d, xs1, b, acq, rel, v, w)
  | .atomCas d xs1 b _ acq rel v w => some (10, d, xs1, b, acq, rel, v, w)
  | .atomFadd d xs1 b _ acq rel v w => some (11, d, xs1, b, acq, rel, v, w)
  | .atomAst d xs1 b _ acq rel v w => some (12, d, xs1, b, acq, rel, v, w)
  | _ => none

/-- The value an atomic of `n` bytes leaves, from the old value, its operand and the compare value. -/
def atomicLeaves (op n old v cmp : Nat) : Nat :=
  match op with
  | 0 => old
  | 1 => (old + v) % 2 ^ (8 * n)
  | 2 => if signedField (8 * n) v < signedField (8 * n) old then v else old
  | 3 => if signedField (8 * n) old < signedField (8 * n) v then v else old
  | 4 => min old v
  | 5 => max old v
  | 6 => old &&& v
  | 7 => old ||| v
  | 8 => old ^^^ v
  | 10 => if old = cmp then v else old
  | 11 => (old + v) % 2 ^ (8 * n)
  | _ => v

/-- The access an atomic makes (R305, R312); whether it returns the old value. -/
def atomicAccess (op : Nat) : Nat := if op = 0 then 0 else if op = 12 then 1 else 3

def Returns (op : Nat) : Prop := op ≠ 1 ∧ op ≠ 12

/-- The address of an element of a vector atomic (R195). -/
def atomicPlace (s : State) (xs1 b e : Nat) : Int := (rx s xs1).toNat + signedField (elemWidth s) (elemOf s b e) * elemSize s

/-- The state in which a form waits and will be tried again at the same place (R324). -/
def stalled (s : State) : State := { s with hart := { s.hart with waiting := true } }

/-- What an atomic of an element leaves in the state before its result is written: the home byte string changed, the reply kept (R374), the request
sent, the access counted. -/
def atomicStep (op n : Nat) (va pa v cmp : Nat → Nat) (kind e : Nat) (u : State) : State :=
  let old := littleEndian (homeBytes u (pa e) n)
  touch (request u.hart.deadline (keepReply (locWrite u (hartLoc u (va e)) (pa e) (storedBytes n (atomicLeaves op n old (v e) (cmp e))))
    (homeAddr u (pa e)) old) (pa e) n) (pa e) kind

/-- The lines of an element at its home; those of them that no lower element of its group writes: each line of a group is published once (R58,
R67). -/
def placeLines (u : State) (n : Nat) (a : Int) : List Nat := ((placeOf u 1 n a).map fun pa => linesAt u pa n).getD []

def firstLines (u : State) (n : Nat) (els : List Nat) (addr : Nat → Int) (e : Nat) : List Nat :=
  (placeLines u n (addr e)).filter fun l =>
    !els.any fun x => decide (x < e) && x / u.hart.lanes == e / u.hart.lanes && (placeLines u n (addr x)).contains l

/-- A scatter's element: the lines stamped, the packet sent, the access counted, its bytes at the home and as the hart's own, published (R54, R60,
R192). -/
def scatterStep (n : Nat) (els : List Nat) (addr : Nat → Int) (pa : Nat → Nat) (bs : Nat → List Byte) (e : Nat) (u : State) : State :=
  scatterAt (addr e).toNat (pa e) (bs e)
    (touch (packetLeft 1 n (8 + n) els addr e (stampLines u (firstLines u n els addr e))) (pa e) 2)

/-- No line of an element group waits for a second shadow version when the group begins (R61). -/
def GroupsGo (step : Nat → State → State) (n lanes : Nat) (els : List Nat) (addr : Nat → Int) : List Nat → State → Prop
  | [], _ => True
  | e :: es, u =>
    ((∀ x ∈ els, x / lanes = e / lanes → e ≤ x) →
      ∀ x ∈ els, x / lanes = e / lanes → ∀ l ∈ placeLines u n (addr x), shadowBlocks u l = false) ∧
    GroupsGo step n lanes els addr es (step e u)

/-- The forms whose lane groups stop together (R191, R198): vscat, and vector atomics after their publication. -/
def groupedOf (s : State) (pa : Nat → Nat) (i : Instr) : Option Access :=
  match i with
  | .vscat vd sn m mode vi _ => some {
      start := streamed s false sn, mask := m, makes := fun _ => true, addr := indexed s sn mode vi, acc := 1
      step := scatterStep (elemSize s) (activeElems s m fun _ => true) (indexed s sn mode vi) pa fun e => storedBytes (elemSize s) (elemOf s vd e)
      served := fun u e => Legal s (indexed s sn mode vi e) ∧ Placed u 1 (indexed s sn mode vi e).toNat (pa e) ∧ moving u (pa e) = false ∧
        portFull u (homeAddr u (pa e)) 0 = false ∧ ¬ PacketLate u 1 (elemSize s) (activeElems s m fun _ => true) (indexed s sn mode vi) e ∧ uncorrectable u (pa e) (elemSize s) = false
      faults := fun u e f => AddressFaults u 1 (elemSize s) (indexed s sn mode vi e) f
      together := true }
  | _ =>
    match atomicRow i with
    | some (op, d, xs1, b, _, _, 1, m) => some {
        start := s, mask := m, makes := fun _ => true, addr := atomicPlace s xs1 b, acc := atomicAccess op
        step := atomicStep op (elemSize s) (fun e => (atomicPlace s xs1 b e).toNat) pa (elemOf s (if op = 10 then d + 1 else d)) (elemOf s d) 2
        served := fun u e => Legal s (atomicPlace s xs1 b e) ∧
          Placed u (atomicAccess op) (atomicPlace s xs1 b e).toNat (pa e) ∧ queuesAt u (pa e) = false ∧ moving u (pa e) = false ∧
          portFull u (homeAddr u (pa e)) 0 = false ∧ uncorrectable u (pa e) (elemSize s) = false
        faults := fun u e f => AddressFaults u (atomicAccess op) (elemSize s) (atomicPlace s xs1 b e) f
        together := true
        fill := if op = 1 ∨ op = 12 then none else some (d, fun e => littleEndian (homeBytes s (pa e) (elemSize s))) }
    | _ => none

/-- What such a form checks at issue besides (R184, R195). -/
def GroupedIssues (s : State) : Instr → Prop
  | .vscat _ sn _ _ _ _ => StreamFits s sn
  | _ => elemType s ∈ [2, 3, 6, 7] ∧ s.hart.elems = []

/-- Whether a request stamped from a deadline is served after it (R346, R348): there is one, and a delay stands at the line. -/
def LateBy (s : State) (deadline : Word) (pa : Nat) : Prop :=
  deadline ≠ 0 ∧ ∃ d, s.delays.find? (fun x => x.line == pa / 128) = some d ∧
    2 ^ 31 ≤ (stampAt deadline + 2 ^ 32 - stampAt (heldSum s.time (BitVec.ofNat 64 d.wait))) % 2 ^ 32

/-- The publication of a .rel form has been made from `s` to `u` (R197). -/
def Released (s u : State) (rel : Nat) : Prop := (rel = 0 ∧ u = s) ∨ (rel = 1 ∧ publishCounted s = (u, true))

/-- The end of an .acq form: the next phase begins (R197). -/
def acquired (s : State) (acq : Nat) : State := if acq = 1 then newPhase s else s

/-- The result register of a scalar atomic (R196). -/
def atomicReturned (s : State) (op n d old : Nat) : State :=
  if op = 1 ∨ op = 12 then s
  else wx s d (if n = 4 ∧ op ≠ 4 ∧ op ≠ 5 then asWord (signedField 32 old) else BitVec.ofNat 64 old)

end Sys2Proof.Claims

/-- R51, R53, R54, R63, R69, R266, R316, R317, R346, R348, R361, R365, R374: what an access leaves. A write of the hart is its own; an access is counted
for its frame; a request within the module sends nothing, one to another module its flits, and one that is served late is noted; a read finds the same
bytes again in its phase; a write at a home changes its bytes but for those that software does not write, and near caches drop their copies; an
atomic at another module leaves its reply there. -/
def Sys2Proof.Claims.AccessesLeaveTheirTraces : Prop :=
  (∀ (s : State) (va pa : Nat) (bs : List Byte), va + bs.length ≤ 2 ^ 55 →
    OwnAfter s (hartWrite s va pa bs).hart.own va pa bs ∧
      hartWrite s va pa bs = { s with hart := { s.hart with own := (hartWrite s va pa bs).hart.own } }) ∧
  (∀ (s : State) (pa kind n : Nat),
    (∀ k, tget (touchN s pa kind n).core.hot k 0 = tget s.core.hot k 0 + if k = 4 * (pa / 65536) + kind then n else 0) ∧
    touchN s pa kind n = { s with core := { s.core with hot := (touchN s pa kind n).core.hot } }) ∧
  (∀ (s : State) (d : Word) (pa n : Nat), let t := request d s pa n
    let a := homeAddr s pa
    ∃ more late, t.agenda = s.agenda ++ more ++ late ∧ (late = [] ∨ late = [.late s.hart.slot]) ∧ (late = [.late s.hart.slot] ↔ LateBy s d a) ∧
      t = { s with agenda := t.agenda, ports := t.ports, events := t.events } ∧
      (paModule a = ownModule s → more = [] ∧ t.ports = s.ports ∧ t.events = s.events) ∧
      ∀ p x, paModule a ≠ ownModule s → pathTo s (paModule a) (flitsOf n) = some p → countFlits (portOf s p.port) (flitsOf n) = some x →
        more = [] ∧ t.events = s.events ∧ portOf t p.port = { x with seq := (x.seq + flitsOf n) % 4096 } ∧ ∀ q ≠ p.port, portOf t q = portOf s q) ∧
  (∀ (s : State) (va pa n kind : Nat), va + 8 ≤ 2 ^ 55 → n ∈ [1, 2, 4, 8] → va % n = 0 → va % 8 = pa % 8 → Readable s va pa n →
    let t := readLeft s va pa n kind
    (∀ k < n, hartByte t (va + k) (pa + k) = hartByte s (va + k) (pa + k) ∧ atHand t (va + k) (pa + k) = true) ∧
    t = { s with
      hart := { s.hart with snap := t.hart.snap, perf := t.hart.perf }, core := { s.core with hot := t.core.hot }
      die := { s.die with near := t.die.near }, agenda := t.agenda, ports := t.ports, events := t.events } ∧
    (paModule (homeAddr s pa) = ownModule s ∨ fetches s va pa n = false → t.ports = s.ports ∧ t.events = s.events)) ∧
  (∀ (s : State) (loc pa : Nat) (bs : List Byte), s.memory.wf = true →
    let t := locWrite s loc pa bs
    let a := homeAddr s pa
    (∀ b, mget t.memory b = if a ≤ b ∧ b < a + bs.length then
      (mget s.memory b &&& fixedBits s b) ||| (bs.getD (b - a) 0 &&& ~~~(fixedBits s b)) else mget s.memory b) ∧
    t.memory.wf = true ∧ (∀ l, loc ≤ l → l < loc + bs.length → tfind t.die.near l = none) ∧
    (∀ l, l < loc ∨ loc + bs.length ≤ l → tfind t.die.near l = tfind s.die.near l) ∧
    t = { s with memory := t.memory, die := { s.die with near := t.die.near }, otherDies := t.otherDies }) ∧
  ∀ (s : State) (pa old : Nat), let t := keepReply s pa old
    (paModule pa = ownModule s → t = s) ∧
    (paModule pa ≠ ownModule s → ∃ id, id % 2 ^ 20 = s.nextSeq % 2 ^ 20 ∧ id / 2 ^ 27 = ownModule s ∧
      (∀ q, tfind t.replies q = if q = id then some ⟨pa, old⟩ else tfind s.replies q) ∧
      t = { s with replies := t.replies, nextSeq := s.nextSeq + 1 })

/-- R51, R54, R60, R70: a byte as the hart reads it. Its own write comes first, then what the phase has read, then the near cache's copy where it holds
the aligned 8 bytes around it of the page that is mapped, then the version of the home line that its phase still reads, then the home. That a
copy in the near cache stands for an alias too is the model's choice (log 92). -/
def Sys2Proof.Claims.ReadsFollowTheirPhase : Prop :=
  ∀ (s : State) (va pa : Nat), va % 8 = pa % 8 →
    let loc := hartLoc s va
    let a := homeAddr s pa
    let copied (k : Nat) : Prop := ∃ c, tfind s.die.near (loc / 8 * 8 + k) = some c ∧ c.pa = homeAddr s (pa / 8 * 8 + k)
    let served (v : Shadow) : Prop := v ∈ versions s ∧ v.line = a / 128 ∧ v.born ≤ s.hart.stamp ∧ s.hart.stamp < v.stamp ∧ v.mask.getLsbD (a % 128) = true
    (∀ o, ownByte s.hart loc = some o → hartByte s va pa = o.val) ∧
    (ownByte s.hart loc = none →
      (∀ b, tfind s.hart.snap loc = some b → hartByte s va pa = b) ∧
      (tfind s.hart.snap loc = none →
        ((∀ k < 8, copied k) → ∀ c, tfind s.die.near loc = some c → hartByte s va pa = c.val) ∧
        ((∃ k < 8, ¬ copied k) →
          (∀ v, served v → (∀ w, served w → w = v) → hartByte s va pa = v.bytes.getD (a % 128) 0) ∧
          ((∀ v, ¬ served v) → hartByte s va pa = mget s.memory a))))

/-- The adjacency entry of a face of a register, in the table of its hart: none stands for the reading hart (R21, R25). -/
def Sys2Proof.Claims.faceEntry (s : State) (owner : Option Nat) (r face : Nat) : Nat :=
  match owner with
  | none => (s.hart.adj[6 * r + face]?.getD 0).toNat
  | some i =>
    match coreHartIdx s i with
    | some h => (h.adj[6 * r + face]?.getD 0).toNat
    | none => 0

/-- One axis of a read that stands somewhere (R22 to R25, R28 to R30): where it stands then, and its coordinate there. -/
def Sys2Proof.Claims.crossFace (s : State) (at_ : Stand) (v n : Int) (face : Nat) : Stand × Int :=
  let past := if v < 0 then v + n else v - n
  if 0 ≤ v ∧ v < n then (at_, v)
  else
    match at_ with
    | .zero => (.zero, 0)
    | .scratch _ _ => (.zero, 0)
    | .stream k => (.stream k, past)
    | .reg owner r =>
      let w := faceEntry s owner r (if v < 0 then face else face + 1)
      match w % 16 with
      | 0 => (.zero, 0)
      | 1 => (.reg owner r, if v < 0 then 0 else n - 1)
      | 2 => (.reg owner r, past)
      | 3 => (.reg owner r, if v < 0 then -v - 1 else 2 * n - 1 - v)
      | 4 => (.reg owner (w / 16 % 32), past)
      | 5 => (.reg (if w / 2 ^ 9 % 8 = s.hart.idx then none else some (w / 2 ^ 9 % 8)) (w / 16 % 32), past)
      | 6 => (.scratch (w / 2 ^ 16 % 2 ^ 14) (w / 2 ^ 32 % 2 ^ 9), past)
      | _ => (.stream (w / 16 % 16), past)

/-- Where the element at an offset stands, with its coordinates, x first, then y, then z (R25). -/
def Sys2Proof.Claims.standing (s : State) (reg e : Nat) (off : Triple) : Stand × Int × Int × Int :=
  let a := crossFace s (.reg none reg) (coordX s e + off.dx) (extent s.hart.bshape 0) 0
  let b := crossFace s a.1 (coordY s e + off.dy) (extent s.hart.bshape 1) 2
  let c := crossFace s b.1 (coordZ s e + off.dz) (extent s.hart.bshape 2) 4
  (c.1, a.2, b.2, c.2)

/-- R16, R22 to R30, R54, R183: where a read at an offset ends through faces of every kind: in a register of the own or of another hart of the core,
laid out by its lanes, in a scratchpad halo, whose bytes wrap in their slice, or in a stream's memory. An entry of kind 6 or 7 in another hart's
table speaks of the reading hart's scratchpad and streams, and a stream gives elements of its own size (the model's choices, logs 87, 88, 89); a hart
that has ended reads 0 (log 90). -/
def Sys2Proof.Claims.FacesOfEveryKindAreCrossed : Prop :=
  ∀ (s : State) (d : Displaced) (size reg e : Nat) (off : Triple), d.ovr = 0 → 1 ≤ s.hart.lanes → reg < 32 → e < count s →
    off.dx.natAbs ≤ extent s.hart.bshape 0 → off.dy.natAbs ≤ extent s.hart.bshape 1 → off.dz.natAbs ≤ extent s.hart.bshape 2 →
    let p := standing s reg e off
    let i := elemAtXYZ s p.2.1.toNat p.2.2.1.toNat p.2.2.2.toNat
    let read := adjRead s (d.capture s) reg e off size
    (p.1 = .zero → read = (s, .ok 0)) ∧
    (∀ r, p.1 = .reg none r → read = (s, .ok (elemAt s.hart.bricks s.hart.lanes size r i))) ∧
    (∀ k r h, p.1 = .reg (some k) r → coreHartIdx s k = some h → read = (s, .ok (elemAt h.bricks h.lanes size r i))) ∧
    (∀ k r, p.1 = .reg (some k) r → coreHartIdx s k = none → read = (s, .ok 0)) ∧
    (∀ base pitch, p.1 = .scratch base pitch →
      let byte (k : Nat) : Nat := (base + pitch * (i / s.hart.lanes) + k) % 16384
      ((∀ k < size, scratchSpoilt s (i % s.hart.lanes) (byte k) = false) →
        read = (s, .ok (littleEndian ((List.range size).map fun k => mget s.hart.scratch (16384 * (i % s.hart.lanes) + byte k))))) ∧
      ((∃ k < size, scratchSpoilt s (i % s.hart.lanes) (byte k) = true) → ∃ f,
        read = (lostScratch (i % s.hart.lanes) ((List.range size).map byte) s, .error f) ∧ f.why = { cause := 12, sub := 6, data := true } ∧
          f.acc = 0 ∧ f.va = 0)) ∧
    ∀ n, p.1 = .stream n →
      let r := streamOf s n
      let c (axis : Nat) (v : Int) : Int := streamBits r (384 + 32 * axis) 32 + v
      let x := c 0 p.2.1
      let y := c 1 p.2.2.1
      let z := c 2 p.2.2.2
      let inside : Prop := 0 ≤ x ∧ x < streamBits r 256 32 ∧ 0 ≤ y ∧ y < streamBits r 288 32 ∧ 0 ≤ z ∧ z < streamBits r 320 32
      let a : Int := streamBits r 0 55 + x * signedField 64 (streamBits r 64 64) + y * signedField 64 (streamBits r 128 64) +
        z * signedField 64 (streamBits r 192 64)
      let m : Nat := 2 ^ streamBits r 352 2
      (¬ inside → read = (s, .ok 0)) ∧
      (∀ pa, inside → a % m = 0 → 0 ≤ a → a < 2 ^ 55 → ReadServed s a.toNat pa m →
        read = (readLeft s a.toNat pa m (if signedField 64 (streamBits r 64 64) = m then 0 else 1), .ok (littleEndian (seenBytes s a.toNat pa m)))) ∧
      ∀ f, inside → AddressFaults s 0 m a f ∨ (∃ pa, ReadFaults s m a pa f ∧ Readable s a.toNat pa m) → ∃ g, read = (s, .error g) ∧ g.why = f ∧ g.acc = 0 ∧ BitVec.ofNat 64 g.va = BitVec.ofInt 64 a

/-- R16, R19, R22 to R32, R117, R152: displaced forms, and where a read at an offset ends. A stream halo that is left on a later axis follows R30
over R183 (log 19); entries of other harts' tables: logs 87 to 90; a read of another hart's register: log 20. -/
def Obligations.OffsetsDisplaceSources : Prop :=
  DisplacedFormsReadAtTheirOffsets ∧ OffsetReadsCrossFaces ∧ FacesOfEveryKindAreCrossed

/-- R46, R52, R54, R66, R182 to R190, R192, R194, R317: stream, gather and scratchpad forms move the elements that their accesses name; of two
elements that write one location the higher one stays. Which of the values of a racing read is returned is the model's choice (logs 5, 92), as is
what one access is for its count (log 50), the winner of a scatter (log 9) and the bytes that an index-list packet carries (log 101). -/
def Obligations.AccessFormsMoveTheirElements : Prop :=
  ∀ (s : State) (i : Instr) (pa : Nat → Nat) (a : Access), wellFormed i = true → accessOf s pa i = some a → BrickReady s → AccessIssues s i →
    AllAlong a.step (fun u => ∀ e ∈ a.els s, a.served u e) (a.els s) a.start →
    let r := a.left s
    let els := a.els s
    ∃ t, exec i s = .next t ∧
      (∀ vd v, a.fill = some (vd, v) → FilledFrom s r t 4 { dest := vd, mask := a.mask, value := fun _ e => (v e, 0) }) ∧
      (a.fill = none → t = { moved r 4 with hart := { (moved r 4).hart with perf := groupedPerf r } }) ∧
      (∀ vd sn m c, i = .vst vd sn m c ∨ i = .vstAdv vd sn m c →
        LastWrites els (fun e => hartLoc s (a.addr e).toNat) (elemSize s)
          (fun e k => some ⟨(storedBytes (elemSize s) (elemOf s vd e)).getD k 0, pa e + k, false, false⟩) (ownByte s.hart) (ownByte t.hart)) ∧
      ∀ vd m vi c, i = .spst vd m vi c →
        LastWrites els (scratchPlace s vi) (elemSize s) (fun e k => (storedBytes (elemSize s) (elemOf s vd e)).getD k 0)
          (mget s.hart.scratch) (mget t.hart.scratch) ∧
        (∀ b < 16, t.hart.stagDirty.getLsbD b = (s.hart.stagDirty.getLsbD b || els.any fun e => elemOf s vi e / 1024 == b)) ∧
        ∀ b < 16, t.hart.stagValid.getLsbD b = (s.hart.stagValid.getLsbD b || els.any fun e => elemOf s vi e / 1024 == b)

/-- R63, R66, R191, R192, R195 to R198: scattered elements at different addresses, and the elements of a vector atomic after the publication of
.rel; the next phase begins after it for .acq. That .rel publishes after the checks is log 39, that a fault of a check commits nothing of its
element group log 35, the bytes that an index-list packet carries log 101. -/
def Obligations.GroupedFormsMoveTheirElements : Prop :=
  (∀ (s : State) (i : Instr) (vd sn m mode vi c : Nat) (pa : Nat → Nat) (a : Access), i = .vscat vd sn m mode vi c → wellFormed i = true →
    groupedOf s pa i = some a → BrickReady s → GroupedIssues s i →
    AllAlong a.step (fun u => ∀ e ∈ a.els s, a.served u e) (a.els s) a.start →
    GroupsGo a.step (elemSize s) s.hart.lanes (a.els s) a.addr (a.els s) a.start →
    Apart (· ∈ a.els s) (fun e => (a.addr e).toNat) (elemSize s) →
    let r := a.left s
    exec i s = .next { moved r 4 with hart := { (moved r 4).hart with perf := groupedPerf r } }) ∧
  ∀ (s u : State) (i : Instr) (op d xs1 b acq rel m : Nat) (pa : Nat → Nat) (a : Access), wellFormed i = true →
    atomicRow i = some (op, d, xs1, b, acq, rel, 1, m) → groupedOf u pa i = some a → BrickReady s → GroupedIssues s i → Released s u rel →
    BrickReady u → AllAlong a.step (fun v => ∀ e ∈ a.els u, a.served v e) (a.els u) u →
    Apart (· ∈ a.els u) (fun e => (a.addr e).toNat) (elemSize u) → Apart (· ∈ a.els u) (fun e => homeAddr u (pa e)) (elemSize u) →
    let r := a.left u
    ∃ t, exec i s = .next (acquired t acq) ∧
      (∀ vd v, a.fill = some (vd, v) → FilledFrom u r t 4 { dest := vd, mask := m, value := fun _ e => (v e, 0) }) ∧
      (a.fill = none → t = { moved r 4 with hart := { (moved r 4).hart with perf := groupedPerf r } })

/-- R36 to R39, R187, R190, R193, R194, R209, R305, R385: elements of one group fault. The groups before it have committed, and of the group
the elements that did not fault; the fault is held with the record that its trap makes (logs 3, 4, 22). -/
def Sys2Proof.Claims.ElementFaultsAreHeld : Prop :=
  ∀ (s : State) (i : Instr) (pa : Nat → Nat) (a : Access) (k : Nat) (bad : Nat → Option AccFault), wellFormed i = true →
    accessOf s pa i = some a → BrickReady s → AccessIssues s i → (∃ x, (bad x).isSome = true) →
    (∀ x, (bad x).isSome = true → x ∈ a.els s ∧ x / s.hart.lanes = k) →
    let els := (a.els s).filter fun e => decide (e / s.hart.lanes ≤ k)
    let step (e : Nat) (u : State) : State := match bad e with
      | some f => if f.sub = 6 then a.loses e u else u
      | none => a.step e u
    AllAlong step (fun u => (∀ e ∈ els, bad e = none → a.served u e) ∧ ∀ x f, bad x = some f → a.faults u x f) els a.start →
    let r := issuedPast (along step els a.start) 4
    ∃ t en, exec i s = .next t ∧ FaultHeld s t en k a.mask bad a.addr a.acc false false ∧
      (∀ vd sn m mode vi c, i = .vgath vd sn m mode vi c → ∀ x f, LowestOf bad (fun _ => True) x f → en.gs = x) ∧
      (∀ vd v, a.fill = some (vd, v) →
        (∀ e, governed s a.mask e = true → e / s.hart.lanes ≤ k → bad e = none →
          elemAt t.hart.bricks s.hart.lanes (elemSize s) vd e = v e % 2 ^ elemWidth s) ∧
        ∀ b, (∀ e, governed s a.mask e = true → e / s.hart.lanes ≤ k → bad e = none →
            b < 8192 * vd + 256 * (e % s.hart.lanes) + e / s.hart.lanes * elemSize s ∨
              8192 * vd + 256 * (e % s.hart.lanes) + e / s.hart.lanes * elemSize s + elemSize s ≤ b) →
          mget t.hart.bricks b = mget s.hart.bricks b) ∧
      (a.fill = none → t.hart.bricks = s.hart.bricks ∧ t.hart.btag = s.hart.btag) ∧
      t = { r with
        hart := { r.hart with
          bricks := t.hart.bricks, btag := t.hart.btag, inflight := [en], held := t.hart.held
          perf := r.hart.perf.setIfInBounds 1 (r.hart.perf[1] + BitVec.ofNat 64 k) } }

/-- R191, R193, R198: a check of an element of a scatter or a vector atomic fails: the groups before it have acted, and nothing of its group
has been sent. -/
def Sys2Proof.Claims.GroupChecksComeFirst : Prop :=
  ∀ (s u : State) (i : Instr) (rel : Nat) (pa : Nat → Nat) (a : Access) (k : Nat) (bad : Nat → Option AccFault), wellFormed i = true →
    (((∃ vd sn m mode vi c, i = .vscat vd sn m mode vi c) ∧ rel = 0) ∨ ∃ op d xs1 b acq m, atomicRow i = some (op, d, xs1, b, acq, rel, 1, m)) →
    Released s u rel → groupedOf u pa i = some a → BrickReady s → BrickReady u → GroupedIssues s i → (∃ x, (bad x).isSome = true) →
    (∀ x, (bad x).isSome = true → x ∈ a.els u ∧ x / u.hart.lanes = k) →
    Apart (· ∈ a.els u) (fun e => (a.addr e).toNat) (elemSize u) →
    let ok := (a.els u).filter fun e => decide (e / u.hart.lanes < k)
    let fine := (a.els u).filter fun e => decide (e / u.hart.lanes ≤ k) && (bad e).isNone
    AllAlong a.step (fun v => (∀ e ∈ fine, a.served v e) ∧ ∀ x f, bad x = some f → a.faults v x f) ok a.start →
    ((∃ vd sn m mode vi c, i = .vscat vd sn m mode vi c) → GroupsGo a.step (elemSize u) u.hart.lanes (a.els u) a.addr ok a.start) →
    let r := issuedPast (along a.step ok a.start) 4
    ∃ t en, exec i s = .next t ∧ FaultHeld u t en k a.mask bad a.addr a.acc true true ∧
      ((∃ vd sn m mode vi c, i = .vscat vd sn m mode vi c) →
        en.gs ∈ a.els u ∧ en.gs / u.hart.lanes = k ∧ ∀ e ∈ a.els u, e / u.hart.lanes = k → en.gs ≤ e) ∧
      (a.fill = none → t.hart.bricks = u.hart.bricks ∧ t.hart.btag = u.hart.btag) ∧
      t = { r with
        hart := { r.hart with
          bricks := t.hart.bricks, btag := t.hart.btag, inflight := [en], held := t.hart.held
          perf := r.hart.perf.setIfInBounds 1 (r.hart.perf[1] + BitVec.ofNat 64 k) } }

/-- R198, R360: homes fail elements of a vector atomic that returns values, after its group was sent: the others of the group have acted
and committed. -/
def Sys2Proof.Claims.FailedAtomicsLeaveTheOthers : Prop :=
  ∀ (s : State) (i : Instr) (op d xs1 b acq m : Nat) (pa : Nat → Nat) (a : Access) (k : Nat) (bad : Nat → Option AccFault), wellFormed i = true →
    atomicRow i = some (op, d, xs1, b, acq, 0, 1, m) → Returns op → groupedOf s pa i = some a → BrickReady s → GroupedIssues s i →
    (∃ x, (bad x).isSome = true) → (∀ x, (bad x).isSome = true → x ∈ a.els s ∧ x / s.hart.lanes = k) →
    Apart (· ∈ a.els s) (fun e => (a.addr e).toNat) (elemSize s) → Apart (· ∈ a.els s) (fun e => homeAddr s (pa e)) (elemSize s) →
    let ok := (a.els s).filter fun e => decide (e / s.hart.lanes ≤ k) && (bad e).isNone
    AllAlong a.step (fun u => (∀ e ∈ ok, a.served u e) ∧ ∀ x f, bad x = some f → Legal s (a.addr x) ∧ f.data = true ∧
      locate (hartView u) (atomicAccess op) (a.addr x).toNat u = (u, .ok (pa x)) ∧ queuesAt u (pa x) = false ∧ moving u (pa x) = false ∧
      portFull u (homeAddr u (pa x)) 0 = false ∧ reachHome u (pa x) = (u, .error f) ∧ actsAnyway u (pa x) f = false) ok s →
    ∃ t en, exec i s = .next t ∧ FaultHeld s t en k m bad a.addr (atomicAccess op) true false ∧
      (∀ e ∈ ok, elemAt t.hart.bricks s.hart.lanes (elemSize s) d e = littleEndian (homeBytes s (pa e) (elemSize s)) % 2 ^ elemWidth s) ∧
      t.memory = (along a.step ok s).memory ∧ t.replies = (along a.step ok s).replies ∧ t.hart.instret = s.hart.instret

/-- R36 to R39, R187, R190 to R194, R198, R209, R305, R360: element faults, partly committed groups and the record of a trap. That the fault is held
is log 3, that lane groups move together log 4, the reported lane group in TSEC log 22, the entries of failed writes log 34, checks of scatters and
vector atomics log 35. -/
def Obligations.ElementFaultsStopTheirGroups : Prop := ElementFaultsAreHeld ∧ GroupChecksComeFirst ∧ FailedAtomicsLeaveTheOthers

/-- R63, R195 to R197, R346, R350, R356: the atomic acts at the home after the publication of .rel, and the next phase begins after it for .acq;
where the atomic waits in queues for its service it is sent as a packet, and the hart waits at it until the home has answered (that an atomic
waits only where a delay says so is log 65). -/
def Sys2Proof.Claims.ScalarAtomicsAct : Prop :=
  ∀ (s u : State) (i : Instr) (op d xs1 b acq rel w pa : Nat), wellFormed i = true → s.hart.lap = none →
    atomicRow i = some (op, d, xs1, b, acq, rel, 0, w) → s.hart.request = none → Released s u rel →
    let n := if w = 0 then 4 else 8
    let a := (rx s xs1).toNat
    let v := (rx s b).toNat % 2 ^ (8 * n)
    let cmp := (rx s d).toNat % 2 ^ (8 * n)
    a % n = 0 → a < 2 ^ 55 → Placed s (atomicAccess op) a pa → Placed u (atomicAccess op) a pa → moving u pa = false →
    portFull u (homeAddr u pa) 0 = false →
    (queuesAt u pa = false → uncorrectable u pa n = false →
      exec i s = .next (passed (acquired (atomicReturned (atomicStep op n (fun _ => a) (fun _ => pa) (fun _ => v) (fun _ => cmp) 1 0 u)
        op n d (littleEndian (homeBytes u pa n))) acq) 4)) ∧
    (queuesAt u pa = true →
      let p := newRequest u (.atomic op n v cmp) a pa
      exec i s = .next (stalled { u with
        nextSeq := u.nextSeq + 1, packets := u.packets ++ [p], agenda := u.agenda ++ [Instr.packetService p.place]
        hart := { u.hart with request := some ⟨p.id, p.stamp, op, n, d, acq, a, pa⟩ } }))

/-- R38, R144, R195, R209, R301, R305, R324, R360: a scalar atomic that faults traps, one whose home fails traps or enters the error queue, and
one that waits for its reply is tried again. -/
def Sys2Proof.Claims.ScalarAtomicsTrap : Prop :=
  ∀ (s : State) (i : Instr) (op d xs1 b acq w : Nat), wellFormed i = true → atomicRow i = some (op, d, xs1, b, acq, 0, 0, w) →
    let n := if w = 0 then 4 else 8
    let a := (rx s xs1).toNat
    (s.hart.request.isSome = true → exec i s = .next (stalled s)) ∧
    (s.hart.request = none → CanTrap s → ∀ f, AddressFaults s (atomicAccess op) n a f → f.po = false →
      exec i s = .next (trapped s (accessTrap s f (atomicAccess op) 0 a))) ∧
    ∀ pa, s.hart.request = none → a % n = 0 → a < 2 ^ 55 → locate (hartView s) (atomicAccess op) a s = (s, .ok pa) → moving s pa = false →
      portFull s (homeAddr s pa) 0 = false →
      (Returns op → CanTrap s → reachHome s pa = (s, .ok pa) → queuesAt s pa = false → uncorrectable s pa n = true → paModule pa = ownModule s →
        let t := lastingError s pa n
        exec i s = .next (trapped t (accessTrap t { cause := 12, sub := 6 } (atomicAccess op) 0 a))) ∧
      ∀ f, reachHome s pa = (s, .error f) → actsAnyway s pa f = false →
        (Returns op → CanTrap s → exec i s = .next (trapped s (accessTrap s f (atomicAccess op) 0 a))) ∧
        (¬ Returns op → s.hart.lap = none → acq = 0 →
          exec i s = .next (passed (errorEntry s s.hart.ctxid 2 f.cause f.sub n a (paModule pa) s.hart.irPc.toNat) 4))

/-- R38, R63, R144, R195 to R197, R346, R350, R356, R360: scalar atomics. That .rel publishes after the checks is log 39, which atomics wait in
queues log 65, how long a request takes log 83. -/
def Obligations.ScalarAtomicResults : Prop := ScalarAtomicsAct ∧ ScalarAtomicsTrap

/-- R53, R54, R60, R63, R69, R70, R316, R317, R348, R361: what a byte reads as, and what accesses leave. Which of the values of a racing read is
returned is the model's choice (logs 5, 92), as is what one access is for its count (log 50), the peer of a failed store (log 54), the memory beyond
HBM4E (log 85). -/
def Obligations.AccessesFollowTheirPhase : Prop := ReadsFollowTheirPhase ∧ AccessesLeaveTheirTraces

/-- R4, R182, R185, R186, R188: stream registers read from memory, written to it, and based anew; reserved bits are kept 0. -/
def Sys2Proof.Claims.StreamRegistersMove : Prop :=
  ∀ (s : State) (xd xs1 n : Nat) (pa : Nat → Nat), xd < 32 → xs1 < 32 → n < 16 → s.hart.lap = none →
    let va := (rx s xs1).toNat
    let at_ (k : Nat) : Nat := va + 8 * k
    let word (k : Nat) : Nat := littleEndian (seenBytes s (at_ k) (pa k) 8)
    let kept (v : Nat) : Nat := v - v / 2 ^ 55 % 2 ^ 9 * 2 ^ 55 - v / 2 ^ 354 % 2 ^ 6 * 2 ^ 354 - v / 2 ^ 364 % 2 ^ 20 * 2 ^ 364 - v / 2 ^ 480 % 2 ^ 32 * 2 ^ 480
    (va % 64 = 0 → Reads s (List.range 8) at_ pa 8 1 →
      exec (.sset xs1 n) s = .next (passed (restreamed (readAll s (List.range 8) at_ pa 8 1) n
        (BitVec.ofNat 512 (kept ((List.range 8).map fun k => word k * 2 ^ (64 * k)).sum))) 4)) ∧
    (va % 64 = 0 → Writes s (List.range 8) at_ pa (fun k => storedBytes 8 (streamBits (streamOf s n) (64 * k) 64)) 1 →
      exec (.sget xs1 n) s = .next (passed (writeAll s (List.range 8) at_ pa (fun k => storedBytes 8 (streamBits (streamOf s n) (64 * k) 64)) 1) 4)) ∧
    (va % 64 ≠ 0 → CanTrap s → exec (.sset xs1 n) s = .next (trapped s (ownTrap s 3 0 0 0 (rx s xs1))) ∧
      exec (.sget xs1 n) s = .next (trapped s (ownTrap s 3 0 1 0 (rx s xs1)))) ∧
    let r := streamOf s n
    exec (.sbase xd xs1 n) s = .next (answered
      (restreamed s n (BitVec.ofNat 512 (va % 2 ^ 55 + r.toNat % 2 ^ 384 / 2 ^ 55 * 2 ^ 55 + r.toNat / 2 ^ 480 * 2 ^ 480)))
      xd (BitVec.ofNat 64 (streamBits r 0 55)))

namespace Sys2Proof.Claims

open Sys2Proof.Machine

/-! Publications, phases, barriers (R53 to R62, R199 to R201). -/

/-- The bytes of the hart that its next publication sends, with their locations (R53, R55); the home lines they lie in. -/
def unpublished (s : State) : Table OwnByte := s.hart.own.filter fun p => !p.2.pub && !p.2.home

def publishedLines (s : State) : List Nat := ((unpublished s).map fun p => homeAddr s p.2.pa / 128).dedup

/-- The bytes of a list that lie in a home line. -/
def bytesOf (s : State) (line : Nat) : Table OwnByte := (unpublished s).filter fun p => homeAddr s p.2.pa / 128 == line

/-- The homes of some bytes take them (R283, R360, R385), no port is about to stop (R366), two locations of one byte hold one value, and no byte lies in
the window table of a module that another one goes to. -/
def TakesBytes (s : State) (bs : Table OwnByte) : Prop :=
  (∀ p, (portOf s p).txPend ≠ none ∨ (portOf s p).txctr + 2 * bs.length < 2 ^ 96 - 1) ∧
  (∀ p ∈ bs, let l := homeAddr s p.2.pa / 128 * 128
    (∀ f ∈ [1, 2], homeFailsFor s l f = none) ∧ remoteTransit s l = false ∧ homeAddr s p.2.pa ∉ s.badBytes) ∧
  ∀ p ∈ bs, ∀ q ∈ bs, let w := (tablesOf s (paModule (homeAddr s q.2.pa))).winb.toNat
    (homeAddr s p.2.pa = homeAddr s q.2.pa → p.2.val = q.2.val) ∧
    (w = 0 ∨ paModule (homeAddr s q.2.pa) = ownModule s ∨ homeAddr s p.2.pa < w ∨ w + 131072 ≤ homeAddr s p.2.pa)

/-- Nothing keeps a publication waiting, and its homes take it. -/
def Publishable (s : State) : Prop :=
  s.memory.wf = true ∧ (∀ l, tget s.linePubs l 0 ≤ s.pubs) ∧ (∀ l ∈ publishedLines s, lineWaits s l = false) ∧ TakesBytes s (unpublished s)

/-- A byte that software writes over another at a home: bits that it does not write keep their values (R3, R316, R361). -/
def softly (s : State) (a : Nat) (old b : Byte) : Byte := (old &&& fixedBits s a) ||| (b &&& ~~~(fixedBits s a))

/-- Memory with bytes of the hart at their homes: bits that software does not write keep their values (R3, R53, R59), every other byte is as it
was. -/
def BytesHome (s : State) (bs : Table OwnByte) (m : Memory) : Prop :=
  m.wf = true ∧
  (∀ p ∈ bs, let a := homeAddr s p.2.pa
    mget m a = softly s a (mget s.memory a) p.2.val) ∧
    ∀ a, (∀ p ∈ bs, homeAddr s p.2.pa ≠ a) → mget m a = mget s.memory a

/-- Some phase that stays open when the hart in hand begins its next one began before a stamp (R60, R328). -/
def StaysOpen (s : State) (stamp : Nat) : Prop :=
  (∃ h ∈ s.others, h.run ≠ .idle ∧ h.stamp < stamp) ∨ ∃ h ∈ s.saved, h.stamp < stamp

/-- The copies of some bytes given up by near caches: those of the die in hand, and the change to the others. -/
def copiesKept (t : Table NearCopy) (gone : Nat → Nat → Bool) : Table NearCopy := t.filter fun c => !gone c.1 c.2.pa

def withoutCopies (s : State) (gone : Nat → Nat → Bool) : State :=
  { s with
    die := { s.die with near := copiesKept s.die.near gone }
    otherDies := s.otherDies.map fun p => (p.1, { p.2 with near := copiesKept p.2.near gone }) }

/-- The number of participants a scope allows (R200), and the instance of it that holds the hart. -/
def scopeLimit (scope : Nat) : Nat := if scope = 0 then 8 else if scope = 1 then 512 else if scope = 2 then 12288 else 50331648

def scopePart (s : State) (scope : Nat) : Nat := if scope = 0 then s.hart.coreNo else if scope = 1 then s.hart.dieNo else 0

/-- The instance of a barrier that still takes arrivals, and one that has all of them; at fabric scope other modules' arrivals are not counted
here (R200). -/
def openAt (s : State) (scope inst id : Nat) : Option Barrier :=
  s.barriers.find? fun b => b.scope == scope && b.inst == inst && b.id == id && decide (b.arrived.length < b.count)

def fullAt (s : State) (scope inst id : Nat) : Option Barrier :=
  s.barriers.find? fun b => b.scope == scope && b.inst == inst && b.id == id && (decide (b.count ≤ b.arrived.length) || scope == 3)

/-! Parcels (R202 to R208, R279 to R285). -/

/-- Memory that differs at one window entry alone, which reads `x` (R316). -/
def WindowSet (s : State) (m : Memory) (x : Window) : Prop :=
  readWindow { s with memory := m } x.w = x ∧ ∀ a, a < windowAddr s x.w ∨ windowAddr s x.w + 32 ≤ a → mget m a = mget s.memory a

/-- The free window that R279 chooses: the lowest of the address space that is large enough. -/
def Chosen (s : State) (size : Nat) (x : Window) : Prop :=
  x ∈ windows s ∧ (x.state = 6 ∧ x.asid = asidOf s.hart.ptroot ∧ size ≤ x.limit) ∧
    ∀ y ∈ windows s, y.state = 6 → y.asid = asidOf s.hart.ptroot → size ≤ y.limit → x.w ≤ y.w

/-- The window of the address space that holds the mapped parcel with a base. -/
def ParcelAt (s : State) (base : Nat) (x : Window) : Prop :=
  (windows s).find? (fun y => (y.state == 1 || y.state == 4 || y.state == 5) && y.asid == asidOf s.hart.ptroot && y.base == base) = some x

/-- The window whose mapped range holds an address. -/
def ParcelOver (s : State) (a : Nat) (x : Option Window) : Prop :=
  (windows s).find? (fun y => (y.state == 1 || y.state == 4 || y.state == 5) && y.asid == asidOf s.hart.ptroot && decide (y.base ≤ a) &&
    decide (a < y.base + 65536 * y.psize)) = x

/-- Whether a location, a home byte, and a home line lies in the range of a window's parcel. -/
def locIn (x : Window) (loc : Nat) : Bool :=
  decide (2 ^ 55 * x.asid + x.base ≤ loc) && decide (loc < 2 ^ 55 * x.asid + x.base + 65536 * x.psize)

def homeIn (x : Window) (pa : Nat) : Bool := decide (x.phys ≤ pa) && decide (pa < x.phys + 65536 * x.psize)

def lineIn (x : Window) (line : Nat) : Bool := homeIn x (128 * line)

/-- A hart that has given up its view of a range: its writes there, and what it has read there (R202, R206, R207). -/
def forgotten (x : Window) (h : Hart) : Hart :=
  { h with
    own := h.own.filter fun p => !(locIn x p.1 || homeIn x p.2.pa)
    snap := h.snap.filter fun p => !locIn x p.1
    joins := h.joins.filter fun j => !(locIn x j.loc || homeIn x j.pa) }

/-- The state in which every hart, near cache and home has given up what it holds of the range of a window's parcel. -/
def unseen (s : State) (x : Window) : State :=
  withoutCopies { s with
    hart := forgotten x s.hart, others := s.others.map (forgotten x), saved := s.saved.map (forgotten x)
    shadows := s.shadows.filter fun v => !lineIn x v.line
    spill := s.spill.filter fun i => !lineIn x (readSpill s i).line } fun loc pa => locIn x loc || homeIn x pa

/-- The state with a window entry written: memory `m`, no near cache keeps a copy of the entry. -/
def windowPut (s : State) (m : Memory) (x : Window) : State :=
  withoutCopies { s with memory := m } fun _ pa => decide (windowAddr s x.w ≤ pa) && decide (pa < windowAddr s x.w + 32)

/-- No page of the module is forwarded to another place (R373). -/
def Unmoved (s : State) : Prop := ∀ a, homeAddr s a = a

/-- The window table and the parcel's range do not overlap. -/
def TableApart (s : State) (x : Window) (lo n : Nat) : Prop := windowAddr s x.w + 32 ≤ lo ∨ lo + n ≤ windowAddr s x.w

/-- The handle of the parcel of a window (R280). -/
def parcelHandle (s : State) (x : Window) : Nat := s.regs.modid % 4096 * 2 ^ 52 + x.w * 2 ^ 40 + x.gen

end Sys2Proof.Claims

/-- R53, R55, R58 to R60, R62, R69, R70: a publication puts every unpublished byte at its home and changes no other byte; a line that some open
phase still reads older than its last publication keeps its value as a version; the next phase starts with nothing read, FENCE.ALIAS with no copy in the
near cache either. A publication that must wait leaves the program counter where it is. -/
def Sys2Proof.Claims.PhasesPublishAndBegin : Prop :=
  ∀ (s : State) (i : Instr), ((∃ sc, sc < 4 ∧ i = .phase sc) ∨ i = .fenceAlias) → s.hart.lap = none →
    (Publishable s → ∃ t, exec i s = .next t ∧
      let n := (publishedLines s).length
      BytesHome s (unpublished s) t.memory ∧
      (∀ l, (l ∈ publishedLines s → s.pubs < tget t.linePubs l 0 ∧ tget t.linePubs l 0 ≤ s.pubs + n) ∧
        (l ∉ publishedLines s → tget t.linePubs l 0 = tget s.linePubs l 0)) ∧
      (∀ l ∈ publishedLines s, StaysOpen s (tget s.linePubs l 0) →
        ⟨l, tget t.linePubs l 0, tget s.linePubs l 0, BitVec.allOnes 128, mgets s.memory (128 * l) 128⟩ ∈ t.shadows) ∧
      (i = .fenceAlias → t.die.near = []) ∧
      (i ≠ .fenceAlias → t.die.near = s.die.near.filter fun c => !(unpublished s).any fun p => p.1 == c.1) ∧
      ((∀ l ∈ publishedLines s, paModule (homeAddr s (l * 128)) = ownModule s) → t.ports = s.ports ∧ t.events = s.events ∧
        ∃ k, t.agenda = s.agenda ++ List.replicate k (.late s.hart.slot) ∧
          (k = 0 ↔ ∀ l ∈ publishedLines s, ¬ LateBy s s.hart.deadline (homeAddr s (l * 128)))) ∧
      t = passed { s with
        memory := t.memory, pubs := s.pubs + n, linePubs := t.linePubs, shadows := t.shadows, spill := t.spill, stalls := t.stalls
        die := { s.die with near := t.die.near }, otherDies := t.otherDies, agenda := t.agenda, ports := t.ports, events := t.events
        hart := { s.hart with own := [], snap := [], stamp := s.pubs + n, stalledPub := none } } 4) ∧
    ((∃ l ∈ publishedLines s, lineWaits s l = true) → ∃ t, exec i s = .next t ∧ t.hart.waiting = true ∧ t.hart.pc = s.hart.pc ∧
      t.hart.instret = s.hart.instret ∧ t.hart.stalledPub.isSome = true ∧ t.hart.snap = s.hart.snap)

/-- R53, R55, R60, R328: what the start of a phase does. A version stays exactly while some phase that needs it is open: of a hart with a thread, of a
saved context; those that no open phase needs are freed. -/
def Sys2Proof.Claims.PhaseStartsFromMemory : Prop :=
  ∀ (s : State), let t := newPhase s
    let needed (stamp : Nat) : Prop := StaysOpen s stamp ∨ (s.hart.run ≠ .idle ∧ s.pubs < stamp)
    (∀ x, x ∈ t.shadows ↔ x ∈ s.shadows ∧ needed (tget s.linePubs x.line 0)) ∧ t.shadows.Sublist s.shadows ∧
    (∀ i, i ∈ t.spill ↔ i ∈ s.spill ∧ needed (readSpill s i).stamp) ∧ t.spill.Sublist s.spill ∧
    t = { s with
      shadows := t.shadows, spill := t.spill
      hart := { s.hart with own := s.hart.own.filter (fun p => !p.2.pub), snap := [], stamp := s.pubs } }

/-- R62, R200, R201: the forms of BAR and the completion of an instance; one that has its full count takes no more arrivals. That a count of 1
completes at once is log 44, that BARRIER_COMPLETE completes an instance of fabric scope whose other arrivals are not seen here is log 43. -/
def Obligations.BarriersGatherTheirHarts : Prop :=
  (∀ (s : State) (xs1 xs2 scope : Nat), xs1 < 32 → xs2 < 32 → scope < 4 → s.hart.lap = none →
    let count := (rx s xs1).toNat
    let id := (rx s xs2).toNat
    let inst := scopePart s scope
    (∀ a, s.hart.arrival = some a → a.done = true →
      exec (.bar xs1 xs2 scope) s = .next (passed (newPhase { s with hart := { s.hart with arrival := none } }) 4)) ∧
    (∀ a, s.hart.arrival = some a → a.done = false → exec (.bar xs1 xs2 scope) s = .next (stalled s)) ∧
    (s.hart.arrival = none → (count = 0 ∨ scopeLimit scope < count ∨ 255 < id) → CanTrap s →
      exec (.bar xs1 xs2 scope) s = .next (trapped s (ownTrap s 2 0 0 0 0))) ∧
    ∀ u, s.hart.arrival = none → 1 ≤ count → count ≤ scopeLimit scope → id ≤ 255 → publishCounted s = (u, true) →
      (openAt u scope inst id = none → count = 1 →
        exec (.bar xs1 xs2 scope) s = .next (passed (newPhase { u with hart := { u.hart with arrival := none } }) 4)) ∧
      (∀ b, openAt u scope inst id = some b → b.count ≠ count → CanTrap u →
        exec (.bar xs1 xs2 scope) s = .next (trapped u (ownTrap u 2 0 0 0 0))) ∧
      ∀ who, ((openAt u scope inst id = none ∧ count ≠ 1 ∧ who = []) ∨
          ∃ b, openAt u scope inst id = some b ∧ b.count = count ∧ who = b.arrived) →
        exec (.bar xs1 xs2 scope) s = .next (stalled { u with
          barriers := (match openAt u scope inst id with
            | some b => u.barriers.erase b
            | none => u.barriers) ++ [⟨scope, inst, id, count, who ++ [s.hart.ctxid]⟩]
          hart := { u.hart with arrival := some ⟨scope, inst, id, false⟩ }
          agenda := u.agenda ++ if who.length + 1 = count then [.barrierComplete scope inst id] else [] })) ∧
  (∀ (s : State) (scope inst id : Nat) (b : Barrier), fullAt s scope inst id = some b → s.hart.run = .running → s.hart.waiting = true →
    s.hart.lap = none → s.hart.arrival = some ⟨scope, inst, id, false⟩ → s.hart.ctxid ∈ b.arrived → (∀ h ∈ s.others, h.ctxid ∉ b.arrived) →
    exec (.barrierComplete scope inst id) s = .next (passed (newPhase { s with
      barriers := s.barriers.erase b
      hart := { s.hart with arrival := none }
      saved := s.saved.map fun h => match h.arrival with
        | some a => if a.scope = scope ∧ a.inst = inst ∧ a.id = id ∧ h.ctxid ∈ b.arrived
            then { h with arrival := some { a with done := true } } else h
        | none => h }) 4)) ∧
  ∀ (s : State) (scope inst id : Nat), fullAt s scope inst id = none →
    exec (.barrierComplete scope inst id) s = .next s

/-- R53, R55, R61, R69, R70, R318, R327, R328: a stalled publication that goes on, an eviction of a line, a stall that the spill area ends, with the
event of an area that becomes full. What the model puts into the spare bytes of an entry is log 86. -/
def Sys2Proof.Claims.PublicationEventsAct : Prop :=
  (∀ (s u : State), s.hart.run = .running → s.hart.lap = none → s.hart.stalledPub.isSome = true → publishCounted s = (u, true) →
    (s.hart.waiting = true → (∃ sc, decodeWord s.hart.ir1 = .ok (.phase sc)) →
      exec (.publicationComplete s.hart.slot) s = .next (passed (newPhase u) 4)) ∧
    (s.hart.waiting = true → decodeWord s.hart.ir1 = .ok .fenceAlias →
      exec (.publicationComplete s.hart.slot) s = .next (passed (newPhase { u with die := { u.die with near := [] } }) 4)) ∧
    (s.hart.waiting = false → exec (.publicationComplete s.hart.slot) s = .next u)) ∧
  (∀ (s : State) (line : Nat), s.memory.wf = true → s.hart.run = .running → TakesBytes s (bytesOf s line) →
    ∃ t, exec (.nearCacheEviction s.hart.slot line) s = .next t ∧ BytesHome s (bytesOf s line) t.memory ∧
      t.die.near = s.die.near.filter (fun c => !((bytesOf s line).any (fun p => p.1 == c.1) || c.2.pa / 128 == line)) ∧
      (paModule (homeAddr s (line * 128)) = ownModule s → t.ports = s.ports ∧ t.events = s.events ∧
        t.agenda = s.agenda ++ if bytesOf s line ≠ [] ∧ servedLate s s.hart.deadline (homeAddr s (line * 128)) = true then [.late s.hart.slot] else []) ∧
      t = { s with
        memory := t.memory, die := { s.die with near := t.die.near }, otherDies := t.otherDies, agenda := t.agenda, ports := t.ports, events := t.events
        hart := { s.hart with
          own := s.hart.own.map fun p => (p.1, { p.2 with home := p.2.home || (!p.2.pub && homeAddr s p.2.pa / 128 == line) }) } }) ∧
  ∀ (s : State) (line : Nat),
    let waits : Prop := line ∈ s.stalls ∨ ∃ h ∈ allHarts s, h.run ≠ .idle ∧ h.stalledPub.isSome = true ∧
      ∃ p ∈ h.own, p.2.pub = false ∧ p.2.home = false ∧ homeAddr s p.2.pa / 128 = line
    ((∀ x ∈ s.shadows, x.line ≠ line) ∨ ¬ waits ∨ 1048576 ≤ s.spill.length → exec (.shadowStallTimeout line) s = .next s) ∧
    ∀ x, s.shadows.find? (fun y => y.line == line) = some x → waits → s.spill.length < 1048576 → s.memory.wf = true → Unmoved s →
      x.bytes.length = 128 → x.line < 2 ^ 57 → x.stamp < 2 ^ 64 → x.born < 2 ^ 64 →
      ∃ t i, exec (.shadowStallTimeout line) s = .next t ∧ i < 1048576 ∧ i ∉ s.spill ∧ t.spill = i :: s.spill ∧
        t.shadows = s.shadows.erase x ∧ readSpill t i = x ∧ t.memory.wf = true ∧
        (∀ a, a < localPA s (0x17FF4000000 + 192 * i) ∨ localPA s (0x17FF4000000 + 192 * i) + 192 ≤ a → mget t.memory a = mget s.memory a) ∧
        (s.spill.length + 1 = 1048576 → t.events = s.events ++ [⟨[3, 0, BitVec.ofNat 64 (line * 128 % 2 ^ 44 / 4096 % 384), s.time], none⟩] ∧
          t.agenda = s.agenda ++ [.eventRecordWrite]) ∧
        (s.spill.length + 1 ≠ 1048576 → t.events = s.events ∧ t.agenda = s.agenda) ∧
        t = { s with
          memory := t.memory, die := t.die, otherDies := t.otherDies, shadows := t.shadows, spill := t.spill, events := t.events, agenda := t.agenda }

/-- R202 to R207, R279 to R281, R283, R284, R230: the parcel instructions. That a parcel takes the lowest place of the pool that is free is log 15, that
its window is fresh for every hart log 32, that a post to this module itself is confirmed through the agenda log 70. -/
def Sys2Proof.Claims.ParcelInstructions : Prop :=
  ∀ (s : State) (xd xs1 xs2 : Nat), xd < 32 → xs1 < 32 → xs2 < 32 → s.hart.lap = none → s.memory.wf = true →
    let a := (rx s xs1).toNat
    (∀ (x : Window) (p : Nat), let u := (a + 65535) / 65536
      let y := { x with state := 1, psize := u, phys := localPA s p }
      1 ≤ a → a ≤ 2 ^ 30 → Chosen s u x → poolFree s (65536 * u) = some p → TableApart s x (localPA s p) (65536 * u) →
      ∃ m v, WindowSet s m y ∧ v.wf = true ∧ (∀ b, localPA s p ≤ b ∧ b < localPA s p + 65536 * u → mget v b = 0) ∧
        (∀ b, b < localPA s p ∨ localPA s p + 65536 * u ≤ b → mget v b = mget m b) ∧
        let t := answered (unseen (windowPut { s with pool := (p, 65536 * u) :: s.pool } v y) y) xd (BitVec.ofNat 64 x.base)
        exec (.palloc xd xs1) s = .next t ∧ (Unmoved s → p % 65536 = 0 → ∀ k < 65536 * u, hartByte t (x.base + k) (localPA s p + k) = 0)) ∧
    (1 ≤ a → a ≤ 2 ^ 30 → ((∀ x, ¬ Chosen s ((a + 65535) / 65536) x) ∨ poolFree s (65536 * ((a + 65535) / 65536)) = none) →
      exec (.palloc xd xs1) s = .next (answered s xd 0)) ∧
    (a = 0 ∨ 2 ^ 30 < a → CanTrap s → exec (.palloc xd xs1) s = .next (trapped s (ownTrap s 2 0 0 0 0))) ∧
    (∀ (x : Option Window) (pa : Nat), a % 8 = 0 → a < 2 ^ 55 → ParcelOver s a x → Placed s 1 a pa →
      (∀ y v, x = some y → ((rx s xs2 = 0 ∧ v = 0) ∨ (y.base ≤ (rx s xs2).toNat ∧ (rx s xs2).toNat < y.base + 65536 * y.psize ∧
          rx s xs2 ≠ 0 ∧ v = 2 ^ 63 + ((rx s xs2).toNat - y.base))) →
        ∃ own, OwnAfter s own a pa (storedBytes 8 v) ∧
          exec (.pst xs1 xs2) s = .next (passed (touch { s with hart := { s.hart with own := own } } pa 1) 4)) ∧
      ((x = none ∨ ∃ y, x = some y ∧ rx s xs2 ≠ 0 ∧ ¬ (y.base ≤ (rx s xs2).toNat ∧ (rx s xs2).toNat < y.base + 65536 * y.psize)) →
        CanTrap s → exec (.pst xs1 xs2) s = .next (trapped s (ownTrap s 10 0 1 0 (rx s xs1))))) ∧
    (∀ (x : Option Window) (pa : Nat), let w := littleEndian (seenBytes s a pa 8)
      let t := readLeft s a pa 8 1
      a % 8 = 0 → ParcelOver s a x → ReadServed s a pa 8 →
      (∀ v, (w < 2 ^ 63 ∧ v = w) ∨ (2 ^ 63 ≤ w ∧ ∃ y, x = some y ∧ w / 2 ^ 40 % 2 ^ 23 = 0 ∧ w % 2 ^ 40 < 65536 * y.psize ∧
          v = y.base + w % 2 ^ 40) →
        exec (.pld xd xs1) s = .next (answered t xd (BitVec.ofNat 64 v))) ∧
      (2 ^ 63 ≤ w → (∀ y, x = some y → w / 2 ^ 40 % 2 ^ 23 ≠ 0 ∨ 65536 * y.psize ≤ w % 2 ^ 40) → CanTrap s →
        exec (.pld xd xs1) s = .next (trapped t (ownTrap t 10 0 0 0 (rx s xs1))))) ∧
    (a % 8 ≠ 0 → CanTrap s → exec (.pst xs1 xs2) s = .next (trapped s (ownTrap s 3 0 1 0 (rx s xs1))) ∧
      exec (.pld xd xs1) s = .next (trapped s (ownTrap s 3 0 0 0 (rx s xs1)))) ∧
    (∀ (x : Window), let d := (rx s xs2).toNat
      let ch := d / 2 ^ 12 % 4
      let dest := d % 4096
      let y := { x with state := 3 }
      ParcelAt s a x →
      (2 ^ 32 ≤ d ∨ d / 2 ^ 14 % 4 ≠ 0 → CanTrap s → exec (.post xd xs1 xs2) s = .next (trapped s (ownTrap s 2 0 0 0 0))) ∧
      (d < 2 ^ 32 → d / 2 ^ 14 % 4 = 0 →
        16 ≤ Channel.incomplete (s.hart.chan[ch]?.getD {}) ∨ portFull s (dest * 2 ^ 44) (65536 * x.psize) = true →
        exec (.post xd xs1 xs2) s = .next (stalled s)) ∧
      ∀ u : State, d < 2 ^ 32 → d / 2 ^ 14 % 4 = 0 → Channel.incomplete (s.hart.chan[ch]?.getD {}) < 16 →
        portFull s (dest * 2 ^ 44) (65536 * x.psize) = false → publishCounted s = (u, true) →
        u.memory.wf = true →
        let c := u.hart.chan[ch]?.getD {}
        ∃ m, m.wf = true ∧ WindowSet u m y ∧
          let v := unseen (windowPut u m y) y
          let t := answered { v with
              hart := { v.hart with chan := v.hart.chan.setIfInBounds ch { c with next := c.next + 1 } }
              transit := u.transit ++ [⟨parcelHandle s x, x.w, d / 2 ^ 16 % 2 ^ 16, dest, ch, c.next, s.hart.ctxid⟩] }
            xd (BitVec.ofNat 64 c.next)
          exec (.post xd xs1 xs2) s = .next (hand t (parcelHandle s x) dest (65536 * x.psize))) ∧
    (∀ (h dest n : Nat), let away := dest * 2 ^ 44
      (dest = s.regs.modid % 4096 → hand s h dest n = { s with agenda := s.agenda ++ [Instr.parcelConfirm h] }) ∧
      (dest ≠ s.regs.modid % 4096 → unreachableFor s away (flitsOf n) = none → hand s h dest n = sent s away n) ∧
      ∀ sub, dest ≠ s.regs.modid % 4096 → unreachableFor s away (flitsOf n) = some sub →
        let t := stopSpent s away (flitsOf n)
        hand s h dest n = { t with agenda := t.agenda ++ [Instr.parcelDeliveryFail h sub] }) ∧
    (∀ (p : Arrived),
      s.arrived.find? (fun q => (tget s.arrq q.queue {}).en && (tget s.arrq q.queue {}).asid == asidOf s.hart.ptroot) = some p →
      (∀ (x : Window), let y := { x with state := 4, psize := p.size, phys := localPA s p.phys }
        p.size < 2 ^ 15 → Chosen s p.size x → ∃ m, m.wf = true ∧ WindowSet s m y ∧
          exec (.accept xd) s =
            .next (answered (newPhase (unseen (windowPut { s with arrived := s.arrived.erase p } m y) y)) xd (BitVec.ofNat 64 x.base))) ∧
      ((∀ x, ¬ Chosen s p.size x) → exec (.accept xd) s = .next (answered s xd 0))) ∧
    ((∀ q ∈ s.arrived, ¬ ((tget s.arrq q.queue {}).en = true ∧ (tget s.arrq q.queue {}).asid = asidOf s.hart.ptroot)) →
      exec (.accept xd) s = .next (answered s xd 0)) ∧
    (∀ (x : Window), let y := { x with state := 6, psize := 0, phys := 0, gen := (x.gen + 1) % 2 ^ 40 }
      ParcelAt s a x → ∃ m, m.wf = true ∧ WindowSet s m y ∧
        exec (.pfree xs1) s =
          .next (passed (windowPut (unseen { s with pool := s.pool.filter (fun p => p.1 != x.phys % 2 ^ 44) } x) m y) 4)) ∧
    ((∀ x, ¬ ParcelAt s a x) → CanTrap s →
      exec (.pfree xs1) s = .next (trapped s (ownTrap s 2 0 0 0 0)) ∧
      exec (.post xd xs1 xs2) s = .next (trapped s (ownTrap s 2 0 0 0 0)))

/-- R230, R280, R282, R284, R285, R361: the ends of a post, with every byte of a parcel that this module delivers to itself, and of a parcel received. -/
def Sys2Proof.Claims.ParcelDeliveries : Prop :=
  (∀ (s : State) (t : Transit) (x : Window), s.memory.wf = true → Unmoved s →
    s.transit.find? (fun p => p.handle == t.handle) = some t → readWindow s t.win = x → parcelHandle s x = t.handle →
    t.win < 4096 → s.hart.run = .running → s.hart.ctxid = t.ctxid → t.chan < 4 →
    let ends (u : State) (code : Nat) : Prop :=
      let c := u.hart.chan[t.chan]?.getD {}
      u.transit = s.transit.filter (fun p => p.handle != t.handle) ∧ (c.codeOf t.id = some code ∨ t.id + 64 < c.w)
    let freed (u : State) : Prop := readWindow u x.w = { x with state := 6, psize := 0, phys := 0, gen := (x.gen + 1) % 2 ^ 40 }
    (t.dest ≠ s.regs.modid % 4096 → ∃ u, exec (.parcelConfirm t.handle) s = .next u ∧ ends u 5 ∧ freed u ∧
      u.pool = s.pool.filter fun p => p.1 != x.phys % 2 ^ 44) ∧
    (∀ p, t.dest = s.regs.modid % 4096 → refusal s t.queue x.psize = none → poolFree s (65536 * x.psize) = some p →
      TableApart s x (localPA s p) (65536 * x.psize) → ∃ u, exec (.parcelConfirm t.handle) s = .next u ∧ ends u 5 ∧ freed u ∧
        u.arrived = s.arrived ++ [⟨t.handle, t.queue, p, x.psize⟩] ∧
        ∀ k < 65536 * x.psize, mget u.memory (localPA s p + k) = mget s.memory (x.phys + k)) ∧
    ∀ i sub, ((i = Instr.parcelDeliveryFail t.handle sub) ∨ (i = .parcelConfirmTimeout t.handle ∧ sub = 1) ∨
        (i = .parcelConfirm t.handle ∧ t.dest = s.regs.modid % 4096 ∧ refusal s t.queue x.psize = some sub)) → sub < 256 →
      let ring := localPA s (s.regs.errb.toNat + 2048 * (t.ctxid.toNat % 65536))
      let tail := mgetN s.memory ring 8
      (tail + 2 ^ 64 - mgetN s.memory (ring + 8) 8) % 2 ^ 64 ≠ 63 → windowAddr s x.w + 32 ≤ ring ∨ ring + 2048 ≤ windowAddr s x.w →
      ∃ u, exec i s = .next u ∧ ends u 6 ∧ readWindow u x.w = { x with state := 5 } ∧
        mgetN u.memory ring 8 = (tail + 1) % 2 ^ 64 ∧
        mgetN u.memory (ring + 32 + 32 * (tail % 63)) 8 = x.base ∧
        mgetN u.memory (ring + 32 + 32 * (tail % 63) + 8) 8 =
          11 * 2 ^ 8 + sub * 2 ^ 16 + 5 * 2 ^ 24 + t.dest % 4096 * 2 ^ 32 ∧
        mgetN u.memory (ring + 32 + 32 * (tail % 63) + 24) 8 = t.handle) ∧
  ∀ (s : State) (p : Arrived), s.incoming.find? (fun q => q.handle == p.handle) = some p →
    let discarded := { s with incoming := s.incoming.erase p, pool := s.pool.filter fun r => r.1 != p.phys }
    ((∀ t ∈ s.transit, t.handle ≠ p.handle) →
      ((tget s.arrq p.queue {}).en = true → exec (.parcelConfirm p.handle) s =
        .next { s with incoming := s.incoming.erase p, arrived := s.arrived ++ [⟨p.handle, p.queue, p.phys, p.size⟩] }) ∧
      ((tget s.arrq p.queue {}).en = false → exec (.parcelConfirm p.handle) s = .next discarded)) ∧
    exec (.receiverDiscard p.handle) s = .next discarded

/-- R53 to R62, R70, R328: publications and phases. The spare bytes of a spill entry are log 86, a failed publication log 55, the turn of a time-out
log 69, the course of an eviction log 6, which of two writes of one physical byte through two aliases stays log 103. -/
def Obligations.PhasesAndPublications : Prop := PhasesPublishAndBegin ∧ PhaseStartsFromMemory ∧ PublicationEventsAct

/-- R202 to R207, R230, R279 to R285, R361: the parcel instructions and the ends of deliveries (logs 15, 32, 70, and 113 for
copies that wait for their confirmation). -/
def Obligations.Parcels : Prop := ParcelInstructions ∧ ParcelDeliveries

namespace Sys2Proof.Claims

open Sys2Proof.Machine

/-! The matrix array (R96 to R98, R210 to R226). -/

/-- The hart holds the array, and its shape fits (R211, R212). -/
def HoldsArray (s : State) : Prop := s.core.claimant = some s.hart.idx ∧ count s * elemSize s ≤ 256 * s.hart.lanes

/-- Matrix forms that only the claimant may issue (R211). -/
def claimantForm : Instr → Bool
  | .mset _ _ | .mfmt _ _ | .mrel | .wld _ _ _ _ _ | .wswap | .mrow _ _ _ _ _ | .azero _ | .ald _ _ _ | .ast _ _ _ _ _ => true
  | _ => false

/-- The length mset grants (R213): the largest of 16, 32 and 64 within the request and the cap. -/
def Granted (g want cap : Nat) : Prop :=
  g ∈ [16, 32, 64] ∧ g ≤ max 16 want ∧ (16 ≤ cap → g ≤ cap) ∧ ∀ k ∈ [16, 32, 64], k ≤ max 16 want → k ≤ cap → k ≤ g

/-- Element (i, j) of an accumulator. -/
def accOf (s : State) (acc i j : Nat) : Nat := mgetN s.core.acc (16384 * acc + 256 * i + 4 * j) 4

/-- Where the parts of a tile lie (R216): offsets of its bytes from the base. -/
def metaOffset (sp pitch : Nat) : Nat := (if sp = 1 then 32 else 64) * pitch

def scaleOffset (sp pitch : Nat) : Nat := metaOffset sp pitch + if sp = 1 then 512 else 0

def tileOffsets (code sp pitch : Nat) : List Nat :=
  ((List.range (if sp = 1 then 32 else 64)).flatMap fun q => (List.range (8 * (codeElem code).width)).map fun o => q * pitch + o) ++
  (if sp = 1 then (List.range 512).map (metaOffset sp pitch + ·) else []) ++
  (List.range (if codeBlock code = 0 then 0 else 64 * (64 / codeBlock code) * (scaleBits code / 8))).map (scaleOffset sp pitch + ·)

/-- The metadata nibble of a group and column (R216): its two positions. -/
def positions (byte : Nat → Byte) (pitch g j : Nat) : Nat × Nat :=
  let n := (byte (metaOffset 1 pitch + 32 * g + j / 2)).toNat / 16 ^ (j % 2) % 16
  (n % 4, n / 4)

/-- The element of a data row in a column, from the bytes of the tile (R84, R216). -/
def dataElem (byte : Nat → Byte) (code pitch q j : Nat) : Nat :=
  let w := (codeElem code).width
  littleEndian ((List.range (8 * w)).map fun o => byte (q * pitch + o)) / 2 ^ (w * j) % 2 ^ w

/-- The weight at (k, j): for a sparse tile, one of the two that its group keeps, or +0. -/
def weightOf (byte : Nat → Byte) (code sp pitch k j : Nat) : Nat :=
  if sp = 1 then
    let p := positions byte pitch (k / 4) j
    if p.1 = k % 4 then dataElem byte code pitch (2 * (k / 4)) j
    else if p.2 = k % 4 then dataElem byte code pitch (2 * (k / 4) + 1) j
    else zeroCode code
  else dataElem byte code pitch k j

/-- A tile that holds what its bytes say. -/
def TileHolds (byte : Nat → Byte) (code sp pitch : Nat) (t : Tile) : Prop :=
  t.code = code ∧ t.sparse = (sp == 1) ∧ (∀ k < 64, ∀ j < 64, t.wt k j = weightOf byte code sp pitch k j) ∧
    ∀ b j, codeBlock code ≠ 0 → b < 64 / codeBlock code → j < 64 →
      t.sc b j = littleEndian ((List.range (scaleBits code / 8)).map fun o =>
        byte (scaleOffset sp pitch + (64 * b + j) * (scaleBits code / 8) + o))

/-- The lowest tile index that a byte of a tile serves, by its offset (R218). -/
def servedIndex (code sp pitch o : Nat) : Nat :=
  if o < metaOffset sp pitch then 64 * (if sp = 1 then 4 * (o / pitch / 2) else o / pitch) + 8 * (o % pitch) / (codeElem code).width
  else if o < scaleOffset sp pitch then 256 * ((o - metaOffset sp pitch) / 32) + 2 * ((o - metaOffset sp pitch) % 32)
  else
    let i := (o - scaleOffset sp pitch) / (scaleBits code / 8)
    64 * codeBlock code * (i / 64) + i % 64

/-- The pitch of a tile is legal (R218); the bytes of a tile in memory are read, with the physical address and the value of each (R66). -/
def TilePitch (code pitch : Nat) : Prop := pitch % 16 = 0 ∧ 8 * (codeElem code).width ≤ pitch ∧ pitch < 2 ^ 32

def TileReads (s : State) (base pitch code sp : Nat) (pa : Nat → Nat) (byte : Nat → Byte) : Prop :=
  TilePitch code pitch ∧ base % 16 = 0 ∧ EngineReads s (tileOffsets code sp pitch) (base + ·) pa 1 ∧
    ∀ o ∈ tileOffsets code sp pitch, base + o < 2 ^ 55 ∧ [byte o] = engineSeen s (base + o) (pa o) 1

/-- The state after the reads of a tile. -/
def tileRead (s : State) (pitch code sp : Nat) (pa : Nat → Nat) : State := along (engineStep pa) (tileOffsets code sp pitch) s

/-- The weights that begin in the byte of a tile at an offset (R216), and a tile that is latched counted for its frames (R317). -/
def weightsIn (code sp pitch o : Nat) : Nat :=
  if o < metaOffset sp pitch then ((List.range 64).filter fun j => (codeElem code).width * j / 8 == o % pitch).length else 0

def tileCounted (code sp pitch : Nat) (pa : Nat → Nat) (s : State) : State :=
  (tileOffsets code sp pitch).foldl (fun u o => if weightsIn code sp pitch o = 0 then u else touchN u (pa o) 1 (weightsIn code sp pitch o)) s

/-- A state with a tile in W0 or W1. -/
def withTile (s : State) (tile : Nat) (w : Tile) : State :=
  { s with core := if tile = 0 then { s.core with w0 := w } else { s.core with w1 := w } }

/-- The metadata of a sparse tile are valid (R217). -/
def ValidMetadata (byte : Nat → Byte) (sp pitch : Nat) : Prop :=
  sp = 1 → ∀ g < 16, ∀ j < 64, (positions byte pitch g j).1 < (positions byte pitch g j).2

/-- The fault of a matrix or link form in flight is held (R37, R39, R218, R226, R255): the element index it reports, the address, the rows committed.
That it is held until a trap strikes is log 3. -/
def RowFaultHeld (s t : State) (en : Entry) (x : Nat) (f : AccFault) (addr acc rows : Nat) : Prop :=
  ∃ h, t.hart.inflight = [en] ∧ t.hart.held = some h ∧ h.cause = f.cause ∧ h.sub = f.sub ∧ h.po = f.po ∧ h.acc = acc ∧ h.elem = x ∧
    h.addr = BitVec.ofNat 64 addr ∧ h.sec = 0 ∧ h.bmap = 0 ∧ h.w1 = s.hart.ir1 ∧ en.w1 = s.hart.ir1 ∧ en.pc = hereAddr s.hart ∧
    en.cnt.headD 0 = rows ∧ (∀ v, takeTrap t v = enterTrap t (heldTrap t.hart h)) ∧ (heldTrap t.hart h).rpc = t.hart.pc ∧
    (heldTrap t.hart h).ents = [en]

/-- The activation row of mrow (R220, R221): coordinates, an activation, the scale of its block. -/
def rowCoord (w : Word) (lo : Nat) : Nat := w.toNat / 2 ^ lo % 16384

def rowBase (s : State) (w : Word) : Nat := rowCoord w 16 + extent s.hart.bshape 1 * rowCoord w 32

def activationOf (s : State) (w : Word) (code vb k : Nat) : Nat :=
  packedOf s (codeElem code).width vb (k + extent s.hart.bshape 0 * rowBase s w)

def activationScaleOf (s : State) (w : Word) (code vb k : Nat) : Nat :=
  if codeBlock code = 0 then 0
  else packedOf s (scaleBits code) (vb + 1) (k / codeBlock code + 64 / codeBlock code * rowBase s w)

/-- Product k of column j (R96, R98, R222). -/
def exactProduct (s : State) (w : Word) (code vb j k : Nat) : Machine.Num × Nat :=
  if k < s.core.mvl then
    let wc := s.core.w0.code
    scaledProduct ((codeElem code).decode (activationOf s w code vb k)) (scaleNum code (activationScaleOf s w code vb k))
      ((codeElem wc).decode (s.core.w0.wt k j)) (scaleNum wc (if codeBlock wc = 0 then 0 else s.core.w0.sc (k / codeBlock wc) j))
  else (.fin false 0 0, 0)

def singleProduct (s : State) (w : Word) (vb j k : Nat) : Nat × Nat :=
  if k < s.core.mvl then roundF32 (mulNum (f32.decode (activationOf s w 0 vb k)) (f32.decode (s.core.w0.wt k j))) else (0, 0)

/-- Element j of the accumulator row after mrow, with its flags. -/
def mrowResult (s : State) (w : Word) (code vb acc j : Nat) : Nat × Nat :=
  if code = 0 then dotTree ((List.range 64).map (singleProduct s w vb j)) (accOf s acc (w.toNat % 64) j)
  else dotExact ((List.range 64).map (exactProduct s w code vb j)) (accOf s acc (w.toNat % 64) j)

/-- The issue checks of mrow (R222). -/
def MrowFits (s : State) (w : Word) (code vb : Nat) : Prop :=
  rowCoord w 16 < extent s.hart.bshape 1 ∧ rowCoord w 32 < extent s.hart.bshape 2 ∧ s.core.mvl ≤ extent s.hart.bshape 0 ∧
    PackedFits s (codeElem code).width ∧
    (codeBlock code ≠ 0 → vb ≠ 31 ∧
      scaleBits code * ((64 / codeBlock code * extent s.hart.bshape 1 * extent s.hart.bshape 2 + s.hart.lanes - 1) / s.hart.lanes) ≤ 2048) ∧
    (code = 0 ↔ s.core.w0.code = 0)

/-- The address of element (i, j) of an accumulator in memory (R224), by element index. -/
def accPlace (base pitch n tr e : Nat) : Nat := base + if tr = 1 then e % 64 * pitch + e / 64 * n else e / 64 * pitch + e % 64 * n

/-- The elements of rows below `i`, and of row `i` too (R226). -/
def rowsBelow (i : Nat) : List Nat := List.range (64 * i)

/-- What ast writes of an element (R225). -/
def stored (ety v : Nat) : Nat × Nat := if ety = 10 then (v, 0) else convert (.flt f32) (etypeElem ety) 0 0 false true v

/-- The pitch check of ald and ast. -/
def PitchFits (n pitch : Nat) : Prop := pitch % n = 0 ∧ 64 * n ≤ pitch ∧ pitch < 2 ^ 32

/-! Neighbour links (R41, R253 to R255). -/

/-- The core on a side, if there is one: 0 north, 1 south, 2 east, 3 west (R41); the side its rows arrive by. -/
def beside (s : State) (side : Nat) : Option Nat :=
  let x := s.hart.cx
  let y := s.hart.cy
  if side = 0 then (if y + 1 < 32 then some (x + 48 * (y + 1)) else none)
  else if side = 1 then (if 0 < y then some (x + 48 * (y - 1)) else none)
  else if side = 2 then (if x + 1 < 48 then some (x + 1 + 48 * y) else none)
  else if 0 < x then some (x - 1 + 48 * y) else none

def arrivalSide (side : Nat) : Nat := if side = 0 then 1 else if side = 1 then 0 else if side = 2 then 3 else 2

/-- The rows a spec names (R253). -/
def linkFirst (w : Word) : Nat := w.toNat % 2 ^ 32
def linkCount (w : Word) : Nat := w.toNat / 2 ^ 32 % 2 ^ 16

def RowsFit (s : State) (w : Word) : Prop :=
  1 ≤ linkCount w ∧ linkFirst w + linkCount w ≤ extent s.hart.bshape 1 * extent s.hart.bshape 2

/-- The bytes of row `q` of a brick. -/
def rowOf (s : State) (reg q : Nat) : List Byte :=
  (List.range (extent s.hart.bshape 0)).flatMap fun i => storedBytes (elemSize s) (elemOf s reg (q * extent s.hart.bshape 0 + i))

/-- Rows that wait in the hart's own channel on a side, oldest first; the rows of the other channels of the core. -/
def waitingRows (s : State) (side : Nat) : List LinkRow := s.core.links.filter fun r => r.side == side && r.idx == s.hart.idx

def otherRows (s : State) (side : Nat) : List LinkRow := s.core.links.filter fun r => !(r.side == side && r.idx == s.hart.idx)

/-- The first `n` rows of an nlrecv have been taken and stand where it names: in a brick register, or in a scratchpad halo with the placement of R28
(R255). `u` is the state it leaves but for them. -/
def RowsTaken (s u t : State) (vb xs2 side : Nat) (w : Word) (n : Nat) : Prop :=
  let x := extent s.hart.bshape 0
  let byte (q o : Nat) : Byte := (((waitingRows s side)[q - linkFirst w]?.map LinkRow.bytes).getD []).getD o 0
  let mine (e : Nat) : Prop := linkFirst w ≤ e / x ∧ e / x < linkFirst w + n
  let base := (rx s xs2).toNat % 16384
  let pitch := (rx s xs2).toNat / 2 ^ 16 % 512
  let place (e : Nat) := 16384 * (e % s.hart.lanes) + base + pitch * (e / s.hart.lanes)
  waitingRows t side = (waitingRows s side).drop n ∧ otherRows t side = otherRows s side ∧
  (xs2 = 0 → (∀ e, mine e → ∀ k < elemSize s,
      mget t.hart.bricks (8192 * vb + 256 * (e % s.hart.lanes) + e / s.hart.lanes * elemSize s + k) = byte (e / x) (e % x * elemSize s + k)) ∧
    (∀ a, (∀ e, mine e → a < 8192 * vb + 256 * (e % s.hart.lanes) + e / s.hart.lanes * elemSize s ∨
        8192 * vb + 256 * (e % s.hart.lanes) + e / s.hart.lanes * elemSize s + elemSize s ≤ a) →
      mget t.hart.bricks a = mget s.hart.bricks a) ∧
    t = { u with
      core := { s.core with links := t.core.links }
      hart := { u.hart with bricks := t.hart.bricks, btag := t.hart.btag, inflight := t.hart.inflight, held := t.hart.held } }) ∧
  (xs2 ≠ 0 → elemSize s ≤ pitch → base + pitch * ((count s + s.hart.lanes - 1) / s.hart.lanes) ≤ 16384 →
    (∀ e, mine e → ∀ k < elemSize s, mget t.hart.scratch (place e + k) = byte (e / x) (e % x * elemSize s + k)) ∧
    (∀ a, (∀ e, mine e → a < place e ∨ place e + elemSize s ≤ a) → mget t.hart.scratch a = mget s.hart.scratch a) ∧
    t = { u with
      core := { s.core with links := t.core.links }
      hart := { u.hart with
        scratch := t.hart.scratch, stagDirty := t.hart.stagDirty, stagValid := t.hart.stagValid, inflight := t.hart.inflight
        held := t.hart.held } })

end Sys2Proof.Claims

/-- R210, R211, R213 to R215, R219, R223: the forms that set the state of the array. -/
def Sys2Proof.Claims.ArrayStateForms : Prop :=
  (∀ (s : State), s.hart.lap = none → HoldsArray s → s.core.acc.wf = true →
    (∀ xd xs, xd < 32 → xs < 32 → ∃ g, Granted g (rx s xs).toNat (16 * 2 ^ s.core.mcap) ∧
      exec (.mset xd xs) s = .next (answered { s with core := { s.core with mvl := g } } xd (BitVec.ofNat 64 g))) ∧
    (∀ code st, code < 32 → st < 4 →
      exec (.mfmt code st) s = .next (passed { s with core := { s.core with afmt := s.core.afmt.setIfInBounds st code } } 4)) ∧
    exec .mrel s = .next (passed { s with core := { s.core with claimant := none } } 4) ∧
    exec .wswap s = .next (passed { s with core := { s.core with w0 := s.core.w1, w1 := s.core.w0 } } 4) ∧
    ∀ acc, acc < 4 → ∃ m, (∀ a, mget m a = if 16384 * acc ≤ a ∧ a < 16384 * acc + 16384 then 0 else mget s.core.acc a) ∧
      exec (.azero acc) s = .next (passed { s with core := { s.core with acc := m } } 4)) ∧
  (∀ (s : State) (xd : Nat), xd < 32 → s.hart.lap = none → count s * elemSize s ≤ 256 * s.hart.lanes →
    let asid := asidOf s.hart.ptroot
    (s.core.claimant = none → s.core.lastAsid = some asid →
      exec (.mclaim xd) s = .next (answered { s with core := { s.core with claimant := some s.hart.idx } } xd 1)) ∧
    (s.core.claimant = none → s.core.lastAsid ≠ some asid →
      exec (.mclaim xd) s = .next (answered { s with
        core := { s.core with
          claimant := some s.hart.idx, lastAsid := some asid, mvl := 16, afmt := .replicate 4 0, w0 := {}, w1 := {}, acc := [] } } xd 1)) ∧
    ∀ i, s.core.claimant = some i → exec (.mclaim xd) s = .next (answered s xd (if i = s.hart.idx then 1 else 0))) ∧
  ∀ (s : State) (i : Instr), wellFormed i = true → claimantForm i = true → CanTrap s → s.core.claimant ≠ some s.hart.idx →
    exec i s = .next (trapped s (ownTrap s 2 0 0 0 0))

/-- R66, R84, R216 to R218, R317: a tile is read, latched as one unit and counted, at once or when the tile of a wld in flight arrives. One whose fault
is held does not arrive any more. -/
def Sys2Proof.Claims.TilesAreLatched : Prop :=
  (∀ (s : State) (xs code sp xp tile : Nat) (pa : Nat → Nat) (byte : Nat → Byte), wellFormed (.wld xs code sp xp tile) = true →
    s.hart.lap = none → BrickReady s → s.core.claimant = some s.hart.idx →
    TileReads s (rx s xs).toNat (rx s xp).toNat code sp pa byte → ValidMetadata byte sp (rx s xp).toNat →
    ∃ w, TileHolds byte code sp (rx s xp).toNat w ∧
      exec (.wld xs code sp xp tile) s = .next (passed (tileCounted code sp (rx s xp).toNat pa (withTile (tileRead s (rx s xp).toNat code sp pa) tile w)) 4)) ∧
  (∀ (s : State) (e : Entry) (xs code sp xp tile : Nat) (pa : Nat → Nat) (byte : Nat → Byte),
    s.hart.run = .running → s.hart.held = none → s.hart.inflight = [e] → e.pair = false → decodeWord e.w1 = .ok (.wld xs code sp xp tile) →
    e.cnt.headD 0 = 0 → TileReads s e.cap.sc1.toNat e.cap.sc2.toNat code sp pa byte → ValidMetadata byte sp e.cap.sc2.toNat →
    ∃ w, TileHolds byte code sp e.cap.sc2.toNat w ∧
      let u := tileCounted code sp e.cap.sc2.toNat pa (withTile (tileRead s e.cap.sc2.toNat code sp pa) tile w)
      ∀ i, (i = .tileLatch s.hart.slot ∨ i = .elementGroupCommit) → exec i s =
        .next { u with hart := { u.hart with inflight := [], irPc := e.pc, instret := s.hart.instret + 1, waiting := false } }) ∧
  (∀ (s : State), s.hart.held.isSome = true → exec (.tileLatch s.hart.slot) s = .next s ∧ exec .elementGroupCommit s = .next s) ∧
  ∀ (s : State) (xs code sp xp tile : Nat), wellFormed (.wld xs code sp xp tile) = true → CanTrap s → ¬ TilePitch code (rx s xp).toNat →
    exec (.wld xs code sp xp tile) s = .next (trapped s (ownTrap s 2 0 0 0 0))

/-- R38, R187, R209, R217, R218: a wld that faults latches nothing: a misaligned base, then the lowest tile index whose byte has a bad address, then
data that cannot be corrected, then the lowest group with invalid metadata. -/
def Sys2Proof.Claims.BadTilesFault : Prop :=
  ∀ (s : State) (xs code sp xp tile : Nat), wellFormed (.wld xs code sp xp tile) = true → s.hart.lap = none → BrickReady s →
    s.core.claimant = some s.hart.idx →
    let i := Instr.wld xs code sp xp tile
    let base := (rx s xs).toNat
    let pitch := (rx s xp).toNat
    let offs := tileOffsets code sp pitch
    let serves := servedIndex code sp pitch
    /- the reported index, its fault, the lowest faulting byte that serves it -/
    let reported (bad : Nat → Option AccFault) (x : Nat) (f : AccFault) (o : Nat) : Prop :=
      o ∈ offs ∧ bad o = some f ∧ serves o = x ∧ (∀ q ∈ offs, (bad q).isSome = true → x ≤ serves q) ∧
        ∀ q ∈ offs, (bad q).isSome = true → serves q = x → bad q = some f ∧ o ≤ q
    TilePitch code pitch →
    (base % 16 ≠ 0 → ∃ t en, exec i s = .next t ∧ RowFaultHeld s t en 0 { cause := 3 } base 0 0 ∧
      t = { issuedPast s 4 with hart := { (issuedPast s 4).hart with inflight := [en], held := t.hart.held } }) ∧
    (∀ (bad : Nat → Option AccFault) (x o : Nat) (f : AccFault), base % 16 = 0 → reported bad x f o →
      (∀ q ∈ offs, (∀ g, bad q = some g → g.data = false ∧ AddressFaults s 0 1 (base + q : Nat) g) ∧
        (bad q = none → base + q < 2 ^ 55 ∧ ∃ pa, Placed s 0 (base + q) pa)) →
      ∃ t en, exec i s = .next t ∧ RowFaultHeld s t en x f (base + o) 0 0 ∧
        t = { issuedPast s 4 with hart := { (issuedPast s 4).hart with inflight := [en], held := t.hart.held } }) ∧
    (∀ (bad : Nat → Option AccFault) (x o : Nat) (f : AccFault) (pa : Nat → Nat), base % 16 = 0 → reported bad x f o →
      (∀ q ∈ offs, base + q < 2 ^ 55 ∧ paModule (pa q) = ownModule s ∧ Placed s 0 (base + q) (pa q) ∧
        bad q = if (ownByte s.hart (hartLoc s (base + q))).isNone && uncorrectable s (pa q) 1 then some { cause := 12, sub := 6, data := true } else none) →
      ∃ t en, exec i s = .next t ∧ RowFaultHeld s t en x f (base + o) 0 0 ∧ t.core.w0 = s.core.w0 ∧ t.core.w1 = s.core.w1) ∧
    ∀ (pa : Nat → Nat) (byte : Nat → Byte) (g j : Nat), sp = 1 → TileReads s base pitch code sp pa byte → g < 16 → j < 64 →
      (let p := positions byte pitch g j; p.2 ≤ p.1) →
      (∀ h k, k < 64 → 64 * h + k < 64 * g + j → (positions byte pitch h k).1 < (positions byte pitch h k).2) →
      ∃ t en, exec i s = .next t ∧ RowFaultHeld s t en (256 * g + j) { cause := 13 } (base + metaOffset sp pitch + 32 * g + j / 2) 0 0 ∧
        let r := issuedPast (tileRead s pitch code sp pa) 4
        t = { r with hart := { r.hart with inflight := [en], held := t.hart.held } }

/-- R96, R98, R220 to R222: one row of an accumulator, or the illegal-operand trap. -/
def Sys2Proof.Claims.RowsAreAccumulated : Prop :=
  ∀ (s : State) (vb acc xs c st : Nat), wellFormed (.mrow vb acc xs c st) = true → s.hart.lap = none →
    let w := rx s xs
    let code := s.core.afmt[st]?.getD 0
    let r (j : Nat) := mrowResult s w code vb acc j
    (BrickReady s → s.core.claimant = some s.hart.idx → s.core.acc.wf = true → MrowFits s w code vb →
      ∃ m, (∀ j < 64, mgetN m (16384 * acc + 256 * (w.toNat % 64) + 4 * j) 4 = (r j).1 % 2 ^ 32) ∧
        (∀ a, (a < 16384 * acc + 256 * (w.toNat % 64) ∨ 16384 * acc + 256 * (w.toNat % 64) + 256 ≤ a) → mget m a = mget s.core.acc a) ∧
        exec (.mrow vb acc xs c st) s = .next (passed { s with
          core := { s.core with acc := m }
          hart := { s.hart with
            fpctl := s.hart.fpctl ||| BitVec.ofNat 64 (2 ^ 8 * (List.range 64).foldl (fun fl j => fl ||| (r j).2) 0)
            perf := s.hart.perf.setIfInBounds 2 (s.hart.perf[2] + 1) } } 4)) ∧
    (¬ MrowFits s w code vb → CanTrap s → exec (.mrow vb acc xs c st) s = .next (trapped s (ownTrap s 2 0 0 0 0)))

/-- R77, R78, R80, R91, R96: a product of scaled operands is exact, the sum of the products is exact and rounded once, and so is what the accumulator
takes. -/
def Sys2Proof.Claims.ExactSumsAreRounded : Prop :=
  (∀ a sa w sw : Machine.Num,
    (∀ s m e s1 m1 e1 s2 m2 e2 s3 m3 e3, a = .fin s m e → sa = .fin s1 m1 e1 → w = .fin s2 m2 e2 → sw = .fin s3 m3 e3 →
      ∃ k g, scaledProduct a sa w sw = (.fin ((s != s1) != (s2 != s3)) k g, 0) ∧
        ratOf (.fin ((s != s1) != (s2 != s3)) k g) = ratOf a * ratOf sa * (ratOf w * ratOf sw)) ∧
    (a.isNaN = true ∨ sa.isNaN = true ∨ w.isNaN = true ∨ sw.isNaN = true → ∃ n, scaledProduct a sa w sw = (.nan false, n) ∧ (n = 0 ∨ n = 16))) ∧
  ∀ (ps : List (Machine.Num × Nat)) (acc : Nat), ps ≠ [] →
    let vs := ps.map Prod.fst
    let flags := ps.foldl (fun f p => f ||| p.2) 0
    let t := exactSum ps
    let v := addNum false (f32.decode acc) (f32.decode t.1)
    (.inf false ∈ vs → .inf true ∈ vs → t = (0x7FC00000, flags ||| 16)) ∧
    ((∃ x ∈ vs, x.isNaN = true) → ¬ (.inf false ∈ vs ∧ .inf true ∈ vs) → t = (0x7FC00000, flags)) ∧
    (∀ s, (∀ x ∈ vs, x.isNaN = false) → .inf s ∈ vs → .inf (!s) ∉ vs → t = (if s then 0xFF800000 else 0x7F800000, flags)) ∧
    ((∀ x ∈ vs, ∃ s m e, x = .fin s m e) →
      let S := (vs.map ratOf).sum
      (S = 0 → (∀ x ∈ vs, ∃ e, x = .fin true 0 e) → t = (0x80000000, flags)) ∧
      (S = 0 → (∃ x ∈ vs, ∀ e, x ≠ .fin true 0 e) → t = (0, flags)) ∧
      (S ≠ 0 → ∃ r, RoundsTo f32 0 0 false false (decide (S < 0)) (|S| : ℚ) r ∧ t = (r.1, r.2 ||| flags))) ∧
    ∃ r, Delivers (.flt f32) 0 0 false false v.1 r ∧ dotExact ps acc = (r.1, r.2 ||| v.2 ||| t.2)

/-- R77, R78, R80, R98: the fixed tree of pairs, rounded at every node, then the accumulator element; a signalling NaN in the accumulator sets no nv. -/
def Sys2Proof.Claims.TreeSumsAreRounded : Prop :=
  (∀ v : Machine.Num × Nat, ∃ r, Delivers (.flt f32) 0 0 false false v.1 r ∧ roundF32 v = (r.1, r.2 ||| v.2)) ∧
  ∀ (ps : List (Nat × Nat)) (acc : Nat), ps.length = 64 → ∃ node : Nat → Nat → Nat × Nat,
    (∀ i < 64, ps[i]? = some (node 0 i)) ∧
    (∀ l < 6, ∀ i < 64 / 2 ^ (l + 1), let v := addNum false (f32.decode (node l (2 * i)).1) (f32.decode (node l (2 * i + 1)).1)
      ∃ r, Delivers (.flt f32) 0 0 false false v.1 r ∧ node (l + 1) i = (r.1, r.2 ||| v.2)) ∧
    let old := f32.decode acc
    let v := addNum false (if old.isNaN then .nan false else old) (f32.decode (node 6 0).1)
    let flags := ((List.range 7).flatMap fun l => (List.range (64 / 2 ^ l)).map fun i => (node l i).2).foldl (· ||| ·) 0
    ∃ r, Delivers (.flt f32) 0 0 false false v.1 r ∧ dotTree ps acc = (r.1, r.2 ||| v.2 ||| flags)

/-- R75, R91, R96, R98, R220 to R222: a row of an accumulator, and the two sums that its elements are. That flags are raised row by row is log 51.
-/
def Obligations.MatrixRowResults : Prop := RowsAreAccumulated ∧ ExactSumsAreRounded ∧ TreeSumsAreRounded

/-- R54, R224 to R226: an accumulator read from memory, and written to it as another type. -/
def Sys2Proof.Claims.AccumulatorsAreMoved : Prop :=
  ∀ (s : State) (acc xs xp : Nat) (pa : Nat → Nat), acc < 4 → xs < 32 → xp < 32 → s.hart.lap = none →
    let base := (rx s xs).toNat
    let pitch := (rx s xp).toNat
    (BrickReady s → s.core.claimant = some s.hart.idx → s.core.acc.wf = true → PitchFits 4 pitch → base % 4 = 0 →
      (∀ e < 4096, accPlace base pitch 4 0 e < 2 ^ 55) → Reads s (List.range 4096) (accPlace base pitch 4 0) pa 4 1 →
      let r := readAll s (List.range 4096) (accPlace base pitch 4 0) pa 4 1
      ∃ m, (∀ e < 4096, mgetN m (16384 * acc + 4 * e) 4 = littleEndian (seenBytes s (accPlace base pitch 4 0 e) (pa e) 4)) ∧
        (∀ a, (a < 16384 * acc ∨ 16384 * acc + 16384 ≤ a) → mget m a = mget s.core.acc a) ∧
        exec (.ald acc xs xp) s = .next (passed { r with core := { r.core with acc := m } } 4)) ∧
    (∀ ety tr, ety < 12 → tr < 2 → BrickReady s → s.core.claimant = some s.hart.idx →
      let n := etypeSize ety
      let v (e : Nat) := stored ety (accOf s acc (e / 64) (e % 64))
      let bs (e : Nat) := storedBytes n (v e).1
      PitchFits n pitch → base % n = 0 → (∀ e < 4096, accPlace base pitch n tr e < 2 ^ 55) →
      Writes s (List.range 4096) (accPlace base pitch n tr) pa bs 1 →
      let r := writeAll s (List.range 4096) (accPlace base pitch n tr) pa bs 1
      exec (.ast acc xs xp ety tr) s = .next (passed { r with
        hart := { r.hart with fpctl := s.hart.fpctl ||| BitVec.ofNat 64 (2 ^ 8 * (List.range 4096).foldl (fun fl e => fl ||| (v e).2) 0) } } 4)) ∧
    ∀ ety tr, ety < 12 → tr < 2 → CanTrap s →
      (¬ PitchFits 4 pitch → exec (.ald acc xs xp) s = .next (trapped s (ownTrap s 2 0 0 0 0))) ∧
      (¬ PitchFits (etypeSize ety) pitch → exec (.ast acc xs xp ety tr) s = .next (trapped s (ownTrap s 2 0 0 0 0)))

/-- R38, R187, R209, R224, R226: addresses of row `i` fault, or data of it that ald cannot read: the rows below have moved, none of row `i` has, nor has
it been counted (R317), and the lowest element is reported. -/
def Sys2Proof.Claims.AccumulatorRowsFault : Prop :=
  ∀ (s : State) (acc xs xp i : Nat) (pa : Nat → Nat) (bad : Nat → Option AccFault) (x : Nat) (f : AccFault), acc < 4 → xs < 32 → xp < 32 →
    s.hart.lap = none → BrickReady s → s.core.claimant = some s.hart.idx → i < 64 →
    (∀ e, (bad e).isSome = true → e < 4096 ∧ e / 64 = i) → LowestOf bad (fun _ => True) x f →
    let base := (rx s xs).toNat
    let pitch := (rx s xp).toNat
    (s.core.acc.wf = true → PitchFits 4 pitch →
      let va := accPlace base pitch 4 0
      let step (e : Nat) (u : State) : State := match bad e with
        | some g => if g.sub = 6 then lostPlain (va e) (pa e) 4 u else u
        | none => readStep va pa 4 1 e u
      let els := List.range (64 * i + 64)
      AllAlong step (fun u => ∀ e ∈ els,
        (bad e = none → va e % 4 = 0 ∧ va e < 2 ^ 55 ∧ ReadServed u (va e) (pa e) 4) ∧
        ∀ g, bad e = some g → ReadFaults u 4 (va e) (pa e) g) els s →
      let r := issuedPast (along step els s) 4
      ∃ t en m, exec (.ald acc xs xp) s = .next t ∧ RowFaultHeld s t en x f (va x) 0 i ∧
        (∀ e < 64 * i, mgetN m (16384 * acc + 4 * e) 4 = littleEndian (seenBytes s (va e) (pa e) 4)) ∧
        (∀ a, (a < 16384 * acc ∨ 16384 * acc + 256 * i ≤ a) → mget m a = mget s.core.acc a) ∧
        t = { r with
          core := { r.core with acc := m, hot := (readAll s (rowsBelow i) va pa 4 1).core.hot }
          hart := { r.hart with inflight := [en], held := t.hart.held } }) ∧
    ∀ ety tr, ety < 12 → tr < 2 →
      let n := etypeSize ety
      let va := accPlace base pitch n tr
      let v (e : Nat) := stored ety (accOf s acc (e / 64) (e % 64))
      let bs (e : Nat) := storedBytes n (v e).1
      PitchFits n pitch →
      AllAlong (writeStep va pa bs 1) (fun u => ∀ e < 64 * i + 64,
        (bad e = none → va e % n = 0 ∧ va e < 2 ^ 55 ∧ Placed u 1 (va e) (pa e)) ∧
        ∀ g, bad e = some g → AddressFaults u 1 n (va e) g) (rowsBelow i) s →
      let r := issuedPast (writeAll s (rowsBelow i) va pa bs 1) 4
      ∃ t en, exec (.ast acc xs xp ety tr) s = .next t ∧ RowFaultHeld s t en x f (va x) 1 i ∧
        t = { r with
          hart := { r.hart with
            inflight := [en], held := t.hart.held
            fpctl := s.hart.fpctl ||| BitVec.ofNat 64 (2 ^ 8 * (rowsBelow i).foldl (fun fl e => fl ||| (v e).2) 0) } }

/-- R38, R54, R209, R224 to R226: accumulators move between the array and memory, and the faults of a row. That flags are raised row by row is log
51, that the fault of a row is held log 3. -/
def Obligations.AccumulatorsMove : Prop := AccumulatorsAreMoved ∧ AccumulatorRowsFault

/-- R28, R41, R253 to R255: rows sent to the core on a side, rows taken from the hart's own channel, a row of another length, a row that arrives. That a
channel is full at 256 bytes with those on their way counted is log 16. -/
def Obligations.NeighbourLinksCarryRows : Prop :=
  (∀ (s : State) (vb xs1 xs2 side : Nat), wellFormed (.nlsend vb xs1 xs2 side) = true → s.hart.lap = none →
    let w := rx s xs1
    (∀ n, BrickReady s → RowsFit s w → beside s side = some n →
      channelLoad s n (arrivalSide side) ((rx s xs2).toNat % 8) + (linkCount w - 1) * (extent s.hart.bshape 0 * elemSize s) < 256 →
      exec (.nlsend vb xs1 xs2 side) s = .next (passed { s with
        hart := { s.hart with pinned := true }
        agenda := s.agenda ++ (List.range (linkCount w)).map fun k => .neighbourRowArrival n (arrivalSide side) ((rx s xs2).toNat % 8)
          (extent s.hart.bshape 0 * elemSize s) (littleEndian (rowOf s vb (linkFirst w + k))) } 4)) ∧
    (¬ RowsFit s w ∨ beside s side = none → CanTrap s →
      exec (.nlsend vb xs1 xs2 side) s = .next (trapped s (ownTrap s 2 0 0 0 0)) ∧
      exec (.nlrecv vb xs1 xs2 side) s = .next (trapped s (ownTrap s 2 0 0 0 0)))) ∧
  (∀ (s : State) (vb xs1 xs2 side n : Nat), wellFormed (.nlrecv vb xs1 xs2 side) = true → s.hart.lap = none → BrickReady s →
    let w := rx s xs1
    let size := extent s.hart.bshape 0 * elemSize s
    1 ≤ extent s.hart.bshape 0 → RowsFit s w → (beside s side).isSome = true → n ≤ linkCount w → n ≤ (waitingRows s side).length →
    (∀ r ∈ (waitingRows s side).take n, r.bytes.length = size) →
    let pinned (u : State) : State := { u with hart := { u.hart with pinned := true } }
    (n = linkCount w → ∃ t, exec (.nlrecv vb xs1 xs2 side) s = .next t ∧ RowsTaken s (pinned (passed s 4)) t vb xs2 side w n ∧
      t.hart.inflight = s.hart.inflight ∧ t.hart.held = none) ∧
    ∀ r, n < linkCount w → (waitingRows s side)[n]? = some r → r.bytes.length ≠ size →
      ∃ t en, exec (.nlrecv vb xs1 xs2 side) s = .next t ∧ RowsTaken s (pinned (issuedPast s 4)) t vb xs2 side w n ∧
        RowFaultHeld s t en (linkFirst w + n) { cause := 2 } 0 0 n) ∧
  ∀ (s : State) (core side idx len data : Nat),
    (core = s.hart.coreNo → exec (.neighbourRowArrival core side idx len data) s =
      .next { s with core := { s.core with links := s.core.links ++ [⟨side, idx, storedBytes len data⟩] } }) ∧
    (core ≠ s.hart.coreNo → ∃ o, exec (.neighbourRowArrival core side idx len data) s = .next { s with otherCores := o } ∧
      (tget o core {}).links = (tget s.otherCores core {}).links ++ [⟨side, idx, storedBytes len data⟩] ∧
      ∀ c, c ≠ core → tget o c {} = tget s.otherCores c {})

/-- R38, R66, R84, R210 to R219, R223: the state of the array, its tiles, and tiles that fault. What one access of a tile is for its count is log
50, which address a faulting wld reports log 52, that the fault is held log 3, which address space last held the array log 109. -/
def Obligations.ArrayAndTiles : Prop := ArrayStateForms ∧ TilesAreLatched ∧ BadTilesFault

namespace Sys2Proof.Claims

open Sys2Proof.Machine

/-! Accesses of engines. -/

/-- A state that an engine operation passes through: bytes of `W` and what accesses leave may differ, no port comes up, stops, fills or is about to
spend its counter. -/
def Varied (s u : State) (W : Nat → Prop) : Prop :=
  (∀ a, ¬ W a → mget u.memory a = mget s.memory a) ∧
    (∀ p, portUp u p = portUp s p ∧ (portOf u p).peer = (portOf s p).peer ∧ (portOf u p).replay = (portOf s p).replay ∧
      ((portOf u p).txPend ≠ none ∨ (portOf u p).txctr + 2 ^ 69 < 2 ^ 96 - 1)) ∧
    u = { s with
      memory := u.memory, ports := u.ports, agenda := u.agenda, core := { s.core with hot := u.core.hot }
      die := { s.die with near := u.die.near }, otherDies := u.otherDies
      shadows := u.shadows, pubs := u.pubs, linePubs := u.linePubs, stalls := u.stalls
      hart := { s.hart with own := u.hart.own, joins := u.hart.joins, snap := u.hart.snap, perf := u.hart.perf } }

/-- An access that is translated and reaches its home without a change of the state all through an operation: by a window, or by a translation that the
core holds (R186, R314, R316). -/
def SteadyBy (v : View) (s : State) (acc va pa : Nat) (W : Nat → Prop) : Prop := ∀ u, Varied s u W → translate v acc va u = (u, .ok pa)

/-- No port is about to spend its counter (R366). -/
def PortsLast (s : State) : Prop := ∀ p, (portOf s p).txPend ≠ none ∨ (portOf s p).txctr + 2 ^ 70 < 2 ^ 96 - 1

/-- What an engine operation of a deadline leaves besides its writes: counts, and the notes of accesses that are served late (R317, R348). -/
def Trailed (s t : State) (deadline : Word) (then_ : List Instr) : Prop :=
  (∃ ls, (∀ i ∈ ls, i = Instr.late s.hart.slot) ∧ (deadline = 0 → ls = []) ∧ t.agenda = s.agenda ++ ls ++ then_) ∧ t.events = s.events

/-- The location of a virtual address of the hart in hand, and whether a location lies in some bytes. -/
def locAt (s : State) (va : Nat) : Nat := 2 ^ 55 * asidOf s.hart.ptroot + va

/-! The copy engine (R229 to R239). -/

/-- Bits `lo` to `lo + n - 1` of a descriptor. -/
def bitsAt {w : Nat} (d : BitVec w) (lo n : Nat) : Nat := d.toNat / 2 ^ lo % 2 ^ n

/-- The fields of a copy descriptor, of a routing descriptor and of a stream register, by their lowest bit and width, and a number with those bits
alone: reserved bits are ignored (R4, R182, R231, R268). -/
def copyDescriptor : List (Nat × Nat) :=
  [(0, 55), (64, 55), (128, 512), (640, 64), (704, 128), (832, 128), (960, 64), (1024, 2), (1028, 2), (1032, 1), (1088, 55), (1152, 64)]

def routingDescriptor : List (Nat × Nat) :=
  [(0, 55), (64, 55), (128, 55), (192, 55), (256, 55), (320, 55), (384, 55), (448, 64), (512, 64), (576, 32), (608, 32), (640, 17), (672, 4),
   (680, 2), (684, 2), (688, 2), (704, 32), (768, 64)]

def streamRegister : List (Nat × Nat) := [(0, 55), (64, 64), (128, 64), (192, 64), (256, 98), (360, 4), (384, 96)]

def keptBits (fields : List (Nat × Nat)) (v : Nat) : Nat := (fields.map fun f => v / 2 ^ f.1 % 2 ^ f.2 * 2 ^ f.1).sum

/-- Elements of a copy, their size, and the coordinates of one, coordinate 0 running fastest (R231, R234). -/
def tileCount (d : BitVec 1536) : Nat := bitsAt d 640 16 * bitsAt d 656 16 * bitsAt d 672 16 * bitsAt d 688 16

def tileSize (d : BitVec 1536) : Nat := 2 ^ bitsAt d 1024 2

def tileCoord (d : BitVec 1536) (e i : Nat) : Nat :=
  if i = 0 then e % bitsAt d 640 16
  else if i = 1 then e / bitsAt d 640 16 % bitsAt d 656 16
  else if i = 2 then e / (bitsAt d 640 16 * bitsAt d 656 16) % bitsAt d 672 16
  else e / (bitsAt d 640 16 * bitsAt d 656 16 * bitsAt d 672 16)

/-- Source coordinate, whether the element lies inside the tensor, and the two addresses, exact (R234). -/
def sourceCoord (d : BitVec 1536) (e i : Nat) : Int := signedField 32 (bitsAt d (832 + 32 * i) 32) + tileCoord d e i

def readsSource (d : BitVec 1536) (e : Nat) : Bool :=
  [0, 1, 2, 3].all fun i => decide (0 ≤ sourceCoord d e i) && decide (sourceCoord d e i < bitsAt d (704 + 32 * i) 32)

def sourcePlace (d : BitVec 1536) (e : Nat) : Int :=
  bitsAt d 0 55 + (([0, 1, 2, 3] : List Nat).map fun i => sourceCoord d e i * signedField 64 (bitsAt d (128 + 64 * i) 64)).sum

def destPlace (d : BitVec 1536) (e : Nat) : Int :=
  bitsAt d 64 55 + (([0, 1, 2, 3] : List Nat).map fun i => (tileCoord d e i : Int) * signedField 64 (bitsAt d (384 + 64 * i) 64)).sum

/-- The elements from the first to transfer up to `n`. -/
def copied (d : BitVec 1536) (n : Nat) : List Nat := (List.range n).filter fun e => decide (bitsAt d 1152 64 ≤ e)

/-- The source hull and the destination hull exist, stay in the address space, and intersect (R233). -/
def HullsMeet (d : BitVec 1536) : Prop :=
  let n := tileSize d
  let src := ((copied d (tileCount d)).filter (readsSource d)).map (sourcePlace d)
  let dst := (copied d (tileCount d)).map (destPlace d)
  (∀ a ∈ src ++ dst, 0 ≤ a ∧ a + n ≤ 2 ^ 55) ∧ (∃ a ∈ src, ∃ b ∈ dst, a < b + n) ∧ ∃ a ∈ src, ∃ b ∈ dst, b < a + n

/-- A channel of the hart. -/
def channel (s : State) (ch : Nat) : Channel := s.hart.chan[ch]?.getD {}

def withChannel (s : State) (ch : Nat) (c : Channel) : State := { s with hart := { s.hart with chan := s.hart.chan.setIfInBounds ch c } }

/-- The view of an engine operation of the hart in hand. -/
def engineSees (s : State) (priv : Bool) : View := ⟨s.hart.ptroot, s.hart.coreNo, priv⟩

/-- The places of the elements of a copy that runs: legal, translated, readable; nothing makes them wait. -/
def CopyReads (s : State) (x : Copy) (e : Nat) (sa : Nat → Nat) : Prop :=
  readsSource x.desc e = true →
    sourcePlace x.desc e % tileSize x.desc = 0 ∧ 0 ≤ sourcePlace x.desc e ∧ sourcePlace x.desc e < 2 ^ 55 ∧
    SteadyBy (engineSees s x.priv) s 0 (sourcePlace x.desc e).toNat (sa e) (fun _ => False) ∧
    EngineReadable s (engineSees s x.priv) (sourcePlace x.desc e).toNat (sa e) (tileSize x.desc) ∧ portFull s (homeAddr s (sa e)) 0 = false

def CopyAims (s : State) (x : Copy) (e : Nat) (pa : Nat → Nat) : Prop :=
  destPlace x.desc e % tileSize x.desc = 0 ∧ 0 ≤ destPlace x.desc e ∧ destPlace x.desc e < 2 ^ 55 ∧ engineWaits s (pa e) (tileSize x.desc) = false ∧
    SteadyBy (engineSees s x.priv) s 1 (destPlace x.desc e).toNat (pa e) (fun _ => False)

/-- The value of an element: its source, or the fill. -/
def copyValue (s : State) (x : Copy) (sa : Nat → Nat) (e : Nat) : Nat :=
  if readsSource x.desc e then littleEndian (engineSeen s (sourcePlace x.desc e).toNat (sa e) (tileSize x.desc))
  else bitsAt x.desc 960 64 % 2 ^ (8 * tileSize x.desc)

/-- Whether an element's value stays where several are written (R235): a data element before padding, then the higher index. -/
def Stays (s : State) (x : Copy) (els : List Nat) (pa : Nat → Nat) (e : Nat) : Prop :=
  ∀ d ∈ els, d ≠ e → homeAddr s (pa d) < homeAddr s (pa e) + tileSize x.desc → homeAddr s (pa e) < homeAddr s (pa d) + tileSize x.desc →
    (readsSource x.desc e = true ∧ readsSource x.desc d = false) ∨ (readsSource x.desc e = readsSource x.desc d ∧ d < e)

/-- Memory after the writes of some elements: `m`. -/
def CopyLands (s : State) (m : Memory) (x : Copy) (els : List Nat) (sa pa : Nat → Nat) : Prop :=
  (∀ e ∈ els, Stays s x els pa e → ∀ k < tileSize x.desc,
    mget m (homeAddr s (pa e) + k) = softly s (homeAddr s (pa e) + k) (mget s.memory (homeAddr s (pa e) + k))
      ((storedBytes (tileSize x.desc) (copyValue s x sa e)).getD k 0)) ∧
  ∀ a, (∀ e ∈ els, a < homeAddr s (pa e) ∨ homeAddr s (pa e) + tileSize x.desc ≤ a) → mget m a = mget s.memory a

/-- What the writes of some elements of a copy leave besides memory: the bytes to join, the hart's earlier writes to them home, no copies of them
in the near cache (R67, R68). -/
def CopyNoted (s t : State) (ch : Nat) (x : Copy) (els : List Nat) (pa : Nat → Nat) : Prop :=
  (∀ e ∈ els, Stays s x els pa e → ∀ k < tileSize x.desc,
    (⟨ch, x.id, locAt s (destPlace x.desc e).toNat + k, pa e + k⟩ : EngineByte) ∈ t.hart.joins ∧
      tfind t.die.near (locAt s (destPlace x.desc e).toNat + k) = none) ∧
  (∀ j ∈ s.hart.joins, j ∈ t.hart.joins) ∧
  ∀ p ∈ t.hart.own, ∃ q ∈ s.hart.own, p = (q.1, { q.2 with home := p.2.home }) ∧ (q.2.home = true → p.2.home = true)

/-- A channel after its copy at the head has completed: the next of the queue, the status of the id, the watermark (R230, R238). -/
def Ended (c d : Channel) (id code : Nat) : Prop :=
  d.shadow = c.shadow ∧ d.next = c.next ∧ d.refusal = c.refusal ∧ (d.codeOf id = some code ∨ id + 64 < d.w) ∧ c.w ≤ d.w ∧
    (∀ q, c.w ≤ q → q < d.w → q = id ∨ (c.codeOf q).isSome = true) ∧ (c.stats.length < 80 → d.codeOf d.w = none)

/-- The hart joins an engine (R67): the bytes the engine wrote under ids up to `upto` read as their homes hold them. -/
def Joined (s : State) (own : Table OwnByte) (eng upto : Nat) : Prop :=
  let mine := s.hart.joins.filter fun j => j.eng == eng && decide (j.id ≤ upto)
  (∀ a, (∀ j ∈ mine, j.loc ≠ a) → (own.find? fun p => p.1 == a).map Prod.snd = ownByte s.hart a) ∧
  ∀ j ∈ mine, (∀ k ∈ mine, k.loc = j.loc → k.pa = j.pa) →
    (own.find? fun p => p.1 == j.loc).map Prod.snd = some ⟨mget s.memory (homeAddr s j.pa), j.pa, true, true⟩

def joined (s : State) (own : Table OwnByte) (eng upto : Nat) : State :=
  { s with hart := { s.hart with own := own, joins := s.hart.joins.filter fun j => !(j.eng == eng && decide (j.id ≤ upto)) } }

/-- The result of cpstat (R238). -/
def statusWord (c : Channel) (q : Nat) : Nat :=
  if q = 0 then c.refusal
  else if c.next ≤ q ∨ q + 64 < c.w then 7
  else match c.st, c.queue with
    | .faulted, x :: _ => if x.id = q then 3 + c.cause * 2 ^ 8 + bitsAt x.desc 1152 48 * 2 ^ 16 else (c.codeOf q).getD 0
    | _, _ => (c.codeOf q).getD 0

/-! The routing engine (R240 to R242, R268 to R277). -/

/-- A number of `n` bytes as an engine reads it, its address translated by `pa`. -/
def engineWord (s : State) (pa : Nat → Nat) (va n : Nat) : Nat := littleEndian (engineSeen s va (pa va) n)

/-- The choice number `p = t·K + k` of a descriptor: expert and gate (R270). -/
def expertOf (s : State) (d : BitVec 1024) (pa : Nat → Nat) (p : Nat) : Nat :=
  if bitsAt d 684 1 = 1 then engineWord s pa (bitsAt d 0 55 + 4 * p) 4 else engineWord s pa (bitsAt d 0 55 + 8 * p) 8 % 2 ^ 32

def gateOf (s : State) (d : BitVec 1024) (pa : Nat → Nat) (p : Nat) : Nat :=
  if bitsAt d 684 1 = 1 then 0x3F800000 else engineWord s pa (bitsAt d 0 55 + 8 * p) 8 / 2 ^ 32

/-- T, K, E and the number of choices. -/
def tokens (d : BitVec 1024) : Nat := bitsAt d 576 32
def slotsOf (d : BitVec 1024) : Nat := bitsAt d 672 4
def experts (d : BitVec 1024) : Nat := bitsAt d 640 17
def choices (d : BitVec 1024) : Nat := tokens d * slotsOf d

/-- Capacity and bases of an expert (R269). -/
def capacityOf (s : State) (d : BitVec 1024) (pa : Nat → Nat) (x : Nat) : Nat := engineWord s pa (bitsAt d 128 55 + 32 * x + 16) 4

def bufferOf (s : State) (d : BitVec 1024) (pa : Nat → Nat) (x off : Nat) : Nat :=
  (engineWord s pa (bitsAt d 128 55 + 32 * x + off) 4 + 2 ^ 32 * engineWord s pa (bitsAt d 128 55 + 32 * x + off + 4) 4) % 2 ^ 55

/-- D[x], the prefix sums P[x], the rank of a choice among those of its expert, whether it is kept or dropped (R272). -/
def demandOf (s : State) (d : BitVec 1024) (pa : Nat → Nat) (x : Nat) : Nat :=
  ((List.range (choices d)).filter fun p => expertOf s d pa p == x).length

def startOf (s : State) (d : BitVec 1024) (pa : Nat → Nat) (x : Nat) : Nat :=
  ((List.range x).map fun y => min (demandOf s d pa y) (capacityOf s d pa y)).sum

def rankOf (s : State) (d : BitVec 1024) (pa : Nat → Nat) (p : Nat) : Nat :=
  ((List.range p).filter fun q => expertOf s d pa q == expertOf s d pa p).length

def keptChoice (s : State) (d : BitVec 1024) (pa : Nat → Nat) (p : Nat) : Bool :=
  decide (expertOf s d pa p < experts d) && decide (rankOf s d pa p < capacityOf s d pa (expertOf s d pa p))

def droppedChoices (s : State) (d : BitVec 1024) (pa : Nat → Nat) : List Nat :=
  (List.range (choices d)).filter fun p => !keptChoice s d pa p && expertOf s d pa p != 0xFFFFFFFF

/-- Global row index, and the addresses of a row. -/
def rowIndex (s : State) (d : BitVec 1024) (pa : Nat → Nat) (p : Nat) : Nat := startOf s d pa (expertOf s d pa p) + rankOf s d pa p

def sourceRow (d : BitVec 1024) (t : Nat) : Int := bitsAt d 64 55 + t * signedField 64 (bitsAt d 448 64)

def expertRow (s : State) (d : BitVec 1024) (pa : Nat → Nat) (off x i j : Nat) : Nat :=
  if bitsAt d 685 1 = 1 then bufferOf s d pa 0 off + i * bitsAt d 768 64 else bufferOf s d pa x off + j * bitsAt d 768 64

/-- A row in units of 4 bytes. -/
def rowUnits (d : BitVec 1024) : List Nat := (List.range (bitsAt d 704 32 / 4)).map (4 * ·)

/-- What a dispatch writes (R272 to R274), as units of 4 or 8 bytes: address, size, value. -/
def dispatchWrites (s : State) (d : BitVec 1024) (pa : Nat → Nat) : List (Nat × Nat × Nat) :=
  (List.range (choices d)).map (fun p =>
    (bitsAt d 256 55 + 4 * p, 4, if keptChoice s d pa p then rowIndex s d pa p % 2 ^ 32 else 2 ^ 32 - 1)) ++
  ((droppedChoices s d pa).take (bitsAt d 608 32)).zipIdx.map (fun q =>
    (bitsAt d 320 55 + 8 * q.2, 8, q.1 / slotsOf d + q.1 % slotsOf d * 2 ^ 24 + expertOf s d pa q.1 * 2 ^ 32)) ++
  ((List.range (choices d)).filter (keptChoice s d pa)).flatMap (fun p => (rowUnits d).map fun o =>
    (expertRow s d pa 0 (expertOf s d pa p) (rowIndex s d pa p) (rankOf s d pa p) + o, 4,
      engineWord s pa ((sourceRow d (p / slotsOf d)).toNat + o) 4)) ++
  (List.range (experts d)).map (fun x => (bitsAt d 192 55 + 8 * x, 8, demandOf s d pa x % 2 ^ 32 + startOf s d pa x % 2 ^ 32 * 2 ^ 32))

/-- What a dispatch reads: address and size. -/
def DispatchReads (s : State) (d : BitVec 1024) (pa : Nat → Nat) (va n : Nat) : Prop :=
  (∃ p < choices d, if bitsAt d 684 1 = 1 then va = bitsAt d 0 55 + 4 * p ∧ n = 4 else va = bitsAt d 0 55 + 8 * p ∧ n = 8) ∨
  (∃ x < experts d, ∃ o ∈ [0, 4, 16], va = bitsAt d 128 55 + 32 * x + o ∧ n = 4) ∨
  ∃ p < choices d, keptChoice s d pa p = true ∧ ∃ o ∈ rowUnits d, (va : Int) = sourceRow d (p / slotsOf d) + o ∧ n = 4

/-- The reads and writes of an engine operation are aligned and translated, nothing makes them wait, and nothing it writes is read or written
twice. -/
def Undisturbed (s : State) (v : View) (pa : Nat → Nat) (reads : Nat → Nat → Prop) (writes : List (Nat × Nat × Nat)) : Prop :=
  let home (a : Nat) := homeAddr s (pa a)
  let W (a : Nat) : Prop := ∃ w ∈ writes, ∃ i < w.2.1, home (w.1 + i) = a
  PortsLast s ∧ (∀ va n, reads va n → va % n = 0 ∧ va < 2 ^ 55 ∧ EngineReadable s v va (pa va) n ∧ SteadyBy v s 0 va (pa va) W ∧
    portFull s (homeAddr s (pa va)) 0 = false ∧ ∀ i < n, ¬ W (homeAddr s (pa va + i))) ∧
  (∀ w ∈ writes, w.1 % w.2.1 = 0 ∧ w.1 < 2 ^ 55 ∧ SteadyBy v s 1 w.1 (pa w.1) W ∧ pa w.1 % w.2.1 = 0 ∧ engineWaits s (pa w.1) w.2.1 = false ∧
    ∀ i < w.2.1, pa (w.1 + i) = pa w.1 + i ∧ home (w.1 + i) = home w.1 + i) ∧
  writes.Pairwise fun w u =>
    (w.1 + w.2.1 ≤ u.1 ∨ u.1 + u.2.1 ≤ w.1) ∧ (home w.1 + w.2.1 ≤ home u.1 ∨ home u.1 + u.2.1 ≤ home w.1)

/-- The state after an engine operation: its bytes at their homes, noted for the join; earlier writes of the hart to them are home; the near
cache has no copies of them. -/
def Landed (s t : State) (pa : Nat → Nat) (eng id : Nat) (writes : List (Nat × Nat × Nat)) : Prop :=
  (∀ w ∈ writes, ∀ i < w.2.1, mget t.memory (homeAddr s (pa w.1) + i) =
    softly s (homeAddr s (pa w.1) + i) (mget s.memory (homeAddr s (pa w.1) + i)) ((storedBytes w.2.1 w.2.2).getD i 0)) ∧
  (∀ a, (∀ w ∈ writes, a < homeAddr s (pa w.1) ∨ homeAddr s (pa w.1) + w.2.1 ≤ a) → mget t.memory a = mget s.memory a) ∧
  (∀ j, j ∈ t.hart.joins ↔ j ∈ s.hart.joins ∨ ∃ w ∈ writes, ∃ i < w.2.1, j = ⟨eng, id, locAt s w.1 + i, pa w.1 + i⟩) ∧
  (∀ w ∈ writes, ∀ i < w.2.1, tfind t.die.near (locAt s w.1 + i) = none) ∧
  t.core = { s.core with hot := t.core.hot } ∧
  t.hart.own = s.hart.own.map fun p =>
    (p.1, { p.2 with home := p.2.home || writes.any fun w => decide (locAt s w.1 ≤ p.1) && decide (p.1 < locAt s w.1 + w.2.1) })

/-- The format of combine rows (R268). -/
def rowFormat (d : BitVec 1024) : Fmt := if bitsAt d 680 2 = 0 then f32 else if bitsAt d 680 2 = 1 then bf16 else f16

/-- Whether slot `p` of a combine adds its row: the entry of the inverse table and the rank of its row (R275). -/
def inverseOf (s : State) (d : BitVec 1024) (pa : Nat → Nat) (p : Nat) : Int :=
  signedField 32 (engineWord s pa (bitsAt d 256 55 + 4 * p) 4)

def slotRank (s : State) (d : BitVec 1024) (pa : Nat → Nat) (p : Nat) : Int :=
  inverseOf s d pa p - (engineWord s pa (bitsAt d 192 55 + 8 * expertOf s d pa p) 8 / 2 ^ 32 : Nat)

def adds (s : State) (d : BitVec 1024) (pa : Nat → Nat) (p : Nat) : Bool :=
  decide (0 ≤ inverseOf s d pa p) && decide (expertOf s d pa p < experts d) && decide (0 ≤ slotRank s d pa p) &&
    decide (slotRank s d pa p < capacityOf s d pa (expertOf s d pa p))

/-- The row that a slot adds, and its element `j`. -/
def combineRow (s : State) (d : BitVec 1024) (pa : Nat → Nat) (p : Nat) : Nat :=
  expertRow s d pa 8 (expertOf s d pa p) (inverseOf s d pa p).toNat (slotRank s d pa p).toNat

def combineElem (s : State) (d : BitVec 1024) (pa : Nat → Nat) (p j : Nat) : Nat :=
  let n := (rowFormat d).w / 8
  engineWord s pa (combineRow s d pa p + j * n / 4 * 4) 4 / 2 ^ (8 * (j * n % 4)) % 2 ^ (8 * n)

/-- One slot: g·v + acc, rounded once. -/
def fuse (s : State) (d : BitVec 1024) (pa : Nat → Nat) (j : Nat) (acc : Nat × Nat) (p : Nat) : Nat × Nat :=
  if adds s d pa p then
    let x := mulNum (f32.decode (gateOf s d pa p)) ((rowFormat d).decode (combineElem s d pa p j))
    let y := addNum false x.1 (f32.decode acc.1)
    let z := Elem.ofNum (.flt f32) 0 0 false false y.1
    (z.1, acc.2 ||| x.2 ||| y.2 ||| z.2)
  else acc

/-- Element `j` of output row `t` with its flags. -/
def combinedElem (s : State) (d : BitVec 1024) (pa : Nat → Nat) (t j : Nat) : Nat × Nat :=
  let a := (List.range (slotsOf d)).foldl (fun acc k => fuse s d pa j acc (t * slotsOf d + k)) (0, 0)
  let o := convert (.flt f32) (.flt (rowFormat d)) 0 0 false false a.1
  (o.1, a.2 ||| o.2)

/-- Output row `t`, its unit of 4 bytes at an offset, and what a combine reads and writes. -/
def outputRow (d : BitVec 1024) (t : Nat) : Int := bitsAt d 384 55 + t * signedField 64 (bitsAt d 512 64)

def outputUnit (s : State) (d : BitVec 1024) (pa : Nat → Nat) (t o : Nat) : Nat :=
  let n := (rowFormat d).w / 8
  littleEndian ((List.range (4 / n)).flatMap fun i => storedBytes n (combinedElem s d pa t (o / n + i)).1)

def combineWrites (s : State) (d : BitVec 1024) (pa : Nat → Nat) : List (Nat × Nat × Nat) :=
  (List.range (tokens d)).flatMap fun t => (rowUnits d).map fun o => ((outputRow d t).toNat + o, 4, outputUnit s d pa t o)

def CombineReads (s : State) (d : BitVec 1024) (pa : Nat → Nat) (va n : Nat) : Prop :=
  (∃ p < choices d, (va = bitsAt d 256 55 + 4 * p ∧ n = 4) ∨
    if bitsAt d 684 1 = 1 then va = bitsAt d 0 55 + 4 * p ∧ n = 4 else va = bitsAt d 0 55 + 8 * p ∧ n = 8) ∨
  (∃ x < experts d, (∃ o ∈ [8, 12, 16], va = bitsAt d 128 55 + 32 * x + o ∧ n = 4) ∨ (va = bitsAt d 192 55 + 8 * x ∧ n = 8)) ∨
  ∃ p < choices d, adds s d pa p = true ∧ ∃ o ∈ rowUnits d, va = combineRow s d pa p + o ∧ n = 4

/-- The checks of R271. -/
def Routable (d : BitVec 1024) (combine : Bool) : Prop :=
  (1 ≤ tokens d ∧ tokens d ≤ 2 ^ 24) ∧ (1 ≤ slotsOf d ∧ slotsOf d ≤ 8) ∧ (1 ≤ experts d ∧ experts d ≤ 65536) ∧
    (4 ≤ bitsAt d 704 32 ∧ bitsAt d 704 32 ≤ 65536 ∧ bitsAt d 704 32 % 4 = 0) ∧
    (bitsAt d 704 32 ≤ bitsAt d 768 64 ∧ bitsAt d 768 64 % 4 = 0) ∧
    bitsAt d 0 55 % (if bitsAt d 684 1 = 1 then 4 else 8) = 0 ∧ (∀ lo ∈ [192, 320], bitsAt d lo 55 % 8 = 0) ∧
    (∀ lo ∈ [128, 256, 64, 384], bitsAt d lo 55 % 4 = 0) ∧
    (combine = true → bitsAt d 680 2 ≠ 3 ∧ signedField 64 (bitsAt d 512 64) % 4 = 0)

/-- The hart has an operation in flight. -/
def Routing (s : State) : Prop := ∃ op, s.hart.rop = some op ∧ op.st = .running

/-- The record of the latest operation, which is the latest dispatch too unless it combines (R242). -/
def routed (s : State) (op : RouteOp) : State :=
  { s with hart := { s.hart with rop := some op, rdisp := if op.combine then s.hart.rdisp else some op } }

end Sys2Proof.Claims

/-- R230, R232, R233, R237, R238: the forms of the copy engine. -/
def Sys2Proof.Claims.CopyForms : Prop :=
  ∀ (s : State) (xd xs1 ch : Nat), xd < 32 → xs1 < 32 → ch < 4 → s.hart.lap = none →
    let c := channel s ch
    let q := (rx s xs1).toNat
    (∀ pa, q % 64 = 0 → Reads s (List.range 24) (q + 8 * ·) pa 8 1 →
      exec (.cpset xs1 ch) s = .next (passed (withChannel (readAll s (List.range 24) (q + 8 * ·) pa 8 1) ch { c with
        shadow := BitVec.ofNat 1536 (keptBits copyDescriptor
          ((List.range 24).map fun k => littleEndian (seenBytes s (q + 8 * k) (pa k) 8) * 2 ^ (64 * k)).sum) }) 4)) ∧
    (q % 64 ≠ 0 → CanTrap s → exec (.cpset xs1 ch) s = .next (trapped s (ownTrap s 3 0 0 0 (rx s xs1)))) ∧
    (16 ≤ c.incomplete → exec (.cplaunch xd ch) s = .next (stalled s)) ∧
    (c.incomplete < 16 → HullsMeet c.shadow → exec (.cplaunch xd ch) s = .next (answered (withChannel s ch { c with refusal := 2 }) xd 0)) ∧
    (c.incomplete < 16 → ¬ HullsMeet c.shadow →
      exec (.cplaunch xd ch) s = .next (answered
        (let t := withChannel s ch { c with
            next := c.next + 1, refusal := 1, st := if c.st = .idle then .running else c.st
            queue := c.queue ++ [⟨c.next, c.shadow, s.hart.priv, s.hart.pc, bitsAt c.shadow 1152 64, s.hart.deadline⟩] }
         if c.st = .idle then { t with agenda := t.agenda ++ [.copyComplete s.hart.slot ch] } else t)
        xd (BitVec.ofNat 64 c.next))) ∧
    ((q = 0 ∨ q < c.w) → (∀ x rest, c.st = .faulted → c.queue = x :: rest → q ≠ 0 ∧ q < x.id) →
      ∃ o, Joined s o ch (c.w - 1) ∧ exec (.cpwait xd xs1 ch) s = .next (answered (joined s o ch (c.w - 1)) xd (BitVec.ofNat 64 c.w))) ∧
    (c.w ≤ q → q ≠ 0 → (∀ x rest, c.st = .faulted → c.queue = x :: rest → q < x.id) →
      exec (.cpwait xd xs1 ch) s = .next (stalled s)) ∧
    (∀ x rest, c.st = .faulted → c.queue = x :: rest →
      (q = 0 → ∃ t d, exec (.cpwait xd xs1 ch) s = .next t ∧ channel t ch = d ∧ d.st = .idle ∧ d.queue = [] ∧ d.next = c.next ∧
        (∀ y ∈ c.queue, d.codeOf y.id = some 4 ∨ y.id + 64 < d.w) ∧ rx t xd = (if xd = 0 then 0 else BitVec.ofNat 64 d.w)) ∧
      (q ≠ 0 → x.id ≤ q → c.reported = false → c.po = false → CanTrap s →
        exec (.cpwait xd xs1 ch) s = .next (trapped (withChannel s ch { c with reported := true })
          (ownTrap s c.cause c.sub c.acc (bitsAt x.desc 1152 64) (BitVec.ofNat 64 c.addr)))) ∧
      (q ≠ 0 → x.id ≤ q → c.reported = true →
        exec (.cpwait xd xs1 ch) s = .next (let t := stalled (withChannel s ch { c with reported := false, st := .running })
          { t with agenda := t.agenda ++ [.copyComplete s.hart.slot ch] }))) ∧
    ((q = 0 ∨ statusWord c q ≠ 1) → exec (.cpstat xd xs1 ch) s = .next (answered s xd (BitVec.ofNat 64 (statusWord c q)))) ∧
    (q ≠ 0 → statusWord c q = 1 →
      ∃ o, Joined s o ch q ∧ exec (.cpstat xd xs1 ch) s = .next (answered (joined s o ch q) xd 1))

/-- R66 to R68, R230, R234 to R236, R266, R348: a copy that completes, and one that stops at an element whose destination is misaligned; one whose fault
has gone goes on. -/
def Sys2Proof.Claims.CopiesMoveTheirElements : Prop :=
  ∀ (s : State) (ch : Nat) (x : Copy) (rest : List Copy) (sa pa : Nat → Nat), ch < 4 → s.memory.wf = true → s.hart.run = .running → PortsLast s →
    (channel s ch).st = .running → (channel s ch).queue = x :: rest → x.start = bitsAt x.desc 1152 64 →
    let n := tileSize x.desc
    let N := tileCount x.desc
    let W (a : Nat) : Prop := ∃ e ∈ copied x.desc N, homeAddr s (pa e) ≤ a ∧ a < homeAddr s (pa e) + n
    (∀ pc, (∀ e ∈ copied x.desc N, CopyReads s x e sa ∧ CopyAims s x e pa) →
      let cva := bitsAt x.desc 1088 55
      let ca := homeAddr s pc
      (∀ e ∈ copied x.desc N, SteadyBy (engineSees s x.priv) s 1 (destPlace x.desc e).toNat (pa e) W) →
      (bitsAt x.desc 1032 1 = 1 → cva % 8 = 0 ∧ uncorrectable s pc 8 = false ∧ engineWaits s pc 8 = false ∧ SteadyBy (engineSees s x.priv) s 3 cva pc W) →
      (∃ t m, exec (.copyComplete s.hart.slot ch) s = .next t ∧ CopyLands s m x (copied x.desc N) sa pa ∧
        (bitsAt x.desc 1032 1 = 0 → t.memory = m) ∧
        (bitsAt x.desc 1032 1 = 1 →
          (∀ k < 8, mget t.memory (ca + k) = softly s (ca + k) (mget m (ca + k)) ((storedBytes 8 ((mgetN m ca 8 + N * n) % 2 ^ 64)).getD k 0)) ∧
          ∀ a, (a < ca ∨ ca + 8 ≤ a) → mget t.memory a = mget m a) ∧
        CopyNoted s t ch x (copied x.desc N) pa ∧ Ended (channel s ch) (channel t ch) x.id 1 ∧ (channel t ch).queue = rest ∧
        (channel t ch).st = (if rest = [] then .idle else .running) ∧
        (∀ k, k ≠ ch → channel t k = channel s k) ∧
        Trailed s t x.deadline (if rest = [] then [] else [.copyComplete s.hart.slot ch]) ∧
        t = { s with
          memory := t.memory, core := { s.core with hot := t.core.hot }, die := { s.die with near := t.die.near }, otherDies := t.otherDies
          agenda := t.agenda, ports := t.ports, shadows := t.shadows, pubs := t.pubs, linePubs := t.linePubs, stalls := t.stalls
          hart := { s.hart with
            own := t.hart.own, joins := t.hart.joins, chan := t.hart.chan
            perf := s.hart.perf.setIfInBounds 5 (s.hart.perf[5] + BitVec.ofNat 64 ((N - x.start) * n)) } }) ∧
      exec (.copyFault s.hart.slot ch) s = .next { s with agenda := s.agenda ++ [.copyComplete s.hart.slot ch] }) ∧
    ∀ e, e ∈ copied x.desc N → (∀ d ∈ copied x.desc e, CopyReads s x d sa ∧ CopyAims s x d pa) → CopyReads s x e sa →
      destPlace x.desc e % n ≠ 0 →
      exec (.copyComplete s.hart.slot ch) s = .next { s with agenda := s.agenda ++ [.copyFault s.hart.slot ch] } ∧
      ∃ t, exec (.copyFault s.hart.slot ch) s = .next t ∧ CopyLands s t.memory x (copied x.desc e) sa pa ∧
        CopyNoted s t ch x (copied x.desc e) pa ∧
        channel t ch = { channel s ch with
          st := .faulted, cause := 3, sub := 0, addr := (destPlace x.desc e % 2 ^ 64).toNat, acc := 1, po := false, reported := false
          queue := { x with desc := BitVec.ofNat 1536 (x.desc.toNat % 2 ^ 1152 + e * 2 ^ 1152 + x.desc.toNat / 2 ^ 1216 * 2 ^ 1216) } :: rest } ∧
        t.hart.pc = s.hart.pc ∧ t.hart.x = s.hart.x ∧ t.hart.bricks = s.hart.bricks ∧ Trailed s t x.deadline []

/-- R240 to R242, R271: the forms of the routing engine. -/
def Sys2Proof.Claims.RoutingForms : Prop :=
  ∀ (s : State) (xd xs1 : Nat), xd < 32 → xs1 < 32 → s.hart.lap = none →
    let q := (rx s xs1).toNat
    (Routing s → ∀ i, (i = .rtset xs1 ∨ i = .rtgo xd ∨ i = .rtcomb xd ∨ i = .rtwait xd ∨ i = .rtdrop xd xs1) →
      exec i s = .next (stalled s)) ∧
    (¬ Routing s → ∀ pa, q % 64 = 0 → Reads s (List.range 16) (q + 8 * ·) pa 8 1 →
      let r := readAll s (List.range 16) (q + 8 * ·) pa 8 1
      exec (.rtset xs1) s = .next (passed { r with
        hart := { r.hart with
          rdesc := BitVec.ofNat 1024 (keptBits routingDescriptor
            ((List.range 16).map fun k => littleEndian (seenBytes s (q + 8 * k) (pa k) 8) * 2 ^ (64 * k)).sum) } } 4)) ∧
    (¬ Routing s → q % 64 ≠ 0 → CanTrap s → exec (.rtset xs1) s = .next (trapped s (ownTrap s 3 0 0 0 (rx s xs1)))) ∧
    (¬ Routing s → ∀ i combine, (i = .rtgo xd ∧ combine = false) ∨ (i = .rtcomb xd ∧ combine = true) →
      (¬ Routable s.hart.rdesc combine → CanTrap s → exec i s = .next (trapped s (ownTrap s 2 0 0 0 0))) ∧
      (Routable s.hart.rdesc combine →
        let t := routed s { num := s.hart.rnext, combine, desc := s.hart.rdesc, priv := s.hart.priv, pc := s.hart.pc, deadline := s.hart.deadline }
        exec i s = .next (answered { t with
          hart := { t.hart with rnext := s.hart.rnext + 1 }, agenda := s.agenda ++ [.routingOperationEnd s.hart.slot] }
          xd (BitVec.ofNat 64 s.hart.rnext)))) ∧
    (s.hart.rop = none → exec (.rtwait xd) s = .next (answered s xd 0)) ∧
    (∀ op, s.hart.rop = some op →
      (op.st = .done → ∃ o, Joined s o 4 op.num ∧
        exec (.rtwait xd) s = .next (answered (let t := joined (routed s { op with flags := 0 }) o 4 op.num
            { t with hart := { t.hart with fpctl := s.hart.fpctl ||| op.flags } })
          xd (BitVec.ofNat 64 (op.drops + if op.rerr then 2 ^ 32 else 0)))) ∧
      (op.st = .faulted → op.reported = false → op.po = false → CanTrap s →
        exec (.rtwait xd) s = .next (trapped (routed s { op with reported := true })
          (ownTrap s op.cause op.sub op.acc op.elem (BitVec.ofNat 64 op.addr)))) ∧
      (op.st = .faulted → op.reported = true →
        exec (.rtwait xd) s = .next (let t := stalled (routed s { op with st := .running, reported := false })
          { t with agenda := s.agenda ++ [.routingOperationEnd s.hart.slot] }))) ∧
    (¬ Routing s → s.hart.rdisp = none → exec (.rtdrop xd xs1) s = .next (answered s xd (if xs1 = 0 then 0 else asWord (-1)))) ∧
    ∀ op, ¬ Routing s → s.hart.rdisp = some op →
      (op.st ≠ .done → exec (.rtdrop xd xs1) s = .next (answered s xd (asWord (-1)))) ∧
      (op.st = .done → xs1 = 0 → exec (.rtdrop xd xs1) s = .next (answered s xd (BitVec.ofNat 64 op.drops))) ∧
      (op.st = .done → xs1 ≠ 0 → op.drops ≤ q → exec (.rtdrop xd xs1) s = .next (answered s xd (asWord (-1)))) ∧
      ∀ pa, op.st = .done → xs1 ≠ 0 → q < op.drops →
        let a := bitsAt op.desc 320 55 + 8 * q
        ReadServed s a pa 8 →
        exec (.rtdrop xd xs1) s = .next (answered (readLeft s a pa 8 1) xd (BitVec.ofNat 64 (littleEndian (seenBytes s a pa 8))))

/-- R66 to R68, R269, R270, R272 to R276, R348: a dispatch or a combine whose accesses pass ends with its rows and tables written; one whose first access
fails stops; one whose fault has gone goes on. -/
def Sys2Proof.Claims.RoutingOperationsEnd : Prop :=
  ∀ (s : State) (op : RouteOp) (pa : Nat → Nat), s.memory.wf = true → s.hart.run = .running → s.hart.rop = some op → op.st = .running →
    Routable op.desc op.combine →
    let v := engineSees s op.priv
    let d := op.desc
    let after (t : State) (o : RouteOp) : State := routed { s with
      memory := t.memory, core := t.core, die := { s.die with near := t.die.near }, otherDies := t.otherDies, agenda := t.agenda, ports := t.ports
      shadows := t.shadows, pubs := t.pubs, linePubs := t.linePubs, stalls := t.stalls
      hart := { s.hart with own := t.hart.own, joins := t.hart.joins } } o
    let goesOn : Prop := exec (.routingFault s.hart.slot) s = .next { s with agenda := s.agenda ++ [.routingOperationEnd s.hart.slot] }
    (op.combine = false → (∀ p < choices d, keptChoice s d pa p = true → 0 ≤ sourceRow d (p / slotsOf d)) →
      Undisturbed s v pa (DispatchReads s d pa) (dispatchWrites s d pa) →
      goesOn ∧ ∃ t, exec (.routingOperationEnd s.hart.slot) s = .next t ∧ Landed s t pa 4 op.num (dispatchWrites s d pa) ∧ Trailed s t op.deadline [] ∧
        t = after t { op with
          st := .done, drops := min (bitsAt d 608 32) (droppedChoices s d pa).length, rerr := false, flags := 0 }) ∧
    (op.combine = true → (∀ t < tokens d, 0 ≤ outputRow d t) →
      Undisturbed s v pa (CombineReads s d pa) (combineWrites s d pa) →
      let n := (rowFormat d).w / 8
      let fl := (List.range (tokens d)).foldl (fun f t => (List.range (bitsAt d 704 32 / n)).foldl (fun f j => f ||| (combinedElem s d pa t j).2) f) 0
      goesOn ∧ ∃ t, exec (.routingOperationEnd s.hart.slot) s = .next t ∧ Landed s t pa 4 op.num (combineWrites s d pa) ∧ Trailed s t op.deadline [] ∧
        t = after t { op with st := .done, drops := 0, rerr := false, flags := BitVec.ofNat 64 (2 ^ 8 * fl) }) ∧
    ∀ u f, op.combine = false → translate v 0 (bitsAt d 0 55) s = (u, .error f) →
      exec (.routingOperationEnd s.hart.slot) s = .next { s with agenda := s.agenda ++ [.routingFault s.hart.slot] } ∧
      exec (.routingFault s.hart.slot) s = .next (routed u { op with
        st := .faulted, cause := f.cause, sub := f.sub, acc := 0, elem := 0, addr := bitsAt d 0 55, po := f.po, reported := false })

/-- R66 to R68, R230 to R238: the forms of the copy engine, and what a copy does. What a join makes of the hart's writes is log 45, the view of an
operation log 46, that it acts in one turn log 47. -/
def Obligations.Copies : Prop := CopyForms ∧ CopiesMoveTheirElements

/-- R66 to R68, R240 to R242, R269 to R276: the forms of the routing engine, and what an operation does. What a join makes of the hart's writes is
log 45, the view of an operation log 46, that it acts in one turn log 47, the order in which it reads its tables log 48, that rtdrop is a plain load
log 49. -/
def Obligations.Routing : Prop := RoutingForms ∧ RoutingOperationsEnd

namespace Sys2Proof.Claims

open Sys2Proof.Machine

/-! Range tasks (R243 to R246, R344). -/

/-- Dword `k` of a record that the hart reads in its phase, each dword at its physical address. -/
def seenWord (s : State) (va : Nat) (pa : Nat → Nat) (k : Nat) : Nat := littleEndian (seenBytes s (va + 8 * k) (pa k) 8)

/-- Eight dwords from an address can be written as the state stands. -/
def Writable (s : State) (va : Nat) (pa : Nat → Nat) : Prop := ∀ k < 8, translate (hartView s) 1 (va + 8 * k) s = (s, .ok (pa k))

/-- The task of a record (R243). -/
def recordTask (s : State) (va : Nat) (pa : Nat → Nat) : Task where
  tag := BitVec.ofNat 64 (seenWord s va pa 0)
  lo := signedField 64 (seenWord s va pa 1)
  hi := signedField 64 (seenWord s va pa 2)
  grain := seenWord s va pa 3
  entry := BitVec.ofNat 64 (seenWord s va pa 4 % 2 ^ 55)
  arg := BitVec.ofNat 64 (seenWord s va pa 5)
  done := BitVec.ofNat 64 (seenWord s va pa 6 % 2 ^ 55)
  asid := s.hart.ptroot.toNat % 2 ^ 16

/-- The split of a task (R245): the piece, and what stays in the queue. -/
def span (t : Task) : Int := t.hi - t.lo

def pieceOf (t : Task) : Task × List Task :=
  let g : Int := max 1 t.grain
  if span t < 2 * g then (t, [])
  else
    let m := t.lo + span t / 2 / g * g
    ({ t with lo := m }, [{ t with hi := m }])

/-- Dword `k` of the record of a task. -/
def taskDword (t : Task) (k : Nat) : List Byte :=
  storedBytes 8 ([t.tag.toNat, (t.lo % 2 ^ 64).toNat, (t.hi % 2 ^ 64).toNat, t.grain, t.entry.toNat, t.arg.toNat, t.done.toNat].getD k 0)

/-- A task that a take of an address space chooses among those before and behind it in the queue (R245, R344). -/
def Largest (asid : Nat) (as : List Task) (t : Task) (bs : List Task) : Prop :=
  t.asid = asid ∧ t.lo < t.hi ∧ (∀ u ∈ as, u.asid = asid → span u < span t) ∧ ∀ u ∈ bs, u.asid = asid → span u ≤ span t

/-! Graphs (R247, R248, R337, R345). -/

/-- The view of the scheduler of a graph, and the dwords that it reads (R248). -/
def schedulerView (die : Nat) (x : Graph) : View := ⟨x.ptroot, 1536 + die, x.priv⟩

def SchedulerReads (s : State) (die : Nat) (x : Graph) (va : Nat) (pa : Nat → Nat) (n : Nat) : Prop :=
  va % 8 = 0 ∧ ∀ k < n, translate (schedulerView die x) 0 (va + 8 * k) s = (s, .ok (pa k)) ∧ uncorrectable s (pa k) 8 = false

def homeDword (s : State) (pa : Nat) : Nat := mgetN s.memory (homeAddr s pa) 8

/-- A dword that the scheduler does not get, and the state after the attempt: misaligned, not translated, or its bytes lost, which is a lasting
error found (R248, R384, R385). -/
def SchedulerFails (s : State) (die : Nat) (x : Graph) (acc va : Nat) (u : State) : Prop :=
  (va % 8 ≠ 0 ∧ u = s) ∨ (va % 8 = 0 ∧ ∃ f, translate (schedulerView die x) acc va s = (u, .error f)) ∨
    ∃ pa, va % 8 = 0 ∧ translate (schedulerView die x) acc va s = (s, .ok pa) ∧ uncorrectable s pa 8 = true ∧ u = lastingError s pa 8

/-- One of the first `n` dwords from `va` on is the first that the scheduler does not get. -/
def SchedulerStops (s : State) (die : Nat) (x : Graph) (va n : Nat) (u : State) : Prop :=
  ∃ k < n, ∃ pa : Nat → Nat, (∀ j < k, SchedulerReads s die x (va + 8 * j) (fun _ => pa j) 1) ∧ SchedulerFails s die x 0 (va + 8 * k) u

/-- The status word of a graph can be stored at `pst`. -/
def StatusReached (s : State) (die : Nat) (x : Graph) (stat pst : Nat) : Prop :=
  stat % 8 = 0 ∧ translate (schedulerView die x) 3 stat s = (s, .ok pst) ∧ uncorrectable s pst 8 = false ∧ moving s pst = false

/-- A graph has ended: it has left its die, the graph-end event is queued (R248, R342), bit 63 of its last dword where the status was not
stored. -/
def graphLeft (s : State) (x : Graph) (st : Nat) (lost : Bool) : State :=
  { s with
    die := { s.die with graphs := s.die.graphs.filter fun y => y.id != x.id }
    events := s.events ++ [⟨[BitVec.ofNat 64 (8 + s.hart.dieNo * 2 ^ 8), BitVec.ofNat 64 (x.ctxid.toNat + asidOf x.ptroot * 2 ^ 32),
      BitVec.ofNat 64 x.header, BitVec.ofNat 64 (st % 2 ^ 32 + if lost then 2 ^ 63 else 0)], none⟩]
    agenda := s.agenda ++ [.eventRecordWrite] }

/-- It has ended with a status that its status word holds. -/
def GraphEnded (s t : State) (x : Graph) (pst st : Nat) : Prop :=
  let h := homeAddr s pst
  (∀ k < 8, mget t.memory (h + k) = softly s (h + k) (mget s.memory (h + k)) ((storedBytes 8 st).getD k 0)) ∧
  (∀ a, a < h ∨ h + 8 ≤ a → mget t.memory a = mget s.memory a) ∧
  t = graphLeft (withoutCopies { s with memory := t.memory } fun _ a => decide (h ≤ a) && decide (a < h + 8)) x st false

/-- An act ends a graph with a status (R248): stored in its status word; not stored where the word is not to be had; attempted again while the page
of the word moves (R373). -/
def Ends (s : State) (x : Graph) (stat st : Nat) (act : Host.Outcome State Fault Refusal) : Prop :=
  let die := s.hart.dieNo
  (∀ pst, StatusReached s die x stat pst → ∃ t, act = .next t ∧ GraphEnded s t x pst st) ∧
  (∀ u, SchedulerFails s die x 3 stat u → act = .next (graphLeft u x st true)) ∧
  ∀ pst, stat % 8 = 0 → translate (schedulerView die x) 3 stat s = (s, .ok pst) → uncorrectable s pst 8 = false → moving s pst = true →
    act = .next { s with agenda := s.agenda ++ [.graphNode die x.id] }

/-- A graph of the die of the hart changed, and to be looked at again. -/
def graphMoved (s : State) (x y : Graph) : State :=
  { s with
    die := { s.die with graphs := s.die.graphs.map fun z => if z.id = x.id then y else z }
    agenda := s.agenda ++ [.graphNode s.hart.dieNo x.id] }

/-- The fields of a node (R247). -/
def nodeKind (w : Nat) : Nat := w % 16
def nodeLanes (w : Nat) : Nat := w / 2 ^ 8 % 64
def nodeSuccA (w : Nat) : Nat := w / 2 ^ 32 % 2 ^ 16
def nodeSuccB (w : Nat) : Nat := w / 2 ^ 48 % 2 ^ 16

/-- A node that does not stop its graph (R248). -/
def NodeLegal (x : Graph) (w : Nat) : Prop :=
  (nodeSuccA w = 0xFFFF ∨ nodeSuccA w < x.count) ∧ (nodeSuccB w = 0xFFFF ∨ nodeSuccB w < x.count) ∧
    ((nodeKind w = 1 ∧ nodeLanes w ∈ [4, 8, 16, 32] ∧ nodeSuccB w = 0xFFFF) ∨ nodeKind w = 2 ∨ nodeKind w = 3)

/-- The fields of the request of a kernel node (R337, R345). -/
def nodeFields (node target arg stack lanes : Nat) : List Nat :=
  let two (v : Nat) : List Nat := [v % 2 ^ 32, v / 2 ^ 32 % 2 ^ 32]
  two (target % 2 ^ 55) ++ two arg ++ [lanes, 8192, 0, 0] ++ two node ++ two (stack % 2 ^ 55) ++ [0, 0, 0, 0]

/-- Entry `r` is the lowest free one of the request area. -/
def LowestEntry (s : State) (r : Nat) : Prop := (∀ p ∈ s.reqs, p.1 ≠ r) ∧ r < 1024 ∧ ∀ k < r, ∃ p ∈ s.reqs, p.1 = k

/-- A graph that waits for an entry: the first of a die is the next to take one (R345). -/
def firstWaiting (l : List Graph) : Option Graph := l.find? fun y => y.stage == 1

/-- The graph at the head of those that wait has its request filled in entry `r`, with the start-request event (R337, R342): it waits for its
thread; the next that waits is looked at. -/
def requested (s : State) (x : Graph) (r : Nat) : State :=
  let src := 0x100 + 16 * s.hart.dieNo + x.id
  let l := s.die.graphs.map fun y => if y.id = x.id then { y with stage := 2, ended := 0 } else y
  { s with
    die := { s.die with graphs := l }
    reqs := tset s.reqs r { fields := x.fields, pt := x.ptroot, src := src, gang := 0, place := 0, gid := 0, deadline := x.deadline }
    events := s.events ++ [⟨[6, 0, BitVec.ofNat 64 r, BitVec.ofNat 64 src], none⟩]
    agenda := s.agenda ++ [.eventRecordWrite] ++ ((firstWaiting l).map fun y => Instr.graphNode s.hart.dieNo y.id).toList }

/-- A graph put behind the others of its die. -/
def graphBehind (s : State) (x : Graph) : State :=
  { s with die := { s.die with graphs := s.die.graphs.filter (fun y => y.id != x.id) ++ [x] } }

/-! Record queues (R249 to R252). -/

/-- A descriptor at its home, and its fields. -/
def descField (s : State) (pa lo n : Nat) : Nat := mgetN s.memory (homeAddr s pa) 256 / 2 ^ lo % 2 ^ n

def ringAt (s : State) (pa k : Nat) : Nat := descField s pa 0 55 + k % 2 ^ descField s pa 64 6

/-- Field `i` of a record; the mask of fields in which two records differ; how many of the first `n` fields a mask selects. -/
def recordField (r i : Nat) : Nat := r / 2 ^ (32 * i) % 2 ^ 32

def changed (r old : Nat) : List Nat := (List.range 16).filter fun i => recordField r i != recordField old i

def maskOf (l : List Nat) : Nat := (l.map fun i => 2 ^ i).sum

/-- The coded bytes of a record (R250). -/
def codedBytes (seq r old : Nat) : List Byte :=
  storedBytes 4 (maskOf (changed r old) + seq % 65536 * 65536) ++ (changed r old).flatMap fun i => storedBytes 4 (recordField r i)

/-- The number of records posted before (R250): what is counted for the descriptor while it stands as the last post left it. -/
def postedBefore (s : State) (pa : Nat) : Nat :=
  match s.posts.find? fun p => p.1 == homeAddr s pa with
  | some p => if p.2.2 = (descField s pa 192 64, descField s pa 256 512) then p.2.1 else 0
  | none => 0

/-- The descriptor can be acted on at its home, and `n` ring bytes from stream byte `k` on can be accessed, each at its own place. -/
def QueueReached (s : State) (va pa k n acc : Nat) (at_ : Nat → Nat) : Prop :=
  va % 256 = 0 ∧ translate (hartView s) 3 va s = (s, .ok pa) ∧ uncorrectable s pa 256 = false ∧ moving s pa = false ∧
    (∀ i < n, translate (hartView s) acc (ringAt s pa (k + i)) s = (s, .ok (at_ i)) ∧ uncorrectable s (at_ i) 1 = false ∧
      (homeAddr s (at_ i) < homeAddr s pa ∨ homeAddr s pa + 256 ≤ homeAddr s (at_ i))) ∧
    (∀ o < 256, homeAddr s (pa + o) = homeAddr s pa + o) ∧
    ∀ i < n, ∀ j < n, i ≠ j → homeAddr s (at_ i) ≠ homeAddr s (at_ j)

/-- The bytes from `a` on hold `bs`, as software writes them (R3, R361). -/
def HoldsFrom (s : State) (m : Memory) (a : Nat) (bs : List Byte) : Prop :=
  ∀ k < bs.length, mget m (a + k) = softly s (a + k) (mget s.memory (a + k)) (bs.getD k 0)

/-- The record that coded bytes make of the last one taken (R252). -/
def takenRecord (mask old : Nat) (byte : Nat → Byte) : Nat :=
  ((List.range 16).map fun i => 2 ^ (32 * i) *
    if mask / 2 ^ i % 2 = 1 then
      let k := 4 + 4 * ((List.range i).filter fun j => mask / 2 ^ j % 2 == 1).length
      littleEndian ((List.range 4).map fun o => byte (k + o))
    else recordField old i).sum

end Sys2Proof.Claims

/-- R243 to R246, R344. -/
def Obligations.RangeTasksAreHandedOut : Prop :=
  (∀ (s : State) (xd xs1 xs2 : Nat), xd < 32 → xs1 < 32 → xs2 < 32 → s.hart.lap = none →
    let va := (rx s xs1).toNat
    let asid := s.hart.ptroot.toNat % 2 ^ 16
    (va % 64 ≠ 0 → CanTrap s → exec (.taskadd xd xs1) s = .next (trapped s (ownTrap s 3 0 0 0 (rx s xs1))) ∧
      exec (.taskget xd xs1) s = .next (trapped s (ownTrap s 3 0 1 0 (rx s xs1)))) ∧
    (∀ pa u, va % 64 = 0 → Reads s (List.range 8) (va + 8 * ·) pa 8 1 →
      publishCounted (readAll s (List.range 8) (va + 8 * ·) pa 8 1) = (u, true) →
        let t := recordTask s va pa
        (t.hi ≤ t.lo → exec (.taskadd xd xs1) s = .next (answered u xd 1)) ∧
        (t.lo < t.hi → 1024 ≤ u.die.tasks.length → exec (.taskadd xd xs1) s = .next (answered u xd 0)) ∧
        (t.lo < t.hi → u.die.tasks.length < 1024 →
          exec (.taskadd xd xs1) s = .next (answered { u with die := { u.die with tasks := u.die.tasks ++ [t] } } xd 1))) ∧
    (va % 64 = 0 → (∀ t ∈ s.die.tasks, t.asid ≠ asid) → exec (.taskget xd xs1) s = .next (answered s xd 0)) ∧
    (∀ pa as t bs, va % 64 = 0 → s.die.tasks = as ++ t :: bs → Largest asid as t bs → Writable s va pa →
      let u := { s with die := { s.die with tasks := as ++ (pieceOf t).2 ++ bs } }
      Writes u (List.range 8) (va + 8 * ·) pa (taskDword (pieceOf t).1) 1 →
        exec (.taskget xd xs1) s = .next (answered (newPhase (writeAll u (List.range 8) (va + 8 * ·) pa (taskDword (pieceOf t).1) 1)) xd 1)) ∧
    (∀ u pa, va % 8 = 0 → va < 2 ^ 55 → Placed s 3 va pa → publishCounted s = (u, true) →
      Placed u 3 va pa → moving u pa = false → portFull u (homeAddr u pa) 0 = false → uncorrectable u pa 8 = false →
        exec (.taskdone xd xs1 xs2) s = .next (answered
          (atomicStep 11 8 (fun _ => va) (fun _ => pa) (fun _ => (rx s xs2).toNat) (fun _ => 0) 1 0 u) xd
          (BitVec.ofNat 64 (littleEndian (homeBytes u pa 8)) + rx s xs2)))) ∧
  ∀ (s : State) (asid : Nat),
    ((∃ h ∈ s.hart :: s.others, h.run ≠ .idle ∧ h.ptroot.toNat % 2 ^ 16 = asid) ∨ (∃ h ∈ s.saved, h.ptroot.toNat % 2 ^ 16 = asid) →
      exec (.taskkill asid) s = .next s) ∧
    ((∀ h ∈ s.hart :: s.others, h.run = .idle ∨ h.ptroot.toNat % 2 ^ 16 ≠ asid) → (∀ h ∈ s.saved, h.ptroot.toNat % 2 ^ 16 ≠ asid) →
      exec (.taskkill asid) s = .next { s with
        die := { s.die with tasks := s.die.tasks.filter fun t => t.asid != asid }
        otherDies := s.otherDies.map fun p => (p.1, { p.2 with tasks := p.2.tasks.filter fun t => t.asid != asid }) })

/-- R247, R248, R337, R342, R345, R385: graphs launched, their nodes performed, their ends; request entries freed. A header, a node or a predicate
word that cannot be read, and a status word that cannot be stored, end the graph as R248 says. That both successors are checked before a node is
performed, and what a graph without nodes does, is log 57. Every state answers a graph's turn and the freeing of an entry; a graphgo completes in
every state whose hart has no write to publish. -/
def Obligations.GraphsRunTheirNodes : Prop :=
  (∀ (s : State) (xd xs1 : Nat), xd < 32 → xs1 < 32 → s.hart.lap = none →
    let va := (rx s xs1).toNat
    (va % 64 ≠ 0 → CanTrap s → exec (.graphgo xd xs1) s = .next (trapped s (ownTrap s 3 0 0 0 (rx s xs1)))) ∧
    ∀ u, va % 64 = 0 → publishCounted s = (u, true) →
      ((∀ g < 16, ∃ x ∈ u.die.graphs, x.id = g) → exec (.graphgo xd xs1) s = .next (answered u xd 0)) ∧
      ∀ g < 16, (∀ x ∈ u.die.graphs, x.id ≠ g) → (∀ k < g, ∃ x ∈ u.die.graphs, x.id = k) →
        exec (.graphgo xd xs1) s = .next (answered { u with
          die := { u.die with
            graphs := u.die.graphs ++ [{ id := g, header := va, ptroot := s.hart.ptroot, priv := s.hart.priv, ctxid := s.hart.ctxid
                                         deadline := s.hart.deadline }] }
          agenda := u.agenda ++ [.graphNode s.hart.dieNo g] } xd 1)) ∧
  (∀ (s : State) (x : Graph), s.memory.wf = true → x ∈ s.die.graphs → (∀ y ∈ s.die.graphs, y.id = x.id → y = x) →
    let die := s.hart.dieNo
    let act := exec (.graphNode die x.id) s
    (∀ pa, x.node = none → SchedulerReads s die x x.header pa 2 →
      let n := homeDword s (pa 0) % 2 ^ 16
      let stat := homeDword s (pa 1) % 2 ^ 55
      (n ≠ 0 → act = .next (graphMoved s x { x with count := n, stat := stat, node := some 0 })) ∧ (n = 0 → Ends s x stat 2 act)) ∧
    (∀ u, x.node = none → SchedulerStops s die x x.header 2 u → act = .next (graphLeft u x (3 + 0xFFFF * 2 ^ 16) true)) ∧
    (∀ i u, x.node = some i → x.stage = 0 → SchedulerStops s die x (x.header + 64 + 64 * i) 4 u → Ends u x x.stat (3 + i * 2 ^ 16) act) ∧
    (∀ i pa, x.node = some i → x.stage = 0 → SchedulerReads s die x (x.header + 64 + 64 * i) pa 4 →
      let w := homeDword s (pa 0)
      let target := homeDword s (pa 1)
      (¬ NodeLegal x w → Ends s x x.stat (2 + i * 2 ^ 16) act) ∧
      (∀ u, NodeLegal x w → nodeKind w ≠ 1 → SchedulerFails s die x 0 (target % 2 ^ 55) u → Ends u x x.stat (3 + i * 2 ^ 16) act) ∧
      (∀ pp, NodeLegal x w → nodeKind w ≠ 1 → SchedulerReads s die x (target % 2 ^ 55) (fun _ => pp) 1 →
        let next := if homeDword s pp = 0 then nodeSuccB w else nodeSuccA w
        (next ≠ 0xFFFF → act = .next (graphMoved s x { x with node := some next, stage := 0, ended := 0 })) ∧
        (next = 0xFFFF → Ends s x x.stat 1 act)) ∧
      (NodeLegal x w → nodeKind w = 1 →
        let y := { x with stage := 1, next := nodeSuccA w
                          fields := nodeFields (x.header + 64 + 64 * i) target (homeDword s (pa 2)) (homeDword s (pa 3)) (nodeLanes w) }
        (firstWaiting (s.die.graphs.filter fun z => z.id != x.id) ≠ none ∨ (∀ r < 1024, ∃ p ∈ s.reqs, p.1 = r) → act = .next (graphBehind s y)) ∧
        ∀ r, firstWaiting (s.die.graphs.filter fun z => z.id != x.id) = none → LowestEntry s r → act = .next (requested (graphBehind s y) y r))) ∧
    (∀ i, x.node = some i → x.stage = 1 →
      (firstWaiting s.die.graphs ≠ some x ∨ (∀ r < 1024, ∃ p ∈ s.reqs, p.1 = r) → act = .next s) ∧
      ∀ r, firstWaiting s.die.graphs = some x → LowestEntry s r → act = .next (requested s x r)) ∧
    (∀ i, x.node = some i → x.stage = 2 →
      (x.ended = 0 → act = .next s) ∧
      (x.ended = 1 → x.next ≠ 0xFFFF → act = .next (graphMoved s x { x with node := some x.next, stage := 0, ended := 0 })) ∧
      (x.ended = 1 → x.next = 0xFFFF → Ends s x x.stat 1 act) ∧
      (x.ended = 2 → Ends s x x.stat (4 + i * 2 ^ 16) act))) ∧
  (∀ (s : State) (die g : Nat),
    ((∀ x ∈ (dieAt s die).graphs, x.id ≠ g) → exec (.graphNode die g) s = .next s) ∧ ∃ t, exec (.graphNode die g) s = .next t) ∧
  ∀ (s : State) (i : Nat),
    ((∀ p ∈ s.reqs, p.1 ≠ i) → exec (.reqfree i) s = .next s) ∧
    ((∃ p ∈ s.reqs, p.1 = i) →
      exec (.reqfree i) s = .next { s with
        reqs := s.reqs.filter (fun p => p.1 != i)
        agenda := s.agenda ++ ((List.range 24).flatMap fun d => ((firstWaiting (dieAt s d).graphs).map fun y => Instr.graphNode d y.id).toList) ++ ((List.range 64).filter fun q => (tget s.hostq q {}).enable).map .hostQueueTake })

/-- R249 to R252, R260. Where the count of records stands is log 17; the order of the checks, and that qtake checks no sequence field, log 58. -/
def Obligations.QueuesPassRecords : Prop :=
  ∀ (s : State) (xd xs1 xs2 : Nat), xd < 32 → xs1 < 32 → xs2 < 32 → s.hart.lap = none →
    let va := (rx s xs1).toNat
    let b := (rx s xs2).toNat
    (∀ i, (i = .qpost xd xs1 xs2 ∨ i = .qtake xd xs1 xs2) → CanTrap s →
      (va % 256 ≠ 0 → exec i s = .next (trapped s (ownTrap s 3 0 0 0 (rx s xs1)))) ∧
      (va % 256 = 0 → b % 64 ≠ 0 → exec i s = .next (trapped s (ownTrap s 3 0 0 0 (rx s xs2))))) ∧
    (∀ pb pa u at_, b % 64 = 0 → Reads s (List.range 8) (b + 8 * ·) pb 8 1 →
      publishCounted (readAll s (List.range 8) (b + 8 * ·) pb 8 1) = (u, true) → u.memory.wf = true →
        let r := ((List.range 8).map fun k => seenWord s b pb k * 2 ^ (64 * k)).sum
        let tail := descField u pa 192 64
        let coded := codedBytes (postedBefore u pa) r (descField u pa 256 512)
        let used := (tail + 2 ^ 64 - descField u pa 128 64) % 2 ^ 64
        let h := homeAddr u pa
        let v := request u.hart.deadline u pa 64
        QueueReached u va pa tail coded.length 1 at_ → (∀ i < coded.length, moving u (at_ i) = false) → portFull u h 64 = false →
        (2 ^ descField u pa 64 6 < used + coded.length → exec (.qpost xd xs1 xs2) s = .next (answered v xd 0)) ∧
        (used + coded.length ≤ 2 ^ descField u pa 64 6 → ∃ m, exec (.qpost xd xs1 xs2) s = .next (answered
            (withoutCopies { v with
              memory := m
              posts := tset u.posts h (postedBefore u pa + 1, (tail + coded.length) % 2 ^ 64, r) }
              fun _ a => (List.range coded.length).any (fun i => homeAddr u (at_ i) == a) || (decide (h + 24 ≤ a) && decide (a < h + 96))) xd 1) ∧
          (∀ i < coded.length, HoldsFrom u m (homeAddr u (at_ i)) [coded.getD i 0]) ∧
          HoldsFrom u m (h + 24) (storedBytes 8 ((tail + coded.length) % 2 ^ 64)) ∧ HoldsFrom u m (h + 32) (storedBytes 64 r) ∧
          ∀ a, (∀ i < coded.length, homeAddr u (at_ i) ≠ a) → (a < h + 24 ∨ h + 96 ≤ a) → mget m a = mget u.memory a)) ∧
    (∀ pa, va % 256 = 0 → b % 64 = 0 → translate (hartView s) 3 va s = (s, .ok pa) → uncorrectable s pa 256 = false →
      portFull s (homeAddr s pa) 0 = false → descField s pa 128 64 = descField s pa 192 64 →
      exec (.qtake xd xs1 xs2) s = .next (answered (request s.hart.deadline s pa 0) xd 0)) ∧
    ∀ pa pb at_, b % 64 = 0 → s.memory.wf = true → descField s pa 128 64 ≠ descField s pa 192 64 →
      let byte (k : Nat) : Byte := mget s.memory (homeAddr s (at_ k))
      let mask := littleEndian ((List.range 4).map byte) % 65536
      let n := 4 + 4 * ((List.range 16).filter fun i => mask / 2 ^ i % 2 == 1).length
      let r := takenRecord mask (descField s pa 768 512) byte
      let h := homeAddr s pa
      QueueReached s va pa (descField s pa 128 64) n 0 at_ → portFull s h 0 = false → Writable s b pb →
      ∃ m, HoldsFrom s m (h + 16) (storedBytes 8 ((descField s pa 128 64 + n) % 2 ^ 64)) ∧ HoldsFrom s m (h + 96) (storedBytes 64 r) ∧
        (∀ a, (a < h + 16 ∨ h + 24 ≤ a) → (a < h + 96 ∨ h + 160 ≤ a) → mget m a = mget s.memory a) ∧
        let u := withoutCopies { request s.hart.deadline s pa 0 with memory := m } fun _ a =>
          (decide (h + 16 ≤ a) && decide (a < h + 24)) || (decide (h + 96 ≤ a) && decide (a < h + 160))
        let dword (k : Nat) : List Byte := storedBytes 8 (r / 2 ^ (64 * k))
        (Writes u (List.range 8) (b + 8 * ·) pb dword 1 →
          exec (.qtake xd xs1 xs2) s = .next (answered (newPhase (writeAll u (List.range 8) (b + 8 * ·) pb dword 1)) xd 1))
namespace Sys2Proof.Claims

open Sys2Proof.Machine

/-! Events, notifications, deadlines (R256 to R260, R348). -/

/-- The condition of an event of kind 1 to 3 (R256). -/
def Occurred (s : State) (kind chan : Nat) (value : Word) : Prop :=
  (kind = 1 ∧ value.toNat < (channel s chan).w) ∨ (kind = 2 ∧ ¬ Routing s) ∨
    (kind = 3 ∧ ∃ p ∈ s.arrived, (tget s.arrq p.queue {}).en = true ∧ (tget s.arrq p.queue {}).asid = s.hart.ptroot.toNat % 2 ^ 16)

/-- Address of the next instruction to issue: inside a frame, that of its next instance (R181). -/
def nextAddress (s : State) : Word :=
  match s.hart.lap with
  | none => s.hart.pc
  | some l => l.base + BitVec.ofNat 64 (frameSize (l.frame.take l.idx))

/-- The graph whose kernel node a thread runs, if it runs one, is told how the thread ended: 1 with its end publication, 2 without (R345). -/
def graphTold (s : State) (src how : Nat) : State :=
  let d := (src - 0x100) / 16
  let g := (src - 0x100) % 16
  if src < 0x100 then s
  else
    let u := onDie s d fun x => { x with graphs := x.graphs.map fun y => if y.id = g then { y with ended := how } else y }
    { u with agenda := u.agenda ++ [.graphNode d g] }

/-- A thread ends (R265, R340, R342): its slot is freed when the event is written; versions that no open phase needs any more are freed (R60). -/
def Finished (s t : State) (p1 : Word) (how : Nat) : Prop :=
  (∀ x, x ∈ t.shadows ↔ x ∈ s.shadows ∧ StaysOpen s (tget s.linePubs x.line 0)) ∧ t.shadows.Sublist s.shadows ∧
  (∀ i, i ∈ t.spill ↔ i ∈ s.spill ∧ StaysOpen s (readSpill s i).stamp) ∧ t.spill.Sublist s.spill ∧
  t = { graphTold { s with
      core := if s.core.claimant = some s.hart.idx then { s.core with claimant := none } else s.core
      events := s.events ++ [⟨[BitVec.ofNat 64 (4 + s.hart.dieNo * 2 ^ 8 + s.hart.coreNo * 2 ^ 16 + s.hart.idx * 2 ^ 32),
        BitVec.ofNat 64 (s.hart.ctxid.toNat + asidOf s.hart.ptroot * 2 ^ 32), s.hart.tag, p1], some s.hart.slot⟩]
      agenda := s.agenda ++ [.eventRecordWrite] } s.hart.src how with
    shadows := t.shadows, spill := t.spill
    hart := { s.hart with
      run := .idle, own := [], snap := [], joins := [], inflight := [], held := none, lap := none, arrival := none, request := none, elems := []
      lateDue := false, waiting := false } }

/-- The engines of the hart have nothing left to do (R230, R265): no copy runs or waits, no parcel is in transit, no routing. -/
def Quiet (s : State) : Prop :=
  (∀ c ∈ s.hart.chan.toList, c.queue = [] ∨ c.st = .faulted) ∧ (∀ t ∈ s.transit, t.ctxid ≠ s.hart.ctxid) ∧ ¬ Routing s

/-! The lane map (R43, R44, R267). -/

/-- An entry gives a logical lane. -/
def Gives (e : BitVec 8) (lane : Nat) : Prop := e.toNat / 64 = 0 ∧ e.toNat % 64 = lane

/-- A logical lane of the core lies in a partition with a thread. -/
def InUse (s : State) (lane : Nat) : Prop :=
  ∃ h ∈ s.hart :: s.others, h.run ≠ .idle ∧ h.coreNo = s.hart.coreNo ∧ h.lbase ≤ lane ∧ lane < h.lbase + h.psize

/-- A write of an entry that is refused. -/
def LaneRefused (s : State) (p : Nat) (old new : BitVec 8) : Prop :=
  new.toNat / 64 = 3 ∨ (∃ l q, Gives new l ∧ q < 34 ∧ q ≠ p ∧ Gives (s.core.lanemap[q]?.getD 0) l) ∨
    (old ≠ new ∧ ∃ l, (Gives old l ∨ Gives new l) ∧ InUse s l)

/-! Instructions in flight that go on (R36, R39, R307). -/

/-- The instruction `j` is the oldest in flight, with what its issue in the state `b`, which differs by no instruction being in flight, would capture;
all lane groups have committed the element groups before `k`. That lane groups move together is log 4. -/
def Resumable (s b : State) (e : Entry) (younger : List Entry) (j : Instr) (k : Nat) : Prop :=
  s.hart.inflight = e :: younger ∧ b = { s with hart := { s.hart with inflight := [] } } ∧ BrickReady b ∧
    e.pair = false ∧ decodeWord e.w1 = .ok j ∧ (∃ g, jobOf j = some (.elems g) ∧ e.cap = g.capture none (seedNow b) b) ∧
    e.cnt = List.replicate ((s.hart.lanes + 7) / 8) k ∧ e.bmap = 0 ∧ k * s.hart.lanes < count s

/-- Group `k` is the last one of the shape. -/
def lastGroup (s : State) (k : Nat) : Bool := decide (count s ≤ (k + 1) * s.hart.lanes)

/-- The state after the entry has committed group `k`, leaving `r`: it stands at the next group, or has completed. -/
def committed (r : State) (e : Entry) (younger : List Entry) (k : Nat) : State :=
  { r with
    hart := { r.hart with
      irPc := e.pc, perf := r.hart.perf.setIfInBounds 1 (r.hart.perf[1] + 1)
      inflight := if lastGroup r k then younger else { e with cnt := List.replicate ((r.hart.lanes + 7) / 8) (k + 1) } :: younger
      instret := r.hart.instret + (if lastGroup r k then 1 else 0), waiting := if lastGroup r k then false else r.hart.waiting } }

/-- The next positions of a stream, in the order in which .adv forms reach them (R189). -/
def pacedPositions (b : Word) : Nat → BitVec 512 → List (BitVec 512)
  | 0, _ => []
  | n + 1, r => nextPosition r b :: pacedPositions b n (nextPosition r b)

/-- The addresses of the elements inside the tensor at a position, those of the address space. -/
def pacedAddrs (s : State) (sn : Nat) (r : BitVec 512) : List Nat :=
  let u := { s with hart := { s.hart with streams := s.hart.streams.setIfInBounds sn r } }
  ((List.range (count s)).filter fun x => insideTensor u sn x && decide (0 ≤ tensorAddr u sn x) && decide (tensorAddr u sn x < 2 ^ 55)).map
    fun x => (tensorAddr u sn x).toNat

/-- A translation is of the page of an address. -/
def ofPage (c : Cached) (va : Nat) : Bool := c.vpn == va / (if c.blk then 2 ^ 29 else 2 ^ 16)

/-- What the pacer makes of a page that a next position touches (R186, R266): nothing of one that a window maps; nothing but a miss that counts all the
same of one it holds (log 7); else a miss, and the translation where fewer than 8 are held and the tables give one that a load may use. -/
def pacedPage (key : Nat × Nat) (va : Nat) (s : State) : State :=
  let mine := s.tlb.filter fun c => c.pacer == some key
  if (windowOf s (asidOf s.hart.ptroot) va).isSome then s
  else if mine.any (ofPage · va) then if Config.missesAnyway s.tick va then addPerf s 7 1 else s
  else
    match walk s s.hart.ptroot va with
    | .error _ => addPerf s 7 1
    | .ok (leaf, entry, blk) =>
      match checkLeaf s (hartView s) 0 va leaf entry blk with
      | .error _ => addPerf s 7 1
      | .ok (g, _) =>
        if mine.length < 8 then { addPerf s 7 1 with tlb := cacheOf (hartView s) va g blk (entry.testBit 7) (some key) :: s.tlb }
        else addPerf s 7 1

/-- The part of a fill, and of the bits of a mask form, that element group `k` is. -/
def Fill.group (f : Fill) (s : State) (k : Nat) : Fill := { f with writes := fun x => f.writes x && x / s.hart.lanes == k }

def Marks.on (f : Marks) (s : State) (k e : Nat) : Bool := governed s f.mask e && e / s.hart.lanes == k

end Sys2Proof.Claims

/-- R256 to R259, R302: the forms of events, a notification that fires, the return from its handler. -/
def Sys2Proof.Claims.EventsAreAwaitedAndNotified : Prop :=
  (∀ (s : State) (xd xs1 : Nat) (pa : Nat → Nat), xd < 32 → xs1 < 32 → s.hart.lap = none →
    let va := (rx s xs1).toNat
    let handler := seenWord s va pa 0 % 2 ^ 55
    let kind := seenWord s va pa 1 % 16
    let chan := seenWord s va pa 1 / 16 % 4
    let value : Word := BitVec.ofNat 64 (seenWord s va pa 2)
    let addr := seenWord s va pa 3
    (va % 32 ≠ 0 → CanTrap s → ∀ i, (i = .wait xd xs1 ∨ i = .notify xd xs1) →
      exec i s = .next (trapped s (ownTrap s 3 0 0 0 (rx s xs1)))) ∧
    (va % 32 = 0 → Reads s (List.range 4) (va + 8 * ·) pa 8 1 →
      let u := readAll s (List.range 4) (va + 8 * ·) pa 8 1
      (kind = 0 ∨ 4 < kind → CanTrap s → exec (.wait xd xs1) s = .next (trapped u (ownTrap u 2 0 0 0 0))) ∧
      (1 ≤ kind → kind ≤ 3 → Occurred s kind chan value → exec (.wait xd xs1) s = .next (answered u xd 1)) ∧
      (1 ≤ kind → kind ≤ 3 → ¬ Occurred s kind chan value → exec (.wait xd xs1) s = .next (stalled u)) ∧
      (kind = 4 → addr % 8 ≠ 0 → CanTrap s →
        exec (.wait xd xs1) s = .next (trapped u (ownTrap u 3 0 0 0 (BitVec.ofNat 64 addr)))) ∧
      (∀ pw, kind = 4 → addr % 8 = 0 → Placed u 0 addr pw → uncorrectable u pw 8 = false →
        let t := atomicStep 0 8 (fun _ => addr) (fun _ => pw) (fun _ => 0) (fun _ => 0) 1 0 u
        (homeDword u pw ≠ value.toNat → exec (.wait xd xs1) s = .next (answered (newPhase t) xd 1)) ∧
        (homeDword u pw = value.toNat → exec (.wait xd xs1) s = .next (stalled t))) ∧
      (kind = 0 ∨ 3 < kind ∨ handler % 4 ≠ 0 → CanTrap s → exec (.notify xd xs1) s = .next (trapped u (ownTrap u 2 0 0 0 0))) ∧
      (1 ≤ kind → kind ≤ 3 → handler % 4 = 0 → Occurred s kind chan value → exec (.notify xd xs1) s = .next (answered u xd 1)) ∧
      (1 ≤ kind → kind ≤ 3 → handler % 4 = 0 → ¬ Occurred s kind chan value →
        exec (.notify xd xs1) s = .next (answered { u with
          hart := { u.hart with slotN := ⟨true, kind, chan, value, BitVec.ofNat 64 addr, BitVec.ofNat 64 handler⟩ } } xd 0)))) ∧
  (∀ (s : State), let n := s.hart.slotN
    (s.hart.run = .running → n.armed = true → s.hart.nh = false → s.hart.depth = 0 → s.hart.request = none → 1 ≤ n.kind → n.kind ≤ 3 →
      Occurred s n.kind n.chan n.value → Aligned n.handler →
      exec .notification s = .next { s with
        hart := { s.hart with
          slotN := { n with armed := false }, nh := true
          shadow := (s.hart.shadow.setIfInBounds 7 (nextAddress s)).setIfInBounds 6 (BitVec.ofNat 64 n.kind)
          nlap := s.hart.lap.map fun l => (l, s.hart.pc), lap := none, pc := n.handler, priv := false, waiting := false } }) ∧
    ((s.hart.run ≠ .running ∨ n.armed = false ∨ s.hart.nh = true ∨ s.hart.depth ≠ 0 ∨ s.hart.request ≠ none) → exec .notification s = .next s)) ∧
  ∀ (s : State),
    (s.hart.nh = false → CanTrap s → exec .nret s = .next (trapped s (ownTrap s 2 0 0 0 0))) ∧
    (s.hart.nh = true → s.hart.nlap = none → Aligned s.hart.shadow[7] → exec .nret s = .next (wentTo { s with
      hart := { s.hart with nh := false } } s.hart.shadow[7])) ∧
    ∀ l pc, s.hart.nh = true → s.hart.nlap = some (l, pc) → nextAddress { s with hart := { s.hart with lap := some l } } = s.hart.shadow[7] →
      exec .nret s = .next (wentTo { s with hart := { s.hart with nh := false, nlap := none, lap := some l } } pc)

/-- R260, R266, R348: deadlines, and the trap of a late packet, which counts unless its context's frame has counted it while it was saved; the word that
the trap records is open (log 11). -/
def Sys2Proof.Claims.DeadlinesAreKept : Prop :=
  (∀ (s : State) (xd xs1 xs2 : Nat), xd < 32 → xs1 < 32 → xs2 < 32 → s.hart.lap = none →
    exec (.setdl xd xs1 xs2) s = .next (answered { s with
      hart := { s.hart with
        deadline := if rx s xs1 = 0 then 0 else BitVec.ofNat 64 (min (2 ^ 64 - 1) (s.time.toNat + (rx s xs1).toNat))
        lateEn := decide ((rx s xs2).toNat % 2 = 1) } } xd s.hart.deadline)) ∧
  ∀ (s : State), s.hart.run = .running →
    let u := { s with
      hart := { s.hart with
        perf := if s.hart.lateDue then s.hart.perf else s.hart.perf.setIfInBounds 4 (s.hart.perf[4] + 1), lateDue := false } }
    (s.hart.lateEn = false → exec (.late s.hart.slot) s = .next u) ∧
    (s.hart.lateEn = true → s.hart.inflight = [] → s.hart.request = none → CanTrap s →
      exec (.late s.hart.slot) s = .next (trapped { u with hart := { u.hart with lateEn := false } }
        { cause := 16, rpc := s.hart.pc, w1 := Config.trapWord s.tick })) ∧
    (s.hart.lateEn = true → s.hart.inflight ≠ [] ∨ s.hart.request ≠ none →
      exec (.late s.hart.slot) s = .next { s with agenda := s.agenda ++ [.late s.hart.slot] })

/-- R263 to R267, R211: the system forms in the view that may run them. That lanemap takes a lane field above 31 in an active entry is log 29, that
yield 0 goes on log 68, that a copy that has faulted holds up no yield log 104. -/
def Obligations.SystemForms : Prop :=
  (∀ (s : State) (xs1 xs2 : Nat), xs1 < 32 → xs2 < 32 → s.hart.lap = none → s.hart.priv = true →
    let va := (rx s xs1).toNat
    let flags := (rx s xs2).toNat
    ∃ l, exec (.tlbinv xs1 xs2) s = .next (passed { s with tlb := l } 4) ∧ l.Sublist s.tlb ∧
      ∀ c, c ∈ l ↔ c ∈ s.tlb ∧ ¬ ((flags % 2 = 1 ∨ c.vpn = va / (if c.blk then 2 ^ 29 else 2 ^ 16)) ∧
        (flags / 2 % 2 = 1 ∨ c.glob = true ∨ c.asid = s.hart.ptroot.toNat % 2 ^ 16))) ∧
  (∀ (s : State), s.hart.lap = none → s.hart.priv = true →
    exec .halt s = .next (passed { s with hart := { s.hart with run := .halted } } 4)) ∧
  (∀ (s : State), (s.hart.run = .halted → exec (.hartRestart s.hart.slot) s = .next { s with hart := { s.hart with run := .running } }) ∧
    (s.hart.run = .running → exec (.hartRestart s.hart.slot) s = .next s)) ∧
  (∀ (s : State) (xs1 : Nat), xs1 < 32 → s.hart.lap = none →
    (rx s xs1 = 0 → exec (.yield xs1) s = .next (passed s 4)) ∧
    (1 < (rx s xs1).toNat → CanTrap s → exec (.yield xs1) s = .next (trapped s (ownTrap s 2 0 0 0 0))) ∧
    (rx s xs1 = 1 → ¬ Quiet s → exec (.yield xs1) s = .next (stalled s)) ∧
    ∀ u, rx s xs1 = 1 → Quiet s →
      publishCounted (if s.core.claimant = some s.hart.idx then { s with core := { s.core with claimant := none } } else s) = (u, true) →
      ∃ t, exec (.yield xs1) s = .next t ∧ Finished (passed u 4) t (BitVec.ofNat 64 (s.hart.slot * 2 ^ 32)) 1) ∧
  (∀ (s : State) (xd xs1 : Nat), xd < 32 → xs1 < 32 → s.hart.lap = none →
    exec (.perf xd xs1) s = .next (answered s xd (s.hart.perf[(rx s xs1).toNat]?.getD 0))) ∧
  ∀ (s : State) (xd xs1 xs2 : Nat), xd < 32 → xs1 < 32 → xs2 < 32 → s.hart.lap = none → s.hart.priv = true →
    let p := (rx s xs1).toNat
    let old := s.core.lanemap[p]?.getD 0
    let new := BitVec.ofNat 8 (rx s xs2).toNat
    (33 < p → CanTrap s → exec (.lanemap xd xs1 xs2) s = .next (trapped s (ownTrap s 2 0 0 0 0))) ∧
    (p ≤ 33 → xs2 = 0 → exec (.lanemap xd xs1 xs2) s = .next (answered s xd (BitVec.ofNat 64 old.toNat))) ∧
    (p ≤ 33 → xs2 ≠ 0 → LaneRefused s p old new → CanTrap s →
      exec (.lanemap xd xs1 xs2) s = .next (trapped s (ownTrap s 2 0 0 0 0))) ∧
    (p ≤ 33 → xs2 ≠ 0 → ¬ LaneRefused s p old new →
      exec (.lanemap xd xs1 xs2) s = .next (answered { s with core := { s.core with lanemap := s.core.lanemap.setIfInBounds p new } } xd
        (BitVec.ofNat 64 old.toNat)))

/-- R36, R39, R81, R135, R157, R166 to R173, R307: a resumed form over bricks commits its next element group with what its issue captured, and has
completed after the last. -/
def Sys2Proof.Claims.ResumedBrickFormsCommit : Prop :=
  ∀ (s b : State) (e : Entry) (younger : List Entry) (j : Instr) (k : Nat), Resumable s b e younger j k → elemType s < 12 →
    let last := lastGroup s k
    (∀ (f : Fill) (cls : Nat) (legal : Prop),
      ((∃ o, (intOp b j = some o ∨ floatOp b j = some o) ∧ f = o.fill b ∧ cls = o.cls ∧ legal = OffsetZero b o.offset) ∨
        (convertFill b (inPlace b) j = some (f, legal) ∧ cls = 0) ∨ (permuteFill b j = some (f, legal) ∧ cls = 0) ∨
        (reduceFill b (inPlace b) j = some (f, cls) ∧ legal = True)) → ClassFits s cls → legal →
      let g := f.group s k
      ∃ t, exec .elementGroupCommit s = .next t ∧
        (∀ x, g.on s x = true → elemAt t.hart.bricks s.hart.lanes (elemSize s) f.dest x = (f.value (modeOf s f.rm) x).1 % 2 ^ elemWidth s) ∧
        (∀ a, (∀ x, g.on s x = true → a < f.place s x ∨ f.place s x + elemSize s ≤ a) → mget t.hart.bricks a = mget s.hart.bricks a) ∧
        t = committed { s with
          hart := { s.hart with
            bricks := t.hart.bricks, btag := s.hart.btag.setIfInBounds f.dest (g.tag s)
            fpctl := s.hart.fpctl ||| BitVec.ofNat 64 (2 ^ 8 * g.flags s)
            rseed := s.hart.rseed + (if last && f.draws s then BitVec.ofNat 64 (count s) else 0) } } e younger k) ∧
    (∀ f : Marks, ((compareMarks b (inPlace b) (inPlace b) j = some f ∧ OffsetZero b f.offset) ∨ maskMarks b j = some f) → ClassFits s f.cls →
      ∃ t, exec .elementGroupCommit s = .next t ∧
        (f.dest ≠ 0 → ∀ x < 8192, (t.hart.masks[f.dest]?.getD 0).getLsbD x =
          if f.on s k x then (f.bit x).1 else (s.hart.masks[f.dest]?.getD 0).getLsbD x) ∧
        (∀ r, r ≠ f.dest ∨ r = 0 → t.hart.masks[r]?.getD 0 = s.hart.masks[r]?.getD 0) ∧
        t = committed { s with
          hart := { s.hart with
            masks := t.hart.masks
            fpctl := s.hart.fpctl ||| BitVec.ofNat 64 (2 ^ 8 * (List.range (count s)).foldl
              (fun fl x => if f.on s k x then fl ||| (f.bit x).2 else fl) 0) } } e younger k) ∧
    (∀ vd a code m rm c, j = .vpack vd a code m rm c → PackedFits s (codeElem code).width → (vd = a → (codeElem code).width = elemWidth s) →
      let on (x : Nat) : Bool := governed s m x && x / s.hart.lanes == k
      let mode := modeOf s rm
      let value (x : Nat) := converted b (etypeElem (elemType s)) (codeElem code) false mode x (elemOf s a x)
      ∃ t, exec .elementGroupCommit s = .next t ∧ PackedBits s t vd (codeElem code).width on value ∧
        (∀ r, r ≠ vd → t.hart.btag[r]? = s.hart.btag[r]?) ∧
        t = committed { s with
          hart := { s.hart with
            bricks := t.hart.bricks, btag := t.hart.btag
            fpctl := s.hart.fpctl ||| BitVec.ofNat 64 (2 ^ 8 * (List.range (count s)).foldl (fun fl x => if on x then fl ||| (value x).2 else fl) 0)
            rseed := s.hart.rseed +
              (if last && !holdsAll (etypeElem (elemType s)) (codeElem code) && mode == 4 then BitVec.ofNat 64 (count s) else 0) } } e younger k) ∧
    (∀ xd a m, j = .vmpopc xd a m →
      exec .elementGroupCommit s = .next (committed (if last then wx s xd (BitVec.ofNat 64 (markedElems s m a).length) else s) e younger k)) ∧
    (∀ xd a m, j = .vmfirst xd a m →
      exec .elementGroupCommit s = .next (committed (if last then wx s xd (match (markedElems s m a).head? with
        | some x => BitVec.ofNat 64 x
        | none => asWord (-1)) else s) e younger k)) ∧
    ∀ xd a xs m c, j = .vextx xd a xs m c → (rx s xs).toNat < count s →
      let x := (rx s xs).toNat
      exec .elementGroupCommit s = .next (committed
        (if governed s m x then (if x / s.hart.lanes = k then wx s xd (elemWord s (elemOf s a x)) else s) else if last then wx s xd 0 else s)
        e younger k)

/-- R36, R39, R187 to R198, R307: a resumed stream, gather, scatter, scratchpad or atomic form makes the accesses of its next element group. -/
def Sys2Proof.Claims.ResumedAccessesCommit : Prop :=
  ∀ (s b : State) (e : Entry) (younger : List Entry) (j : Instr) (k : Nat) (pa : Nat → Nat) (a : Access), Resumable s b e younger j k →
    ((accessOf b pa j = some a ∧ AccessIssues b j) ∨
      (groupedOf b pa j = some a ∧ GroupedIssues b j ∧ Apart (· ∈ a.els b) (fun x => (a.addr x).toNat) (elemSize s) ∧
        ((∃ vd sn m mode vi c, j = .vscat vd sn m mode vi c) ∨ Apart (· ∈ a.els b) (fun x => homeAddr s (pa x)) (elemSize s)))) →
    let els := (a.els s).filter fun x => decide (x / s.hart.lanes = k)
    AllAlong a.step (fun u => ∀ x ∈ els, a.served u x) els s →
    ((∃ vd sn m mode vi c, j = .vscat vd sn m mode vi c) → ∀ x ∈ els, ∀ l ∈ placeLines s (elemSize s) (a.addr x), shadowBlocks s l = false) →
    let acq := match atomicRow j with
      | some (_, _, _, _, acq, _, _, _) => acq
      | none => 0
    let r := along a.step els s
    ∃ t, exec .elementGroupCommit s = .next (if lastGroup s k then acquired t acq else t) ∧
      (∀ vd v, a.fill = some (vd, v) →
        let f : Fill := Fill.group { dest := vd, mask := a.mask, value := fun _ x => (v x, 0) } s k
        (∀ x, f.on s x = true → elemAt t.hart.bricks s.hart.lanes (elemSize s) vd x = v x % 2 ^ elemWidth s) ∧
        (∀ c, (∀ x, f.on s x = true → c < f.place s x ∨ f.place s x + elemSize s ≤ c) → mget t.hart.bricks c = mget s.hart.bricks c) ∧
        t = committed { r with hart := { r.hart with bricks := t.hart.bricks, btag := s.hart.btag.setIfInBounds vd (f.tag s) } } e younger k) ∧
      (a.fill = none → t = committed r e younger k)

/-- R186, R189, R266: the pacer translates the pages that the elements inside the tensor touch at the next positions of the stream, in the order in
which .adv forms reach them, each that it does not hold a translation miss (index 7); it holds at most 8 translations of a stream, gives up those that
no next position needs, and leaves every other translation, every other counter and every table alone. A page that the tables do not map, or that
does not fit, is left to the access that reaches it. That its translations serve no access is log 40, that one it holds may count as a miss log 7. -/
def Sys2Proof.Claims.PacerHoldsFewTranslations : Prop :=
  ∀ (s : State) (sn : Nat), s.hart.run = .running → sn < 16 →
    let key := (s.hart.slot, sn)
    let ahead := streamBits (streamOf s sn) 360 4
    let next := { s with hart := { s.hart with streams := s.hart.streams.setIfInBounds sn (nextPosition (streamOf s sn) s.hart.bshape) } }
    let touches (x : Nat) : Prop := insideTensor next sn x = true ∧ 0 ≤ tensorAddr next sn x ∧ tensorAddr next sn x < 2 ^ 55
    ∃ l p, exec (.pacerTranslate s.hart.slot sn) s = .next { s with tlb := l, hart := { s.hart with perf := p } } ∧
      (∀ k < 8, k ≠ 7 → p[k]? = s.hart.perf[k]?) ∧
      (∀ c ∈ l, c ∈ s.tlb ∨ c.pacer = some key) ∧ (∀ c ∈ s.tlb, c.pacer ≠ some key → c ∈ l) ∧
      ((s.tlb.filter fun c => c.pacer == some key).length ≤ 8 → (l.filter fun c => c.pacer == some key).length ≤ 8) ∧
      (ahead = 0 → l = s.tlb.filter fun c => c.pacer != some key) ∧
      (∀ addrs, addrs = (pacedPositions s.hart.bshape ahead (streamOf s sn)).flatMap (pacedAddrs s sn) →
        exec (.pacerTranslate s.hart.slot sn) s = .next (along (pacedPage key) addrs
          { s with tlb := s.tlb.filter fun c => c.pacer != some key || addrs.any (ofPage c) })) ∧
      ∀ x leaf entry blk g pa, x < count s → touches x → (∀ y < x, ¬ touches y) → ahead ≠ 0 →
        let va := (tensorAddr next sn x).toNat
        let size := if blk then 2 ^ 29 else 2 ^ 16
        windowOf s (asidOf s.hart.ptroot) va = none → (∀ c ∈ s.tlb, c.pacer ≠ some key) →
        walk s s.hart.ptroot va = .ok (leaf, entry, blk) → checkLeaf s (hartView s) 0 va leaf entry blk = .ok (g, pa) →
          ∃ c ∈ l, c.pacer = some key ∧ c.blk = blk ∧ c.vpn = va / size ∧ c.pa + va % size = pa ∧ c.asid = asidOf s.hart.ptroot ∧
            c.core = s.hart.coreNo

/-- R36, R39, R307: the element groups of resumed forms. -/
def Obligations.ResumedGroupsCommit : Prop := ResumedBrickFormsCommit ∧ ResumedAccessesCommit

/-- R256 to R260, R302, R348: events, notifications, deadlines. A notification inside a frame is log 41, the word that LATE records is open (log
11), that a request is late by a list of times log 83, which of them are stamped from the deadline log 107. -/
def Obligations.EventsAndDeadlines : Prop := EventsAreAwaitedAndNotified ∧ DeadlinesAreKept

/-- R185, R186, R188, R266: stream registers, and the translations that the pacer holds for them and their misses. That its translations serve no access
is log 40, that one it holds may count as a miss log 7. -/
def Obligations.StreamRegistersAndPacer : Prop := StreamRegistersMove ∧ PacerHoldsFewTranslations

namespace Sys2Proof.Claims

open Sys2Proof.Machine

/-! Host queues (R333 to R337). -/

/-- Bytes of a store outside a range are as in memory. -/
def OnlyWrote (s : State) (m : Memory) (lo n : Nat) : Prop := ∀ a, (a < lo ∨ lo + n ≤ a) → mget m a = mget s.memory a

/-- The state with a memory that differs at `n` bytes from `lo` on: no near cache keeps a copy of them. -/
def homePut (s : State) (m : Memory) (lo n : Nat) : State := withoutCopies { s with memory := m } fun _ a => decide (lo ≤ a) && decide (a < lo + n)

/-- A host queue, its descriptor at a local physical address, the fields of the descriptor (R249, R333). -/
def hostQ (s : State) (q : Nat) : HostQueue := tget s.hostq q {}

def hostPa (s : State) (q : Nat) : Nat := localPA s (hostQ s q).desc.toNat

def hostField (s : State) (q lo n : Nat) : Nat := descField s (hostPa s q) lo n

def hostHead (s : State) (q : Nat) : Nat := hostField s q 128 64

/-- A byte of the stream, whose base is a local physical address too; the mask and the length of the record that begins at a byte. -/
def hostByteAt (s : State) (q k : Nat) : Byte :=
  mget s.memory (homeAddr s (localPA s (hostField s q 0 55) + k % 2 ^ hostField s q 64 6))

def hostHeader (s : State) (q k : Nat) : Nat := littleEndian ((List.range 4).map fun i => hostByteAt s q (k + i))

def hostLength (s : State) (q k : Nat) : Nat :=
  4 + 4 * ((List.range 16).filter fun i => hostHeader s q k % 65536 / 2 ^ i % 2 == 1).length

/-- `n` records fill the stream from one byte to another. -/
def RecordsFill (s : State) (q : Nat) : Nat → Nat → Nat → Prop
  | 0, k, stop => k = stop
  | n + 1, k, stop => RecordsFill s q n (k + hostLength s q k) stop

/-- The tail that a doorbell names (R334). -/
def doorbellTail (old v : Nat) : Nat :=
  let t := old / 2 ^ 44 * 2 ^ 44 + v % 2 ^ 44
  if t < old then t + 2 ^ 44 else t

/-- A doorbell that stops its queue (R334). -/
def DoorbellStops (s : State) (q v : Nat) : Prop :=
  let old := hostField s q 192 64
  let gang := v / 2 ^ 44 % 16
  v / 2 ^ 50 % 2 ^ 14 ≠ 0 ∨ v / 2 ^ 48 % 4 = 3 ∨ 2 ^ 64 ≤ doorbellTail old v ∨
    hostHead s q + 2 ^ hostField s q 64 6 < doorbellTail old v ∨ (2 ≤ gang ∧ ¬ RecordsFill s q gang old (doorbellTail old v))

/-- The queue stopped, with the host-queue-error event (R334, R336, R342). -/
def queueStopped (s : State) (q : Nat) : State :=
  { s with
    hostq := tset s.hostq q { hostQ s q with stopped := true }
    events := s.events ++ [⟨[7, 0, BitVec.ofNat 64 q, BitVec.ofNat 64 (hostHead s q)], none⟩]
    agenda := s.agenda ++ [.eventRecordWrite] }

/-- A queue that the unit can take from; the one whose turn it is; what the unit does next (R336). -/
def QueueReady (s : State) (q : Nat) : Prop :=
  (hostQ s q).enable = true ∧ (hostQ s q).stopped = false ∧ hostHead s q ≠ hostField s q 192 64

def TurnOf (s : State) (q : Nat) : Prop :=
  ∃ i < 64, q = (s.hqTurn + i) % 64 ∧ QueueReady s q ∧ ∀ j < i, ¬ QueueReady s ((s.hqTurn + j) % 64)

def Offers (s t : State) : Prop :=
  ((∀ q < 64, ¬ QueueReady s q) → t = s) ∧ ∀ q, TurnOf s q → t = { s with agenda := s.agenda ++ [.hostQueueTake q] }

/-- A start record whose fields are legal (R335). -/
def StartLegal (r : Nat) : Prop :=
  recordField r 1 < 2 ^ 23 ∧ recordField r 4 ∈ [4, 8, 16, 32] ∧ 1 ≤ recordField r 5 ∧ recordField r 5 ≤ 8192 ∧
    recordField r 11 < 2 ^ 23 ∧ ∀ i, 12 ≤ i → i < 16 → recordField r i = 0

/-- The request that a start record makes (R337): the gang that the doorbell posted it with, the deadline at the take. -/
def startRequest (s : State) (q r : Nat) : Request :=
  let g : Gang := ((hostQ s q).gangs.find? fun g => decide (hostHead s q < g.upto)).getD ⟨0, 0, 0, 0⟩
  let budget := recordField r 6 + recordField r 7 % 2 ^ 31 * 2 ^ 32
  { fields := (List.range 16).map (recordField r), pt := (hostQ s q).pt, src := q, gang := g.gang, place := g.place, gid := g.gid
    deadline := if budget = 0 then 0 else BitVec.ofNat 64 (min (2 ^ 64 - 1) (s.time.toNat + budget)) }

/-! The event ring and registers of the module (R327, R342, R343, R393). -/

/-- Slot `k` covers the `c` slots behind it (R339). -/
def Covers (s : State) (k c : Nat) : Prop :=
  c ≤ 7 ∧ (∀ i < c, (tget s.slots (k + 1 + i) {}).st = 1) ∧ (c < 7 → (tget s.slots (k + 1 + c) {}).st ≠ 1)

/-- Every lane of the retirement log is out of use, so that none waits for a slot to be freed (R386). -/
def LanesSettled (s : State) : Prop := ∀ e ∈ s.regs.rlog, e.toNat < 2 ^ 63 → laneOut s e = true

/-- A core with another value of its power-cap register (R343). -/
def capped (v : Nat) (c : Core) : Core :=
  { c with mcap := if v / 2 ^ 16 % 4 = 3 then c.mcap else v / 2 ^ 16 % 4, vcap := max 1 (v % 2 ^ 14) }

/-- The module with one core changed, the one in hand or another. -/
def coreChanged (s : State) (c : Nat) (f : Core → Core) : State :=
  if c = s.hart.coreNo then { s with core := f s.core } else { s with otherCores := tset s.otherCores c (f (tget s.otherCores c {})) }

end Sys2Proof.Claims

/-- R333 to R337, R342: doorbells, the registers of a queue, the taking of start records, with the start-request event. The unit's turn among queues
is the model's own schedule (log 6). That a record is taken by its coded length is log 66, where a queue's count begins anew log 17. -/
def Obligations.HostQueuesTakeRecords : Prop :=
  ∀ (s : State) (q : Nat), (63 < q → ∀ v, exec (.doorbell q v) s = .next s ∧ exec (.hqstatEnable q v) s = .next s ∧
      exec (.hqstatStoppedClear q) s = .next s) ∧
    (q ≤ 63 →
      (∀ v, DoorbellStops s q v → exec (.doorbell q v) s = .next (queueStopped s q)) ∧
      (∀ v, ¬ DoorbellStops s q v → (hostQ s q).desc.toNat % 256 = 0 → s.memory.wf = true →
        let tail := doorbellTail (hostField s q 192 64) v
        let gang := v / 2 ^ 44 % 16
        let at_ := homeAddr s (hostPa s q) + 24
        ∃ m, mgetN m at_ 8 = tail ∧ OnlyWrote s m at_ 8 ∧
          exec (.doorbell q v) s = .next { homePut s m at_ 8 with
            hostq := tset s.hostq q { hostQ s q with
              gangs := (hostQ s q).gangs ++ [⟨tail, gang, v / 2 ^ 48 % 4, if 2 ≤ gang then s.nextGang else 0⟩] }
            nextGang := if 2 ≤ gang then s.nextGang + 1 else s.nextGang
            agenda := s.agenda ++ [.hostQueueTake q] }) ∧
      (∀ en, exec (.hqstatEnable q en) s = .next { s with
        hostq := tset s.hostq q { hostQ s q with enable := decide (en % 2 = 1) }, agenda := s.agenda ++ [.hostQueueTake q] }) ∧
      exec (.hqstatStoppedClear q) s = .next { s with
        hostq := tset s.hostq q { hostQ s q with stopped := false }, agenda := s.agenda ++ [.hostQueueTake q] }) ∧
    ((∀ k < 1024, ∃ p ∈ s.reqs, p.1 = k) → exec (.hostQueueTake q) s = .next s) ∧
    ∀ e, LowestEntry s e →
      (¬ TurnOf s q → ∃ t, exec (.hostQueueTake q) s = .next t ∧ Offers s t) ∧
      (TurnOf s q →
        let head := hostHead s q
        let r := takenRecord (hostHeader s q head % 65536) (hostField s q 768 512) fun k => hostByteAt s q (head + k)
        let good := hostHeader s q head / 65536 = (hostQ s q).taken % 65536 ∧ StartLegal r
        let at_ := homeAddr s (hostPa s q)
        let next := head + hostLength s q head
        (¬ good → ∃ t, exec (.hostQueueTake q) s = .next t ∧ Offers (queueStopped s q) t) ∧
        (good → (hostQ s q).desc.toNat % 256 = 0 → s.memory.wf = true → ∃ m t, exec (.hostQueueTake q) s = .next t ∧
          HoldsFrom s m (at_ + 16) (storedBytes 8 (next % 2 ^ 64)) ∧ HoldsFrom s m (at_ + 96) (storedBytes 64 r) ∧
          (∀ a, (a < at_ + 16 ∨ at_ + 24 ≤ a) → (a < at_ + 96 ∨ at_ + 160 ≤ a) → mget m a = mget s.memory a) ∧
          Offers { withoutCopies { s with memory := m } fun _ a =>
              (decide (at_ + 16 ≤ a) && decide (a < at_ + 24)) || (decide (at_ + 96 ≤ a) && decide (a < at_ + 160)) with
            reqs := tset s.reqs e (startRequest s q r), hqTurn := (q + 1) % 64
            hostq := tset s.hostq q { hostQ s q with
              taken := (hostQ s q).taken + 1, gangs := (hostQ s q).gangs.filter fun g => decide (next < g.upto) }
            events := s.events ++ [⟨[6, 0, BitVec.ofNat 64 e, BitVec.ofNat 64 q], none⟩]
            agenda := s.agenda ++ [.eventRecordWrite] } t))

/-- R327, R340, R342, R343, R393: the event ring (full as log 18 says), and registers that rows of the table write. That the device writes the ring
at its home is log 31, the slots that an end frees log 72, the caps of a write with mcap 3 log 30. -/
def Obligations.EventRecordsReachTheRing : Prop :=
  (∀ (s : State) (w0 w1 w2 w3 : Word) (frees : Option Nat) (rest : List Notice), s.events = ⟨[w0, w1, w2, w3], frees⟩ :: rest →
    (2 ^ s.regs.evsz ≤ (s.regs.evtail - s.regs.evhead).toNat → exec .eventRecordWrite s = .next s) ∧
    ((s.regs.evtail - s.regs.evhead).toNat < 2 ^ s.regs.evsz → s.memory.wf = true → LanesSettled s → ∀ c, (∀ k, frees = some k → Covers s k c) →
      let at_ := homeAddr s (localPA s (s.regs.evb.toNat + 32 * (s.regs.evtail.toNat % 2 ^ s.regs.evsz)))
      ∃ m sl, mgetN m at_ 8 = w0.toNat ∧ mgetN m (at_ + 8) 8 = w1.toNat ∧ mgetN m (at_ + 16) 8 = w2.toNat ∧
        mgetN m (at_ + 24) 8 = w3.toNat ∧ OnlyWrote s m at_ 32 ∧
        (∀ i, (∃ k, frees = some k ∧ k ≤ i ∧ i ≤ k + c) → tget sl i {} = { tget s.slots i {} with st := 0 }) ∧
        (∀ i, (∀ k, frees = some k → i < k ∨ k + c < i) → tget sl i {} = tget s.slots i {}) ∧
        exec .eventRecordWrite s = .next { homePut s m at_ 32 with
          slots := sl, events := rest, regs := { s.regs with evtail := s.regs.evtail + 1 }
          agenda := if rest = [] ∨ .eventRecordWrite ∈ s.agenda then s.agenda else s.agenda ++ [.eventRecordWrite] })) ∧
  (∀ (s : State), s.events = [] → exec .eventRecordWrite s = .next s) ∧
  ∀ (s : State) (v : Nat),
    let again := if s.events = [] then s.agenda else s.agenda ++ [.eventRecordWrite]
    exec (.evhead v) s = .next { s with regs := { s.regs with evhead := BitVec.ofNat 64 v }, agenda := again } ∧
    (8 ≤ v → v ≤ 16 → exec (.evsz v) s = .next { s with regs := { s.regs with evsz := v }, agenda := again }) ∧
    ((v < 8 ∨ 16 < v) → exec (.evsz v) s = .next s) ∧
    (∀ n, n ≤ 1023 → (v / 2 ^ 23 % 2 = 1 ∨ ∀ p ∈ s.arrived, p.queue ≠ n) →
      exec (.arrivalQueue n v) s = .next { s with arrq := tset s.arrq n ⟨decide (v / 2 ^ 23 % 2 = 1), v % 2 ^ 16⟩ }) ∧
    (∀ n, (1023 < n ∨ (v / 2 ^ 23 % 2 = 0 ∧ ∃ p ∈ s.arrived, p.queue = n)) → exec (.arrivalQueue n v) s = .next s) ∧
    (∀ c, c ≤ 1535 → exec (.powerCap c v) s = .next (coreChanged s c (capped v))) ∧
    ∀ c, 1535 < c → exec (.powerCap c v) s = .next s

namespace Sys2Proof.Claims

open Sys2Proof.Machine

/-! The slot table (R8, R324, R325, R338 to R341). -/

/-- Where slot `slot` of a die lies (R339). -/
def bindCx (die slot : Nat) : Nat := 8 * (die % 6) + slot / 8 % 8
def bindCy (die slot : Nat) : Nat := 8 * (die / 6) + slot / 64
def bindLane (slot : Nat) : Nat := 4 * (slot % 8)
def bindCore (die slot : Nat) : Nat := bindCx die slot + 48 * bindCy die slot

/-- The lanes of a partition that an active physical lane gives (R43). -/
def liveLanes (c : Core) (lbase psize : Nat) : Nat :=
  ((List.range psize).filter fun i => (List.range 34).any fun p =>
    decide ((c.lanemap[p]?.getD 0).toNat / 64 = 0 ∧ (c.lanemap[p]?.getD 0).toNat % 64 = lbase + i)).length

/-- A hart of a core with a thread; each of them has a first lane of its own. -/
def HartOn (s : State) (c : Nat) (h : Hart) : Prop := h ∈ s.hart :: s.others ∧ h.run ≠ .idle ∧ h.coreNo = c

def OneEach (s : State) (c : Nat) : Prop := ∀ g h, HartOn s c g → HartOn s c h → g.lbase = h.lbase → g = h

/-- The index of a new hart (R8), and whether it is not below that of the next hart up. -/
def IndexIs (s : State) (c lbase k : Nat) : Prop :=
  (k = 0 ∧ ∀ h, HartOn s c h → lbase ≤ h.lbase) ∨
    ∃ h, HartOn s c h ∧ h.lbase < lbase ∧ (∀ g, HartOn s c g → g.lbase < lbase → g.lbase ≤ h.lbase) ∧ k = h.idx + 1

def IndexClash (s : State) (c lbase k : Nat) : Prop :=
  ∃ h, HartOn s c h ∧ lbase < h.lbase ∧ (∀ g, HartOn s c g → lbase < g.lbase → h.lbase ≤ g.lbase) ∧ h.idx ≤ k

/-- A dword, and a byte of a stretch, of the frame that a bind record names (R319), read by physical address. -/
def frameWord (s : State) (x : Slot) (o : Nat) : Nat := mgetN s.memory (homeAddr s (x.frame.toNat + o)) 8

def frameByte (s : State) (x : Slot) (o b : Nat) : Byte := mget s.memory (homeAddr s (x.frame.toNat + o) + b)

/-- What a start or a restore finds, by the number of its result (R340); 3 to 5 concern a restore. -/
def Meets (s : State) (die slot k : Nat) (restore : Bool) (r : Nat) : Prop :=
  let n := 512 * die + slot
  let x := tget s.slots n {}
  let c := bindCore die slot
  let live := liveLanes (coreAt s c) (bindLane slot) x.psize
  let d := frameWord s x 0
  (r = 6 ∧ (x.psize ∉ [4, 8, 16, 32] ∨ x.vlmax = 0 ∨ 8192 < x.vlmax ∨ x.frame.toNat % 65536 ≠ 0)) ∨
  (r = 1 ∧ (bindLane slot % x.psize ≠ 0 ∨ ∃ i < x.psize / 4, (tget s.slots (n + i) {}).st ≠ 0)) ∨
  (r = 2 ∧ IndexClash s c (bindLane slot) k) ∨
  (restore = true ∧ r = 3 ∧ (d / 2 ^ 22 % 2 ^ 6 ≠ x.psize ∨ d / 2 ^ 16 % 2 ^ 6 ≠ live)) ∨
  (restore = true ∧ r = 4 ∧ d / 2 ^ 33 % 2 = 1 ∧ frameWord s x 0x30 % 2 ^ 14 ≠ n) ∨
  (restore = true ∧ r = 5 ∧ d / 2 ^ 32 % 2 = 1 ∧ (coreAt s c).claimant ≠ none) ∨
  (r = 8 ∧ live = 0)

/-- The result of a start or a restore: 6 if 6 applies, otherwise the lowest that applies; 0 if none does (R340). -/
def ResultIs (s : State) (die slot k : Nat) (restore : Bool) (r : Nat) : Prop :=
  (r = 0 ∧ ∀ q, ¬ Meets s die slot k restore q) ∨
    (Meets s die slot k restore r ∧ (r = 6 ∨ ∀ q, Meets s die slot k restore q → q ≠ 6 ∧ r ≤ q))

/-- A command that only writes its result. -/
def resultOnly (s : State) (n r : Nat) : State := { s with slots := tset s.slots n { tget s.slots n {} with result := r } }

/-- The slots after a bind: running, and covered (R339, R340). -/
def BoundSlots (s : State) (n : Nat) (sl : Table Slot) : Prop :=
  ∀ i, tget sl i {} =
    if i = n then { tget s.slots n {} with result := 0, st := 2 }
    else if n < i ∧ i < n + (tget s.slots n {}).psize / 4 then { tget s.slots i {} with st := 1 }
    else tget s.slots i {}

/-- A hart in the place of the one that stood at its slot. -/
def placed (s : State) (n : Nat) (h : Hart) : State :=
  if s.hart.slot = n then { s with hart := h } else { s with others := h :: s.others.filter fun g => g.slot != n }

/-- The thread of a start (R14, R340). -/
def startedHart (s : State) (die slot k : Nat) : Hart :=
  let x := tget s.slots (512 * die + slot) {}
  let live := liveLanes (coreAt s (bindCore die slot)) (bindLane slot) x.psize
  { Hart.reset with
    run := .running, cx := bindCx die slot, cy := bindCy die slot, psize := x.psize, lanes := live, lbase := bindLane slot, idx := k
    vlmax := x.vlmax, frame := x.frame, tag := x.tag, src := x.src, pc := x.entry &&& ~~~3#64
    x := ((Vector.replicate 32 0).setIfInBounds 2 (BitVec.ofNat 64 (frameWord s x 0x50))).setIfInBounds 4 x.arg
    bshape := BitVec.ofNat 64 (live + 2 ^ 16 + 2 ^ 32), vtype := 10, tvec := BitVec.ofNat 64 (frameWord s x 0x38) &&& ~~~3#64
    ctxid := x.ctxid, ptroot := x.ptroot &&& 0x00FFFFFFFFFFFFFF, deadline := x.dl, lateEn := x.late, stamp := s.pubs }

/-- A trap bank that stands in a frame from offset `o` (R303, R319, R321): what the CSRs of the bank read, and of each recorded entry what it
captured. -/
def BankOfFrame (s : State) (x : Slot) (o : Nat) (b : TrapBank) : Prop :=
  let w (a : Nat) : Word := BitVec.ofNat 64 (frameWord s x (o + a))
  b.cause = w 0 &&& 0x1C0FFFF ∧ b.elem = w 8 ∧ b.addr = w 0x10 ∧ b.rpc = w 0x18 ∧ b.word = w 0x20 ∧ b.inf = w 0x28 &&& 0x7FFF ∧ b.sec = w 0x30 ∧ b.bmap = w 0x38 ∧
  b.ents.length = min 4 ((w 0x28).toNat % 8) ∧
  ∀ n e, b.ents[n]? = some e →
    e.pc = w (0x80 + 64 * n) ∧ (∀ g < 4, e.cnt[g]? = some ((w (0x88 + 64 * n)).toNat / 2 ^ (16 * g) % 65536)) ∧
    e.gs = (w (0x90 + 64 * n)).toNat ∧
    e.cap.bshape = w (0x1000 + 4096 * n) ∧ e.cap.vtype = w (0x1008 + 4096 * n) ∧ e.cap.rseed = w (0x1010 + 4096 * n) ∧
    (∀ k < 192, e.cap.adj[k]?.getD 0 = w (0x1040 + 4096 * n + 8 * k)) ∧
    (∀ k < 16, ∀ i < 8, (e.cap.streams[k]?.getD 0).toNat / 2 ^ (64 * i) % 2 ^ 64 = (w (0x1800 + 4096 * n + 64 * k + 8 * i)).toNat) ∧
    ∀ l < 8192, e.cap.mask.getLsbD l = (frameByte s x (o + 0x1C00 + 4096 * n + l / 64 * 8) (l / 8 % 8)).getLsbD (l % 8)

/-- A restored hart holds what its frame says (R319, R320, R322, R325); reserved bits of its registers are 0 (R4). A barrier arrival stands; its instance has completed where the frame says
so or no barrier of the module holds it any more (R201). -/
def HoldsFrame (s : State) (die slot k : Nat) (h : Hart) : Prop :=
  let x := tget s.slots (512 * die + slot) {}
  let w (o : Nat) : Word := BitVec.ofNat 64 (frameWord s x o)
  let d := frameWord s x 0
  let vlen (n : Nat) := min 256 (frameWord s x (0x200 + 8 * n) % 2 ^ 9)
  h.cx = bindCx die slot ∧ h.cy = bindCy die slot ∧ h.psize = x.psize ∧ h.lbase = bindLane slot ∧ h.idx = k ∧
  h.lanes = liveLanes (coreAt s (bindCore die slot)) (bindLane slot) x.psize ∧ h.frame = x.frame ∧ h.tag = x.tag ∧ h.src = x.src ∧
  h.vlmax = x.vlmax ∧ h.restored = some x.frame ∧ h.swap = false ∧
  h.depth = d / 2 ^ 28 % 4 ∧ h.priv = decide (d / 2 ^ 28 % 4 ≠ 0) ∧ h.pinned = decide (d / 2 ^ 33 % 2 = 1) ∧ h.nh = decide (d / 2 ^ 34 % 2 = 1) ∧
  h.waiting = decide (d / 2 ^ 36 % 2 = 1) ∧
  h.pc = w 0x10 &&& ~~~3#64 ∧ h.ptroot = w 0x08 &&& 0x00FFFFFFFFFFFFFF ∧ h.ctxid = BitVec.ofNat 32 (frameWord s x 0x18) ∧
  h.deadline.toNat % 2 ^ 63 = frameWord s x 0x20 % 2 ^ 63 ∧ h.lateEn = decide (frameWord s x 0x20 / 2 ^ 63 = 1) ∧
  h.stamp = frameWord s x 0x28 ∧ h.tvec = w 0x38 &&& ~~~3#64 ∧
  (∀ i, 1 ≤ i → i < 32 → h.x[i]?.getD 0 = w (0x40 + 8 * i)) ∧ h.x[0] = 0 ∧ (∀ i < 8, h.shadow[i]?.getD 0 = w (0x140 + 8 * i)) ∧
  h.fpctl = w 0x180 &&& 0x1F0F ∧ h.rseed = w 0x188 ∧ h.bshape = w 0x190 &&& 0x3FFF3FFF3FFF ∧ h.vtype = w 0x198 &&& 15 ∧
  h.cycle = w 0x1A0 ∧ h.instret = w 0x1A8 ∧ h.tscr0 = w 0x1B0 ∧ h.tscr1 = w 0x1B8 ∧ (∀ i < 8, h.perf[i]?.getD 0 = w (0x1C0 + 8 * i)) ∧
  (∀ n < 32, h.btag[n]? = some (vlen n, decide (frameWord s x (0x200 + 8 * n) / 2 ^ 63 = 1))) ∧
  h.stagDirty.toNat = frameWord s x 0x300 % 2 ^ 16 ∧ h.stagValid.toNat = frameWord s x 0x300 / 2 ^ 16 % 2 ^ 16 ∧
  h.rdesc = BitVec.ofNat 1024 (keptBits routingDescriptor ((List.range 16).map fun i => frameWord s x (0x400 + 8 * i) * 2 ^ (64 * i)).sum) ∧
  h.rnext = frameWord s x 0x480 ∧
  (∀ n, 1 ≤ n → n < 8 → h.offs[n]? = some (BitVec.ofNat 12 (frameWord s x (0x3000 + 8 * (n - 1))))) ∧
  (∀ n, 1 ≤ n → n < 8 → ∀ e < 8192,
    (h.masks[n]?.getD 0).getLsbD e = (frameByte s x (0x1000 + 1024 * (n - 1) + e / 64 * 8) (e / 8 % 8)).getLsbD (e % 8)) ∧
  (∀ i < 192, h.adj[i]?.getD 0 = w (0x3040 + 8 * i) &&& 0x1FF3FFF0FFF) ∧
  (∀ n < 16, h.streams[n]?.getD 0 = BitVec.ofNat 512 (keptBits streamRegister
    ((List.range 8).map fun i => frameWord s x (0x3800 + 64 * n + 8 * i) * 2 ^ (64 * i)).sum)) ∧
  (∀ c < 4, (h.chan[c]?.getD {}).shadow = BitVec.ofNat 1536 (keptBits copyDescriptor
    ((List.range 24).map fun i => frameWord s x (0xE000 + 2048 * c + 8 * i) * 2 ^ (64 * i)).sum)) ∧
  BankOfFrame s x 0x4000 h.bank0 ∧ BankOfFrame s x 0x9000 h.bank1 ∧
  (∀ n < 32, ∀ l < h.lanes, ∀ b < 256, mget h.bricks (8192 * n + 256 * l + b) =
    if b < vlen n then frameByte s x (0x40000 + 8192 * n + 256 * l) b else 0) ∧
  (∀ c < 16, ∀ l < h.lanes, ∀ b < 1024, mget h.scratch (16384 * l + 1024 * c + b) =
    if h.stagValid.getLsbD c then frameByte s x (0x80000 + 16384 * l + 1024 * c) b else 0) ∧
  (frameWord s x 0x500 % 2 = 0 → h.arrival = none) ∧
  (frameWord s x 0x500 % 2 = 1 → ∃ a, h.arrival = some a ∧ (a.done = true ↔ frameWord s x 0x500 / 2 % 2 = 1 ∨
    ∀ b ∈ s.barriers, b.scope = a.scope → b.inst = a.inst → b.id = a.id → h.ctxid ∉ b.arrived))

/-- What engines of a restored hart still have to do (R325). -/
def enginesOn (h : Hart) : List Instr :=
  ((List.range 4).filter fun c => (h.chan[c]?.getD {}).st == .running).map (Instr.copyComplete h.slot) ++
    match h.rop with
    | some r => if r.st = .running then [.routingOperationEnd h.slot] else []
    | none => []

/-! A save (R324). -/

/-- What a save writes stays inside its frame: tags, banks and frames of instructions have the sizes the machine gives them. -/
def FrameFits (s : State) : Prop :=
  let small (l : Option Lap) : Prop := ∀ f, l = some f → f.frame.length ≤ 16
  s.hart.lanes ≤ 32 ∧ (∀ n < 32, (s.hart.btag[n]?.getD (0, false)).1 ≤ 256) ∧ small s.hart.lap ∧
    s.hart.bank0.ents.length ≤ 4 ∧ s.hart.bank1.ents.length ≤ 4 ∧ small s.hart.bank0.lap ∧ small s.hart.bank1.lap

/-- Every unpublished byte of the hart reaches its home, outside the frame; the frame's pages stand where they are. -/
def Evictable (s : State) : Prop :=
  TakesBytes s (unpublished s) ∧ (∀ o < 2 ^ 20, homeAddr s (s.hart.frame.toNat + o) = s.hart.frame.toNat + o) ∧
    ∀ p ∈ unpublished s, homeAddr s p.2.pa < s.hart.frame.toNat ∨ s.hart.frame.toNat + 2 ^ 20 ≤ homeAddr s p.2.pa

/-- A trap bank in the frame from address `a` (R303, R319, R321). The places of the LAP continuation and of the words of an entry are the model's
(log 14). -/
def BankWritten (m : Memory) (a : Nat) (b : TrapBank) : Prop :=
  let w (o : Nat) : Word := BitVec.ofNat 64 (mgetN m (a + o) 8)
  (∀ i ∈ bankRegs, w (8 * i) = bankReg b i) ∧
  ∀ n e, b.ents[n]? = some e →
    w (0x1000 + 4096 * n) = e.cap.bshape ∧ w (0x1008 + 4096 * n) = e.cap.vtype ∧ w (0x1010 + 4096 * n) = e.cap.rseed ∧
    (∀ k < 192, w (0x1040 + 4096 * n + 8 * k) = e.cap.adj[k]?.getD 0) ∧
    (∀ k < 16, ∀ i < 8, mgetN m (a + 0x1800 + 4096 * n + 64 * k + 8 * i) 8 = (e.cap.streams[k]?.getD 0).toNat / 2 ^ (64 * i) % 2 ^ 64) ∧
    ∀ l < 8192, (mget m (a + 0x1C00 + 4096 * n + l / 8)).getLsbD (l % 8) = e.cap.mask.getLsbD l

/-- A copy channel in the frame from address `a` (R319); the places inside its area are the model's (log 14). -/
def ChannelWritten (m : Memory) (a : Nat) (c : Channel) : Prop :=
  (∀ i < 24, mgetN m (a + 8 * i) 8 = bitsAt c.shadow (64 * i) 64) ∧ mgetN m (a + 0xC0) 8 = c.next % 2 ^ 64 ∧ mgetN m (a + 0xC8) 8 = c.w % 2 ^ 64 ∧
    mgetN m (a + 0xD0) 8 % 2 ^ 8 = c.refusal % 2 ^ 8 ∧
    ∀ i q code, i < 64 → c.stats[i]? = some (q, code) → mgetN m (a + 0x100 + 8 * i) 8 = q % 2 ^ 56 * 2 ^ 8 + code % 2 ^ 8

/-- The frame that a save leaves in memory (R319 to R322): the control section, masks, tables, streams, trap banks and channels always; of a brick
register the bytes below its vlen, and of scratchpad the valid blocks, where they are dirty or the frame is not the one last restored; the matrix
state of the claimant. Other memory holds the evicted bytes (R53) and is otherwise as before. -/
def FrameWritten (s : State) (m : Memory) : Prop :=
  let h := s.hart
  let f := h.frame.toNat
  let d (o : Nat) : Nat := mgetN m (f + o) 8
  let w (o : Nat) : Word := BitVec.ofNat 64 (d o)
  let claimed := decide (s.core.claimant = some h.idx)
  let other := decide (h.restored ≠ some h.frame)
  (d 0 % 2 ^ 16 = 1 ∧ d 0 / 2 ^ 16 % 2 ^ 6 = h.lanes % 2 ^ 6 ∧ d 0 / 2 ^ 22 % 2 ^ 6 = h.psize % 2 ^ 6 ∧ d 0 / 2 ^ 28 % 4 = h.depth % 4 ∧
    d 0 / 2 ^ 32 % 2 = (if claimed then 1 else 0) ∧ d 0 / 2 ^ 33 % 2 = (if h.pinned then 1 else 0) ∧ d 0 / 2 ^ 34 % 2 = (if h.nh then 1 else 0) ∧
    d 0 / 2 ^ 35 % 2 = (if h.swap then 1 else 0) ∧ d 0 / 2 ^ 36 % 2 = if h.waiting then 1 else 0) ∧
  w 0x08 = h.ptroot ∧ w 0x10 = h.pc ∧ d 0x18 = h.ctxid.toNat ∧
  d 0x20 = h.deadline.toNat % 2 ^ 63 + (if h.lateEn then 2 ^ 63 else 0) ∧ d 0x28 = h.stamp % 2 ^ 64 ∧ d 0x30 = h.slot ∧ w 0x38 = h.tvec ∧
  (∀ i, 1 ≤ i → i < 32 → w (0x40 + 8 * i) = h.x[i]?.getD 0) ∧ (∀ i < 8, w (0x140 + 8 * i) = h.shadow[i]?.getD 0) ∧
  w 0x180 = h.fpctl ∧ w 0x188 = h.rseed ∧ w 0x190 = h.bshape ∧ w 0x198 = h.vtype ∧ w 0x1A0 = h.cycle ∧ w 0x1A8 = h.instret ∧
  w 0x1B0 = h.tscr0 ∧ w 0x1B8 = h.tscr1 ∧ (∀ i < 8, w (0x1C0 + 8 * i) = h.perf[i]?.getD 0) ∧
  (∀ n < 32, d (0x200 + 8 * n) = (h.btag[n]?.getD (0, false)).1) ∧ d 0x300 = h.stagValid.toNat * 2 ^ 16 ∧
  (∀ i < 16, d (0x400 + 8 * i) = bitsAt h.rdesc (64 * i) 64) ∧ d 0x480 = h.rnext % 2 ^ 64 ∧ (h.rop = none → d 0x488 = 0) ∧
  w 0x4C8 = h.slotN.value ∧ w 0x4D0 = h.slotN.addr ∧ w 0x4D8 = h.slotN.handler ∧ d 0x4E0 = (if h.slotN.armed then 1 else 0) ∧
  (h.arrival = none → d 0x500 = 0) ∧ (∀ o, 0x508 ≤ o → o < 0x1000 → mget m (f + o) = 0) ∧
  (∀ n, 1 ≤ n → n < 8 → ∀ e < 8192, (mget m (f + 0x1000 + 1024 * (n - 1) + e / 8)).getLsbD (e % 8) = (h.masks[n]?.getD 0).getLsbD e) ∧
  (∀ n, 1 ≤ n → n < 8 → d (0x3000 + 8 * (n - 1)) = (h.offs[n]?.getD 0).toNat) ∧ (∀ i < 192, w (0x3040 + 8 * i) = h.adj[i]?.getD 0) ∧
  (∀ n < 16, ∀ i < 8, d (0x3800 + 64 * n + 8 * i) = streamBits (h.streams[n]?.getD 0) (64 * i) 64) ∧
  BankWritten m (f + 0x4000) h.bank0 ∧ BankWritten m (f + 0x9000) h.bank1 ∧
  (∀ c < 4, ChannelWritten m (f + 0xE000 + 2048 * c) (h.chan[c]?.getD {})) ∧
  (∀ n < 32, ∀ l < h.lanes, ∀ b < 256,
    let t := h.btag[n]?.getD (0, false)
    let a := f + 0x40000 + 8192 * n + 256 * l + b
    mget m a = if (t.2 || other) = true ∧ b < t.1 then mget h.bricks (8192 * n + 256 * l + b) else mget s.memory a) ∧
  (∀ c < 16, ∀ l < h.lanes, ∀ b < 1024,
    let a := f + 0x80000 + 16384 * l + 1024 * c + b
    mget m a = if h.stagValid.getLsbD c = true ∧ (h.stagDirty.getLsbD c || other) = true then mget h.scratch (16384 * l + 1024 * c + b)
      else mget s.memory a) ∧
  (claimed = true →
    TileHolds (fun o => mget m (f + 0x10000 + o)) s.core.w0.code 0 (8 * (codeElem s.core.w0.code).width) { s.core.w0 with sparse := false } ∧
    TileHolds (fun o => mget m (f + 0x18000 + o)) s.core.w1.code 0 (8 * (codeElem s.core.w1.code).width) { s.core.w1 with sparse := false } ∧
    ∀ b < 65536, mget m (f + 0x20000 + b) = mget s.core.acc b) ∧
  (claimed = false → ∀ o, 0x10000 ≤ o → o < 0x40000 → mget m (f + o) = mget s.memory (f + o)) ∧
  (∀ p ∈ unpublished s, let a := homeAddr s p.2.pa
    mget m a = softly s a (mget s.memory a) p.2.val) ∧
  ∀ a, (a < f ∨ f + 2 ^ 20 ≤ a) → (∀ p ∈ unpublished s, homeAddr s p.2.pa ≠ a) → mget m a = mget s.memory a

/-- Weights and scales of the tiles lie in the widths of their formats, and are listed only where the formats have them. -/
def TilesFit (c : Core) : Prop := ∀ t, (t = c.w0 ∨ t = c.w1) → t.code < 32 ∧ (∀ k j, t.wt k j < 2 ^ (codeElem t.code).width) ∧
  ∀ b j, t.sc b j < 2 ^ scaleBits t.code

end Sys2Proof.Claims

/-- R8, R14, R70, R201, R319 to R323, R325, R340, R348: start and restore, by their results. A restored context whose packet was late while it was saved
is told; its die's near cache starts anew. Reserved bits of registers in a frame read 0 (log 73), the two low bits of the PC are dropped (log 21); the ranges that result 6 tests are log 81; of what the model keeps of a context beside its frame see log 14. -/
def Sys2Proof.Claims.ThreadsAreBoundToSlots : Prop :=
  (∀ (s : State) (die slot : Nat), 23 < die ∨ 511 < slot →
    exec (.start die slot) s = .next s ∧ exec (.restore die slot) s = .next s ∧ exec (.preEmpt die slot) s = .next s) ∧
  ∀ (s : State) (die slot k r : Nat), die ≤ 23 → slot ≤ 511 → OneEach s (bindCore die slot) →
    IndexIs s (bindCore die slot) (bindLane slot) k →
    let n := 512 * die + slot
    let x := tget s.slots n {}
    (ResultIs s die slot k false r → r ≠ 0 → exec (.start die slot) s = .next (resultOnly s n r)) ∧
    (ResultIs s die slot k false 0 → ∃ sl, BoundSlots s n sl ∧
      exec (.start die slot) s = .next { placed s n (startedHart s die slot k) with slots := sl }) ∧
    (ResultIs s die slot k true r → r ≠ 0 → exec (.restore die slot) s = .next (resultOnly s n r)) ∧
    (ResultIs s die slot k true 0 → s.memory.wf = true → frameWord s x 0 / 2 ^ 35 % 2 = 0 →
      let kept := s.saved.find? fun y => y.ctxid == BitVec.ofNat 32 (frameWord s x 0x18)
      (∀ y, kept = some y → y.inflight = []) →
      ∃ sl h t, BoundSlots s n sl ∧ HoldsFrame s die slot k h ∧ exec (.restore die slot) s = .next t ∧
        (kept = none → h.run = .running ∧ h.own = [] ∧ h.snap = [] ∧ h.joins = [] ∧ h.inflight = []) ∧
        (∀ y, kept = some y → h.own = y.own ∧ h.snap = y.snap ∧ h.joins = y.joins ∧ h.inflight = [] ∧
          h.run = if y.run = .saving true then .halted else .running) ∧
        (frameWord s x 0 / 2 ^ 32 % 2 = 1 → (coreAt t (bindCore die slot)).claimant = some k ∧
          (coreAt t (bindCore die slot)).lastAsid = some (h.ptroot.toNat % 2 ^ 16)) ∧
        (frameWord s x 0 / 2 ^ 32 % 2 = 0 → t.core = s.core ∧ t.otherCores = s.otherCores) ∧
        h.lateDue = kept.any Hart.lateDue ∧
        t = onDie { placed s n h with
          slots := sl, core := t.core, otherCores := t.otherCores, saved := s.saved.filter fun y => y.ctxid != h.ctxid
          agenda := s.agenda ++ enginesOn h ++ if h.lateDue then [.late n] else [] } die fun d => { d with near := [] })

/-- R53, R201, R319 to R324, R326, R340, R342, R348: pre-empt, and the save of the context of the hart in hand, into the frame that the record names when
pre-empt is written, with its event; an eviction that is served late is noted first. A pre-empt checks no field of its record (log 110). That a save
waits for the reply of an atomic is log 65; what the frame has no place for is kept beside it (log 14). -/
def Sys2Proof.Claims.ContextsAreSaved : Prop :=
  (∀ (s : State) (die slot : Nat), die ≤ 23 → slot ≤ 511 →
    let n := 512 * die + slot
    let x := tget s.slots n {}
    ((x.st ≠ 2 ∨ ∀ h ∈ s.hart :: s.others, h.run ≠ .idle → h.slot ≠ n) → exec (.preEmpt die slot) s = .next (resultOnly s n 7)) ∧
    (x.st = 2 → s.hart.run ≠ .idle → s.hart.slot = n → exec (.preEmpt die slot) s = .next { s with
      hart := { s.hart with run := .saving (decide (s.hart.run = .halted)), frame := x.frame }
      slots := tset s.slots n { x with result := 0, st := 3 }, agenda := s.agenda ++ [.contextSaved die slot] }) ∧
    ∀ h, x.st = 2 → h ∈ s.others → h.run ≠ .idle → h.slot = n → (s.hart :: s.others).Pairwise (fun g h => g.slot ≠ h.slot) →
      ∃ t, exec (.preEmpt die slot) s = .next t ∧ { h with run := .saving (decide (h.run = .halted)), frame := x.frame } ∈ t.others ∧ t.hart = s.hart ∧
        t.memory = s.memory ∧ t.slots = tset s.slots n { x with result := 0, st := 3 } ∧
        t.agenda = s.agenda ++ [.contextSaved die slot]) ∧
  ∀ (s : State) (die slot : Nat), die ≤ 23 → slot ≤ 511 → s.hart.slot = 512 * die + slot →
    let again (u : State) : State := { u with agenda := u.agenda ++ [.contextSaved die slot] }
    (s.hart.run = .running ∨ s.hart.run = .halted → exec (.contextSaved die slot) s = .next s) ∧
    ∀ b, s.hart.run = .saving b → s.hart.held = none →
      (∀ e es u, s.hart.inflight = e :: es → (∀ a b c d, decodeWord e.w1 ≠ .ok (.nlsend a b c d) ∧ decodeWord e.w1 ≠ .ok (.nlrecv a b c d)) →
        exec .elementGroupCommit s = .next u → u.hart.slot = s.hart.slot → exec (.contextSaved die slot) s = .next (again u)) ∧
      (s.hart.inflight = [] → ¬ Quiet s ∨ s.hart.request ≠ none ∨ .late s.hart.slot ∈ s.agenda → exec (.contextSaved die slot) s = .next (again s)) ∧
      ∀ u, ((s.hart.inflight = [] ∧ u = s) ∨ (∃ e, s.hart.inflight = [e] ∧ linkWaits s = true ∧ e.lap = none ∧
          u = { s with hart := { s.hart with pc := e.pc &&& ~~~3#64, waiting := true } })) →
        let late : Prop := ∃ p ∈ unpublished s, servedLate s s.hart.deadline (homeAddr s (homeAddr s p.2.pa / 128 * 128)) = true
        Quiet s → s.hart.request = none → .late s.hart.slot ∉ s.agenda → s.memory.wf = true → FrameFits s → TilesFit s.core → Evictable s →
        let own := s.hart.own.map fun p => (p.1, { p.2 with home := p.2.home || !p.2.pub })
        let bank := if s.hart.depth = 0 then s.hart.bank0 else if s.hart.depth = 1 then s.hart.bank1 else s.hart.bank2
        let f := s.hart.frame.toNat
        (late → ∃ t, exec (.contextSaved die slot) s = .next t ∧ BytesHome s (unpublished s) t.memory ∧ t.hart = { s.hart with own := own } ∧
          .late s.hart.slot ∈ t.agenda ∧ t.agenda.getLast? = some (.contextSaved die slot)) ∧
        (¬ late → ∃ t, exec (.contextSaved die slot) s = .next t ∧ FrameWritten u t.memory ∧
          ((∀ p ∈ unpublished s, paModule (homeAddr s p.2.pa / 128 * 128) = ownModule s) → t.ports = s.ports) ∧
          t = { withoutCopies u fun loc a => (unpublished s).any (fun p => p.1 == loc) || (decide (f ≤ a) && decide (a < f + 2 ^ 20)) with
            memory := t.memory, saved := { u.hart with own := own } :: s.saved.filter fun y => y.ctxid != s.hart.ctxid
            core := if s.core.claimant = some s.hart.idx then { s.core with claimant := none } else s.core
            events := s.events ++ [⟨[BitVec.ofNat 64 ((if s.hart.swap then 1 else 5) + s.hart.dieNo * 2 ^ 8 + s.hart.coreNo * 2 ^ 16 +
                s.hart.idx * 2 ^ 32),
              BitVec.ofNat 64 (s.hart.ctxid.toNat + s.hart.ptroot.toNat % 2 ^ 16 * 2 ^ 32), if s.hart.swap then bank.addr else s.hart.frame,
              if s.hart.swap then BitVec.ofNat 64 (bank.cause.toNat / 2 ^ 22 % 4) else BitVec.ofNat 64 s.hart.slot], some s.hart.slot⟩]
            agenda := s.agenda ++ [.eventRecordWrite], ports := t.ports
            hart := { u.hart with own := own, run := .idle } })

/-- R8, R14, R324, R325, R338 to R341: start, restore, pre-empt, save. The ranges of result 6 are log 81, the two low bits of the PC log 21, the
reserved bits of a frame log 73, what a frame has no place for log 14, that a save waits for a reply log 65, that a pre-empt checks no field log 110. -/
def Obligations.SlotCommands : Prop := ThreadsAreBoundToSlots ∧ ContextsAreSaved

namespace Sys2Proof.Claims

open Sys2Proof.Machine

/-! Packets (R346 to R348, R350, R351, R355 to R361, R374). -/

/-- Stamp `a` is earlier than stamp `b` (R346). -/
abbrev Earlier (a b : Nat) : Prop := 2 ^ 31 ≤ (a + 2 ^ 32 - b % 2 ^ 32) % 2 ^ 32

/-- A publication of another module that stalls at its home for a second shadow version, and the lines that it waits at (R61). -/
def stallsAt (s : State) (p : Packet) : List Nat :=
  match p.kind with
  | .write bs => if p.place < 384 then (linesAt s p.addr bs.length).filter (shadowBlocks s) else []
  | _ => []

/-- The packet that a place serves next among those of some kind (R347): no earlier stamp waits there, and no equal one that arrived before. -/
def NextAmong (s : State) (place : Nat) (p : Packet) (on : Packet → Prop) : Prop :=
  p.place = place ∧ on p ∧ ∃ as bs, s.packets = as ++ p :: bs ∧ (∀ u ∈ as, u.place = place → on u → Earlier p.stamp u.stamp) ∧
    ∀ u ∈ bs, u.place = place → on u → ¬ Earlier u.stamp p.stamp

/-- Others are served past a publication that stalls (R61, R347). -/
def ServedNext (s : State) (place : Nat) (p : Packet) : Prop := NextAmong s place p fun u => stallsAt s u = []

/-- The module, and whether a request id or an address is of it (R48, R374). -/
def moduleOf (s : State) : Nat := s.regs.modid % 4096

def OfModule (s : State) (id : Nat) : Prop := id / 2 ^ 27 = moduleOf s

def LocalTo (s : State) (pa : Nat) : Prop := pa / 2 ^ 44 % 4096 = moduleOf s

/-- The home slice of an address (R48), bytes of data of a request. -/
def sliceOf (pa : Nat) : Nat := pa % 2 ^ 44 / 4096 % 384

def dataOf : PacketKind → Nat
  | .read _ => 0
  | .write bs => bs.length
  | .atomic _ w _ _ => w
  | .parcel _ _ size _ _ => 65536 * size

/-- Flits of `n` bytes of data, in packets of at most 512 bytes behind headers of 16 bytes (R362). -/
def flitsFor (n : Nat) : Nat := n / 512 * 5 + if n ≠ 0 ∧ n % 512 = 0 then 0 else (16 + n % 512 + 111) / 112

def flitCount (k : PacketKind) : Nat := flitsFor (dataOf k)

/-- A packet leaves its queue; a packet enters the queue of its place, to be served in its turn. -/
def takenOut (s : State) (p : Packet) : State := { s with packets := s.packets.erase p }

def queued (s : State) (p : Packet) : State := { s with packets := s.packets ++ [p], agenda := s.agenda ++ [.packetService p.place] }

/-- A packet of the module that a home or switch serves after a deadline of its context (R348). -/
def IsLate (s : State) (p : Packet) : Prop := OfModule s p.id ∧ p.fromDeadline = true ∧ Earlier p.stamp (s.time.toNat / 256 % 2 ^ 32)

/-- The hart that a context is bound to, or the saved context. -/
def boundTo (s : State) (c : BitVec 32) : Option Hart := (s.hart :: s.others).find? fun h => decide (h.run ≠ .idle) && h.ctxid == c

def savedAs (s : State) (c : BitVec 32) : Option Hart := s.saved.find? fun h => h.ctxid == c

/-- A late packet has been noted (R348): for the hart of its context, or in counter 4 of the frame of a context that is saved (R320), which takes the trap
when it is restored. -/
def Noted (s t : State) (p : Packet) : Prop :=
  (¬ IsLate s p → t = s) ∧
  (∀ h, IsLate s p → boundTo s p.ctxid = some h → t = { s with agenda := s.agenda ++ [.late h.slot] }) ∧
  (IsLate s p → boundTo s p.ctxid = none → savedAs s p.ctxid = none → t = s) ∧
  ∀ h, IsLate s p → boundTo s p.ctxid = none → savedAs s p.ctxid = some h → let a := homeAddr s (h.frame.toNat + 0x1E0)
    ∃ m, m.wf = true ∧ mgetN m a 8 = (mgetN s.memory a 8 + 1) % 2 ^ 64 ∧ OnlyWrote s m a 8 ∧
      t = homePut { s with saved := s.saved.map fun x => if x.ctxid = h.ctxid then { x with lateDue := x.lateEn } else x } m a 8

/-- Memory after software has written bytes at a home (R3). -/
def SoftlyPut (s : State) (m : Memory) (a : Nat) (bs : List Byte) : Prop :=
  m.wf = true ∧ (∀ k < bs.length, mget m (a + k) = softly s (a + k) (mget s.memory (a + k)) (bs.getD k 0)) ∧ OnlyWrote s m a bs.length

/-- The hart that awaits a request, with what it awaits; no hart awaits it (R197, R346). -/
def Requester (s : State) (id : Nat) (h : Hart) (r : Awaiting) : Prop :=
  (s.hart :: s.others).find? (fun h => decide (h.run ≠ .idle) && h.request.any fun r => r.id == id) = some h ∧ h.request = some r ∧
    ∀ g ∈ s.hart :: s.others, g.slot = h.slot → g = h

def Unawaited (s : State) (id : Nat) : Prop := ∀ h ∈ s.hart :: s.others, h.run ≠ .idle → ∀ r, h.request = some r → r.id ≠ id

/-- The hart in hand no longer awaits its request. -/
def resumed (s : State) : State := { s with hart := { s.hart with request := none } }

/-- The combining slot whose request has an id (R357). -/
def combineOf (s : State) (id : Nat) : Option Combine := s.combines.find? fun c => c.sent == some id

/-- The hart that has sent a request for an element of a vector atomic has it answered (R197, R357); nothing changes where no hart has. -/
def ElementTold (s t : State) (id : Nat) (g : ElemRequest → ElemRequest) : Prop :=
  let sender := (s.hart :: s.others).find? fun h => decide (h.run ≠ .idle) && h.elems.any fun r => r.id == id
  (sender = none → t = s) ∧
  ∀ h, sender = some h → t = onSlot s h.slot fun u => { u with
    hart := { u.hart with elems := u.hart.elems.map fun r => if r.id = id then g r else r } }

/-- The slack of a stamp (R346): what is left of it, as a number of 32 bits with its sign. -/
def slackAt (s : State) (stamp : Nat) : Int := signedField 32 ((stamp + 2 ^ 32 - s.time.toNat / 256 % 2 ^ 32) % 2 ^ 32)

/-- The data that a reply carries. -/
def replyBytes : PacketKind → Nat
  | .read n => n
  | .write _ => 0
  | .atomic op n _ _ => if op = 1 ∨ op = 12 then 0 else n
  | .parcel _ _ _ _ _ => 0

/-- Another module is told what became of its request (R301, R346, R365, R373): a sub-cause, a value, or the address where to issue it again; with the
slack of its stamp, in flits that leave for it. -/
def toldOther (s : State) (p : Packet) (sub old : Nat) (again : Option Nat) : State :=
  sent { s with answers := tset s.answers p.id { sub, old, again, slack := slackAt s p.stamp } } (p.id / 2 ^ 27 * 2 ^ 44)
    (if sub = 0 ∧ again = none then replyBytes p.kind else 0)

/-- A reply has come for a request (R197, R358, R359, R374): a combined request is resolved for its parts, the atomic of the hart that awaits it
completes, an element of a vector atomic has its old value, another module has its answer; a reply that nothing awaits, or whose failure has been
reported, is discarded. -/
def Replied (s t : State) (p : Packet) (old : Nat) : Prop :=
  (∀ c, combineOf s p.id = some c → t = { s with agenda := s.agenda ++ [.combinedReply c.slot old] }) ∧
  (combineOf s p.id = none →
    (p.told = true → t = s) ∧
    (p.told = false → ¬ OfModule s p.id → t = toldOther s p 0 old none) ∧
    (p.told = false → OfModule s p.id →
      (∀ h r, Requester s p.id h r → h.lap = none → t = onSlot s h.slot fun u =>
        passed (acquired (atomicReturned (touch (resumed u) r.pa 1) r.op r.n r.d old) r.acq) 4) ∧
      (Unawaited s p.id → ElementTold s t p.id fun r => { r with old := some old })))

/-- An entry of the error queue of a context (R361). -/
def ErrorQueued (s t : State) (ctxid : BitVec 32) (kind cause sub len addr peer info : Nat) : Prop :=
  let ring := homeAddr s (moduleOf s * 2 ^ 44 + (s.regs.errb.toNat + 2048 * (ctxid.toNat % 65536)) % 2 ^ 44)
  let tail := mgetN s.memory ring 8
  let entry := ring + 32 + 32 * (tail % 63)
  ring % 2048 = 0 → t.memory.wf = true ∧
  if (tail + 2 ^ 64 - mgetN s.memory (ring + 8) 8) % 2 ^ 64 = 63 then
    mgetN t.memory (ring + 16) 8 = (mgetN s.memory (ring + 16) 8 + 1) % 2 ^ 64 ∧ OnlyWrote s t.memory (ring + 16) 8 ∧
    t = { homePut s t.memory (ring + 16) 8 with
      ringDropped := if ctxid.toNat ∈ s.ringDropped then s.ringDropped else ctxid.toNat :: s.ringDropped
      events := if ctxid.toNat ∈ s.ringDropped then s.events else s.events ++ [⟨[10, 0, BitVec.ofNat 64 ctxid.toNat, s.time], none⟩]
      agenda := if ctxid.toNat ∈ s.ringDropped then s.agenda else s.agenda ++ [.eventRecordWrite] }
  else
    mgetN t.memory entry 8 = addr % 2 ^ 64 ∧ mgetN t.memory (entry + 16) 8 = s.time.toNat ∧ mgetN t.memory (entry + 24) 8 = info % 2 ^ 64 ∧
    mgetN t.memory (entry + 8) 8 = len % 256 + cause % 256 * 2 ^ 8 + sub % 256 * 2 ^ 16 + kind % 256 * 2 ^ 24 + peer % 4096 * 2 ^ 32 ∧
    mgetN t.memory ring 8 = (tail + 1) % 2 ^ 64 ∧
    (∀ a, (a < ring ∨ ring + 8 ≤ a) → (a < entry ∨ entry + 32 ≤ a) → mget t.memory a = mget s.memory a) ∧
    t = { homePut (homePut s t.memory entry 32) t.memory ring 8 with ringDropped := s.ringDropped.filter fun c => c != ctxid.toNat }

/-- A failed request that is no combined one has been reported, once (R359 to R361): a hart that awaits it traps at its access, or has an entry of kind 2
for an atomic without return; an element of a vector atomic has its fault; a write, and an atomic without return, that no scalar form awaits have
an entry of kind 1 or 2, with the virtual address and the PC of the instruction; another module has its answer. -/
def FailureReported (s t : State) (p : Packet) (f : AccFault) : Prop :=
  let peer := p.addr / 2 ^ 44 % 4096
  (p.told = true → t = s) ∧
  (p.told = false → ¬ OfModule s p.id → t = toldOther s p f.sub 0 none) ∧
  (p.told = false → OfModule s p.id →
    (∀ h r, Requester s p.id h r → h.lap = none →
      (Returns r.op → h.held = none → h.depth < 2 →
        t = onSlot s h.slot fun u => trapped (resumed u) (accessTrap (resumed u) f (atomicAccess r.op) 0 r.va)) ∧
      (¬ Returns r.op → t = onSlot s h.slot fun u =>
        passed (acquired (errorEntry (resumed u) h.ctxid 2 f.cause f.sub r.n r.va (paModule r.pa) h.irPc.toNat) r.acq) 4)) ∧
    (Unawaited s p.id → ∃ u, ((∀ handle queue size asid image, p.kind ≠ .parcel handle queue size asid image) →
        ElementTold s u p.id fun r => { r with fail := some (f.cause, f.sub) }) ∧
      match p.kind with
      | .read _ => t = u
      | .write bs => ErrorQueued u t p.ctxid 1 f.cause f.sub bs.length p.va peer p.pc.toNat
      | .atomic op w _ _ => if op = 1 ∨ op = 12 then ErrorQueued u t p.ctxid 2 f.cause f.sub w p.va peer p.pc.toNat else t = u
      | .parcel handle _ _ _ _ => ((∀ x ∈ s.transit, x.handle ≠ handle) → t = s) ∧
          ∀ x, s.transit.find? (fun x => x.handle == handle) = some x → t = returnParcel s x f.sub))

/-- Failed requests reported one after another. -/
def AllReported (f : AccFault) : State → List Packet → State → Prop
  | s, [], t => t = s
  | s, p :: ps, t => ∃ u, FailureReported s u p f ∧ AllReported f u ps t

/-- A request has failed (R358, R360): every part of a combined one receives the failure. -/
def Failed (s t : State) (p : Packet) (f : AccFault) : Prop :=
  (combineOf s p.id = none → FailureReported s t p f) ∧
  ∀ c, combineOf s p.id = some c → (∀ q ∈ c.parts, combineOf s q.id = none) →
    AllReported f { s with combines := s.combines.filter fun x => x.slot != c.slot } c.parts t

/-- The failure of the fabric or of a home with a sub-cause (R301). -/
def fabricFailure (sub : Nat) : AccFault := { cause := 11, sub, data := true }

/-- Whether a request changes its home, is an add that may combine (R357), is an atomic. -/
def Changes (p : Packet) : Prop := ∀ n, p.kind ≠ .read n

def Adds (p : Packet) : Prop := ∃ op n v cmp, p.kind = .atomic op n v cmp ∧ (op = 1 ∨ op = 11)

def IsAtomic (p : Packet) : Prop := ∃ op n v cmp, p.kind = .atomic op n v cmp

/-- Bytes that a request reads at its home. -/
def readsOf : PacketKind → Nat
  | .read n => n
  | .atomic _ w _ _ => w
  | _ => 0

/-- What a request has done at its home (R3, R60, R63, R374): a write is a publication of its lines; `old` is the value that its reply carries; the reply
of an atomic is kept. -/
def Acted (s t : State) (p : Packet) (old : Nat) : Prop :=
  let a := homeAddr s p.addr
  match p.kind with
  | .read n => t = s ∧ old = mgetN s.memory a n
  | .write bs => old = 0 ∧ let u := stampLines s (linesAt s p.addr bs.length)
      ∃ m, SoftlyPut u m a bs ∧ t = homePut u m a bs.length
  | .atomic op n v cmp => old = mgetN s.memory a n ∧ ∃ m, SoftlyPut s m a (storedBytes n (atomicLeaves op n old v cmp)) ∧
      t = { homePut s m a n with replies := tset s.replies p.id ⟨a, old⟩ }
  | .parcel _ _ _ _ _ => t = s ∧ old = 0

/-- A parcel of another module has reached this one (R282, R284, R285): it is kept unconfirmed in memory of the pool with every byte, or refused with
the sub-cause of R284; its sender is told. -/
def ParcelReached (s t : State) (p : Packet) (handle queue size : Nat) (image : Memory) : Prop :=
  let n := 65536 * size
  (∀ a, image.wf = true → refusal s queue size = none → poolFree s n = some a →
    ∃ m, m.wf = true ∧ (∀ k < n, mget m (localPA s a + k) = mget image k) ∧
    OnlyWrote s m (localPA s a) n ∧
    t = toldOther { homePut s m (localPA s a) n with incoming := s.incoming ++ [⟨handle, queue, a, size⟩], pool := (a, n) :: s.pool } p 0 0 none) ∧
  (∀ sub, refusal s queue size = some sub → t = toldOther s p sub 0 none) ∧
  (refusal s queue size = none → poolFree s n = none → t = toldOther s p 8 0 none)

/-- The home of a request has served it (R63, R209, R283, R301, R332, R374): an atomic whose reply is kept has that reply and does not act again; a
request for the register window, one for a parcel that is sealed or in transit, and one that reads data which cannot be corrected, fail. -/
def HomeServed (s t : State) (p : Packet) : Prop :=
  let kept := s.replies.find? fun r => r.1 == p.id
  let fresh := IsAtomic p → kept = none
  let window := 0xF0000000000 ≤ p.addr % 2 ^ 44 ∧ p.addr % 2 ^ 44 < 0xF0040000000
  (∀ handle queue size asid image, p.kind = .parcel handle queue size asid image → ParcelReached s t p handle queue size image) ∧
  ((∀ handle queue size asid image, p.kind ≠ .parcel handle queue size asid image) →
    (∀ r, IsAtomic p → kept = some r → Replied s t p r.2.old) ∧
    (fresh → window → Failed s t p (fabricFailure 5)) ∧
    (fresh → ¬ window → inTransit s p.addr = true → Failed s t p (fabricFailure 2)) ∧
    (fresh → ¬ window → inTransit s p.addr = false → uncorrectable s p.addr (readsOf p.kind) = true →
      Failed (lastingError s p.addr (readsOf p.kind)) t p (badData s p.addr)) ∧
    (fresh → ¬ window → inTransit s p.addr = false → uncorrectable s p.addr (readsOf p.kind) = false →
      ∃ u old, Acted s u p old ∧ Replied u t p old))

/-- A request of this module has been issued again, to where its page is now, by the path that stands open to it (R355, R373, R374). -/
def Resent (s t : State) (p : Packet) : Prop :=
  let a := homeAddr s p.addr
  (LocalTo s a → t = queued s { p with addr := a, place := sliceOf a }) ∧
  (∀ w, ¬ LocalTo s a → unreachableFor s a (flitCount p.kind) = none → pathTo s (a / 2 ^ 44 % 4096) (flitCount p.kind) = some w →
    t = queued s { p with addr := a, port := w.port, hops := w.hops, place := 384 + w.port }) ∧
  ∀ sub, ¬ LocalTo s a → unreachableFor s a (flitCount p.kind) = some sub → Failed s t p (fabricFailure sub)

/-- A request that is no combined one has been refused without acting (R373, R374): its source issues it again, this module at once, another module at
the address that it is told. -/
def OneRefused (s t : State) (again : Nat) (p : Packet) : Prop :=
  (p.told = true → t = s) ∧ (p.told = false → OfModule s p.id → Resent s t p) ∧
    (p.told = false → ¬ OfModule s p.id → t = toldOther s p 0 0 (some again))

def AllRefused (again : Nat) : State → List Packet → State → Prop
  | s, [], t => t = s
  | s, p :: ps, t => ∃ u, OneRefused s u again p ∧ AllRefused again u ps t

/-- A request has been refused (R358, R373): every part of a combined one is. -/
def TurnedBack (s t : State) (again : Nat) (p : Packet) : Prop :=
  (combineOf s p.id = none → OneRefused s t again p) ∧
  ∀ c, combineOf s p.id = some c → (∀ q ∈ c.parts, combineOf s q.id = none) →
    AllRefused again { s with combines := s.combines.filter fun x => x.slot != c.slot } c.parts t

/-! Ports. -/

/-- A port, and the module with one port changed. -/
def portIn (s : State) (p : Nat) : Port := tget s.ports p {}

def portSet (s : State) (p : Nat) (x : Port) : State := { s with ports := tset s.ports p x }

/-- A link event is queued (R367). -/
def linkTold (s : State) (port kind laser : Nat) : State :=
  { s with
    events := s.events ++ [⟨[9, 0, BitVec.ofNat 64 (port + kind * 2 ^ 8 + laser * 2 ^ 16), (portIn s port).lmap], none⟩]
    agenda := s.agenda ++ [.eventRecordWrite] }

/-- A port has stopped (R366): what waits at its output is served next, and fails. -/
def portHalted (s : State) (p sub : Nat) : State :=
  let t := linkTold (portSet s p { portIn s p with state := 4, sub := sub }) p 6 0
  { t with agenda := t.agenda ++ [.packetService (384 + p)] }

/-- The counter of a port would be spent by `n` more flits, and no pending key is installed (R366). -/
def Spent (x : Port) (n : Nat) : Prop := x.txPend = none ∧ 2 ^ 96 - 1 ≤ x.txctr + n

/-- A port that has sent `n` new flits (R364, R365): those of the last packet stand in its replay buffer. -/
def flitsSent (x : Port) (n : Nat) : Port :=
  let k := min n 5
  { x with
    txctr := x.txctr + n, seq := (x.seq + n) % 4096, replay := x.replay ++ (List.range k).map fun i => ⟨(x.seq + (n - k) + i) % 4096, 1⟩ }

/-- What a switch output does with a packet that combines with nothing (R346, R355, R364 to R366): home here; or a spent counter stops the port; or it
leaves by the port, once the replay buffer of 2,048 flits has room for a packet, and comes to the first module of its path that is not there, else to
its home; or it stays first in its queue. The stamp that the next module makes of its slack is on a clock like this module's (log 98). -/
def Leaves (s t : State) (p q : Packet) : Prop :=
  let u := takenOut s p
  let n := flitCount p.kind
  let x := portIn s p.port
  let takes := x.state = 3 ∧ x.replay.length + min n 5 ≤ 2048
  (LocalTo s p.addr → ∃ v, Noted u v p ∧ t = queued v { q with place := sliceOf p.addr }) ∧
  (¬ LocalTo s p.addr → Spent x n → t = portHalted s p.port 3) ∧
  (¬ LocalTo s p.addr → ¬ Spent x n → takes → ∃ v, Noted u v p ∧ t = queued (portSet v p.port (flitsSent x n)) { q with
    stamp := p.stamp % 2 ^ 32, place := 1024 + (p.hops.find? fun m => s.lost.getLsbD m).getD (p.addr / 2 ^ 44 % 4096) }) ∧
  (¬ LocalTo s p.addr → ¬ Spent x n → ¬ takes → t = s)

/-! Combining (R357, R358). -/

/-- The add requests that a combining slot of a switch output holds, and how many an output holds. -/
def heldFor (s : State) (p : Packet) (n : Nat) : Option Combine :=
  s.combines.find? fun c => decide (c.slot / 256 = p.place ∧ c.addr = p.addr ∧ c.width = n ∧ c.sent = none)

def heldParts (s : State) (place : Nat) : Nat :=
  ((s.combines.filter fun c => decide (c.slot / 256 = place)).map fun c => c.parts.length).sum

/-- The value of an add. -/
def addend (p : Packet) : Nat := match p.kind with
  | .atomic _ _ v _ => v
  | _ => 0

/-- The request that stands for the parts of a slot: their sum, the earliest stamp, the path of the first part, a fresh id of the module and the port (R357,
R374). -/
def combinedRequest (s : State) (c : Combine) : Packet where
  id := 2 ^ 27 * moduleOf s + 2 ^ 20 * (c.slot / 256 - 384) + s.nextSeq % 2 ^ 20
  place := c.slot / 256
  port := c.slot / 256 - 384
  hops := (c.parts.head?.map Packet.hops).getD []
  kind := .atomic 1 c.width ((c.parts.map addend).sum % 2 ^ (8 * c.width)) 0
  addr := c.addr
  stamp := c.stamp
  va := 0
  pc := 0
  ctxid := 0
  fromDeadline := false

/-- The parts of a combined request have their replies, in arrival order: the old value plus the values of the parts before (R358). -/
def PartsReplied (n : Nat) : State → Nat → List Packet → State → Prop
  | s, _, [], t => t = s
  | s, old, p :: ps, t => ∃ u, Replied s u p old ∧ PartsReplied n u ((old + addend p) % 2 ^ (8 * n)) ps t

/-- Packets of a queue have failed one after another. -/
def QueueFailed (f : AccFault) : State → List Packet → State → Prop
  | s, [], t => t = s
  | s, p :: ps, t => ∃ u, Failed (takenOut s p) u p f ∧ QueueFailed f u ps t

/-! Moves of pages (R372, R373). -/

/-- The module's own frame number as a fabric frame number. -/
def ownFrame (s : State) (f : Nat) : Nat := (moduleOf s * 2 ^ 44 + f * 65536 % 2 ^ 44) / 65536

/-- A move that has ended with a status (R367). -/
def moveEndedWith (s : State) (slot : Nat) (m : Move) (st : Nat) : State :=
  { s with
    moves := tset s.moves slot { m with status := st }
    events := s.events ++ [⟨[13, 0, BitVec.ofNat 64 slot, BitVec.ofNat 64 st], none⟩], agenda := s.agenda ++ [.eventRecordWrite] }

/-- The layout tag of a frame of the fabric, in the table of its module (R315). -/
def tagBit (s : State) (frame : Nat) : Bool :=
  let fatb := (tablesOf s (frame / 2 ^ 28 % 4096)).fatb
  decide (fatb ≠ 0) && (mget s.memory (fatb.toNat + frame % 2 ^ 28 / 8)).getLsbD (frame % 8)

/-- A frame that no move may take (R372), and one that has moved twice in the last 1 ms (R373). -/
def NotMovable (s : State) (slot frame new : Nat) : Prop :=
  (s.regs.ppool.toNat ≤ frame * 65536 ∧ frame * 65536 < s.regs.ppool.toNat + s.regs.ppoolsz.toNat) ∨
    (∃ p ∈ s.moves, p.1 ≠ slot ∧ p.2.status = 1 ∧ p.2.source = frame) ∨ tagBit s (ownFrame s frame) ≠ tagBit s new

def MovedTwice (s : State) (frame : Nat) : Prop :=
  2 ≤ (s.moved.filter fun p => decide (p.1 = ownFrame s frame ∧ (s.time - p.2).toNat < 1000000)).length

/-- An address, and a line, of a page at its new place. -/
def pageTo (old new pa : Nat) : Nat := if pa / 65536 = old then new * 65536 + pa % 65536 else pa

def lineTo (old new l : Nat) : Nat := if l / 512 = old then new * 512 + l % 512 else l

/-- A hart whose writes to a page are at the new place (R324, R373). -/
def hartTo (old new : Nat) (h : Hart) : Hart :=
  { h with
    own := h.own.map fun p => (p.1, { p.2 with pa := pageTo old new p.2.pa })
    joins := h.joins.map fun j => { j with pa := pageTo old new j.pa }
    request := h.request.map fun r => { r with pa := pageTo old new r.pa } }

/-- What this module holds of a page at its new place, with another memory (R72, R324, R373, R374): versions, stamps, writers, replies, and the way there
from its old frame and from those it stood in before. -/
def repaged (s : State) (old new : Nat) (m : Memory) : State :=
  let near (d : Die) : Die := { d with near := d.near.map fun c => (c.1, { c.2 with pa := pageTo old new c.2.pa }) }
  { s with
    memory := m, die := near s.die, otherDies := s.otherDies.map fun p => (p.1, near p.2)
    hart := hartTo old new s.hart, others := s.others.map (hartTo old new), saved := s.saved.map (hartTo old new)
    linePubs := s.linePubs.map fun p => (lineTo old new p.1, p.2)
    shadows := s.shadows.map fun x => { x with line := lineTo old new x.line }
    replies := s.replies.map fun p => (p.1, { p.2 with addr := pageTo old new p.2.addr })
    moved := s.moved.map fun p => (if p.1 = old then new else p.1, p.2)
    posts := s.posts.map fun p => (pageTo old new p.1, p.2)
    forwards := tset ((s.forwards.filter fun p => p.1 != new).map fun p => (p.1, if p.2 = old then new else p.2)) old new }

/-- The page of frame `old` carried to frame `new` (R365, R373): its bytes leave in packets where the new home is another module. -/
def Carried (s t : State) (old new : Nat) : Prop :=
  t.memory.wf = true ∧
  (∀ k < 65536, mget t.memory (new * 65536 + k) = mget s.memory (old * 65536 + k)) ∧
  (∀ a, (a < new * 65536 ∨ new * 65536 + 65536 ≤ a) →
    (∀ i ∈ s.spill, a < localPA s (0x17FF4000000 + 192 * i) + 144 ∨ localPA s (0x17FF4000000 + 192 * i) + 152 ≤ a) →
    mget t.memory a = mget s.memory a) ∧
  (∀ i ∈ s.spill, readSpill t i = { readSpill s i with line := lineTo old new (readSpill s i).line }) ∧
  t = sent (repaged s old new t.memory) (new * 65536) 65536

/-- The new frame of a move lies apart from the spill area, whose entries are numbered below 1,048,576 (R318, R328). -/
def SpillApart (s : State) (new : Nat) : Prop :=
  (∀ i ∈ s.spill, i < 1048576) ∧ (localPA s (0x17FF4000000 + 192 * 1048576) ≤ new * 65536 ∨ new * 65536 + 65536 ≤ localPA s 0x17FF4000000)

/-! Counts of accesses (R317). -/

/-- The counter that a count of a frame and kind is for, and counter 3 of the frame for one of another module. -/
def countCell (s : State) (k : Nat) : Nat :=
  k / 4 / 2 ^ 28 % 4096 * 2 ^ 44 + ((tablesOf s (k / 4 / 2 ^ 28 % 4096)).hotb.toNat + 16 * (k / 4 % 2 ^ 28)) % 2 ^ 44 + 4 * (k % 4)

def remoteCell (s : State) (k : Nat) : Nat := countCell s (k / 4 * 4) + 12

def HasTable (s : State) (k : Nat) : Prop := (tablesOf s (k / 4 / 2 ^ 28 % 4096)).hotb ≠ 0

def CountedAt (s : State) (k a : Nat) : Prop :=
  HasTable s k ∧ (countCell s k = a ∨ (k / 4 / 2 ^ 28 % 4096 ≠ moduleOf s ∧ remoteCell s k = a))

/-- What the counts of a core add to a counter. -/
def addedAt (s : State) (hot : Table Nat) (a : Nat) : Nat :=
  (hot.map fun p => if (tablesOf s (p.1 / 4 / 2 ^ 28 % 4096)).hotb = 0 then 0 else
    (if countCell s p.1 = a then p.2 else 0) +
      if p.1 / 4 / 2 ^ 28 % 4096 ≠ moduleOf s ∧ remoteCell s p.1 = a then p.2 else 0).sum

end Sys2Proof.Claims

/-- R346 to R348, R355, R356, R361, R374: a new request carries the stamp and takes the port and the path of an earlier request of its context to the same
line that is still queued; with none, its stamp is the deadline in force, or TIME and 8 µs, 50 µs to another module. That it counts as stamped from a
context deadline by the deadline at its own issue is log 107. -/
def Sys2Proof.Claims.RequestsAreStamped : Prop :=
  ∀ (s : State) (kind : PacketKind) (va pa : Nat),
    let p := newRequest s kind va pa
    let before : Option Packet := (s.combines.flatMap Combine.parts ++ s.packets).find? fun q =>
      q.ctxid == s.hart.ctxid && q.addr / 128 == pa / 128 && q.id / 2 ^ 27 == moduleOf s
    let promised : Nat := if pa / 2 ^ 44 % 4096 = moduleOf s then 8000 else 50000
    p = { p with
      id := 2 ^ 27 * moduleOf s + 2 ^ 20 * p.port + s.nextSeq % 2 ^ 20, place := 512 + s.hart.dieNo, kind, addr := pa, va, pc := s.hart.irPc
      ctxid := s.hart.ctxid, fromDeadline := decide (s.hart.deadline ≠ 0), told := false } ∧
    (LocalTo s pa → p.port = 0 ∧ p.hops = []) ∧
    (∀ q, before = some q → p.stamp = q.stamp ∧ (¬ LocalTo s pa → p.port = q.port ∧ p.hops = q.hops)) ∧
    (before = none →
      (∀ w, ¬ LocalTo s pa → pathTo s (pa / 2 ^ 44 % 4096) (flitCount kind) = some w → p.port = w.port ∧ p.hops = w.hops) ∧
      p.stamp = (if s.hart.deadline ≠ 0 then s.hart.deadline.toNat else min (2 ^ 64 - 1) (s.time.toNat + promised)) / 256 % 2 ^ 32)

/-- R61, R283, R346 to R348, R355 to R357, R364 to R366, R373, R374: the service of a packet by a die egress port, a switch output, a home and the
fabric. That a packet in the fabric is served as its home there serves it is log 78. -/
def Sys2Proof.Claims.PacketsAreServed : Prop :=
  ∀ (s : State) (place : Nat), s.memory.wf = true →
    ((∀ p ∈ s.packets, p.place ≠ place) → exec (.packetService place) s = .next s) ∧
    (∀ p, (∀ u ∈ s.packets, u.place = place → stallsAt s u ≠ []) → NextAmong s place p (fun _ => True) → let w := waitAt s (stallsAt s p)
      exec (.packetService place) s = .next { w with agenda := w.agenda ++ [.packetService place] }) ∧
    ∀ p, ServedNext s place p →
      let u := takenOut s p
      let module := p.addr / 2 ^ 44 % 4096
      let waits := Changes p ∧ moving s p.addr = true
      (512 ≤ place → place < 1024 →
        (LocalTo s p.addr → exec (.packetService place) s = .next (queued u { p with place := sliceOf p.addr })) ∧
        (¬ LocalTo s p.addr → exec (.packetService place) s = .next (queued u { p with place := 384 + p.port }))) ∧
      (place < 384 →
        (waits → ∃ t, exec (.packetService place) s = .next t ∧ TurnedBack u t p.addr p) ∧
        (¬ waits → homeAddr s p.addr ≠ p.addr → ∃ t, exec (.packetService place) s = .next t ∧ TurnedBack u t (homeAddr s p.addr) p) ∧
        (¬ waits → homeAddr s p.addr = p.addr → ∃ t v, exec (.packetService place) s = .next t ∧ Noted u v p ∧ HomeServed v t p)) ∧
      (1024 ≤ place →
        (s.lost.getLsbD (place - 1024) = true → exec (.packetService place) s = .next s) ∧
        (s.lost.getLsbD (place - 1024) = false → place ≠ 1024 + module →
          exec (.packetService place) s = .next (queued u { p with place := 1024 + module })) ∧
        (s.lost.getLsbD (place - 1024) = false → place = 1024 + module →
          ∃ t v, exec (.packetService place) s = .next t ∧ Noted u v p ∧ HomeServed v t p)) ∧
      (384 ≤ place → place < 512 →
        let held (c : Combine) : Bool := c.slot / 256 == place && c.sent.isNone
        ((portIn s (place - 384)).state = 4 → ∃ t, exec (.packetService place) s = .next t ∧
          QueueFailed (fabricFailure 3) { s with combines := s.combines.filter fun c => !held c }
            ((s.combines.filter held).flatMap Combine.parts ++ s.packets.filter fun x => x.place == place) t) ∧
        ∀ q, (portIn s (place - 384)).state ≠ 4 →
          (p.fromDeadline = true ∧ ¬ Earlier p.stamp (s.time.toNat / 256 % 2 ^ 32) ∧ q = p ∨
            (p.fromDeadline = false ∨ Earlier p.stamp (s.time.toNat / 256 % 2 ^ 32)) ∧ q = { p with fromDeadline := false }) →
          let joins := Adds p ∧ heldParts s place < 256 ∧ ∀ c ∈ s.combines, c.sent = some p.id → c.slot / 256 ≠ place
          let free (i : Nat) : Prop := ∀ c ∈ s.combines, c.slot ≠ 256 * place + i
          (¬ joins ∨ (heldFor s p (dataOf p.kind) = none ∧ ∀ i < 256, ¬ free i) → ∃ t, exec (.packetService place) s = .next t ∧ Leaves s t p q) ∧
          (∀ c, joins → heldFor s p (dataOf p.kind) = some c → ∃ v, Noted u v p ∧
            exec (.packetService place) s = .next { v with combines := s.combines.map fun x => if x.slot = c.slot then
              { c with parts := c.parts ++ [q], stamp := if Earlier c.stamp p.stamp then c.stamp else p.stamp } else x }) ∧
          (∀ i, joins → heldFor s p (dataOf p.kind) = none → i < 256 → free i → (∀ j < i, ¬ free j) → ∃ v, Noted u v p ∧
            exec (.packetService place) s = .next { v with
              combines := s.combines ++ [⟨256 * place + i, p.addr, dataOf p.kind, [q], p.stamp, none⟩]
              agenda := v.agenda ++ [.combineHoldExpiry (256 * place + i)] }))

/-- R351, R357 to R361, R373, R374: refusals, replies kept, combined requests, failures by a deadline. -/
def Sys2Proof.Claims.RequestsAreAnsweredOrFail : Prop :=
  ∀ (s : State) (id slot : Nat), s.memory.wf = true →
    let inFabric (p : Packet) : Bool := p.id == id && decide (1024 ≤ p.place)
    let partOf : Option Packet := ((s.combines.filter fun c => c.sent.isSome).flatMap Combine.parts).find? fun p => p.id == id
    let sent_ (p : Packet) : Bool := p.id == id && (decide (p.place < 384) || decide (1024 ≤ p.place)) && decide (p.id / 2 ^ 27 = moduleOf s)
    let told (p : Packet) : Packet := if p.id = id then { p with told := true } else p
    (s.packets.find? sent_ = none → exec (.movedRefusal id) s = .next s) ∧
    (∀ p, s.packets.find? sent_ = some p →
      ∃ t, exec (.movedRefusal id) s = .next t ∧ TurnedBack (takenOut s p) t (homeAddr s p.addr) p) ∧
    exec (.replyCacheExpiry id) s = .next { s with replies := s.replies.filter fun r => r.1 != id } ∧
    ((∀ c ∈ s.combines, c.slot = slot → c.sent ≠ none) → exec (.combineHoldExpiry slot) s = .next s) ∧
    (∀ c, s.combines.find? (fun c => c.slot == slot && c.sent.isNone) = some c → let p := combinedRequest s c
      exec (.combineHoldExpiry slot) s = .next { s with
        nextSeq := s.nextSeq + 1, packets := p :: s.packets
        combines := s.combines.map fun x => if x.slot = slot then { x with sent := some p.id } else x
        agenda := s.agenda ++ [.packetService p.place] }) ∧
    (∀ old, (∀ c ∈ s.combines, c.slot = slot → c.sent = none) → exec (.combinedReply slot old) s = .next s) ∧
    (∀ c old, s.combines.find? (fun c => c.slot == slot && c.sent.isSome) = some c → ∃ t, exec (.combinedReply slot old) s = .next t ∧
      PartsReplied c.width { s with combines := s.combines.filter fun x => x.slot != slot } (old % 2 ^ (8 * c.width)) c.parts t) ∧
    ((∀ p ∈ s.packets, p.id = id → 384 ≤ p.place) → exec (.packageDeadline id) s = .next s) ∧
    (∀ p, s.packets.find? (fun p => p.id == id && decide (p.place < 384)) = some p →
      ∃ t, exec (.packageDeadline id) s = .next t ∧ Failed (takenOut s p) t p (fabricFailure 1)) ∧
    (s.packets.find? inFabric = none → partOf = none → exec (.fabricDeadline id) s = .next s) ∧
    (∀ p, s.packets.find? inFabric = none → partOf = some p →
      ∃ t, exec (.fabricDeadline id) s = .next t ∧
        FailureReported { s with combines := s.combines.map fun c => { c with parts := c.parts.map told } } t p (fabricFailure 1)) ∧
    ∀ p, s.packets.find? inFabric = some p → let acts := ∃ d, delayOf s p.addr = some d ∧ d.acts = true ∧ Changes p
      ∃ t v, exec (.fabricDeadline id) s = .next t ∧ (¬ acts → v = s) ∧ (acts → ∃ old, Acted s v p old) ∧
        Failed (takenOut v p) t p (fabricFailure 1)

/-- R315, R367, R372, R373: moves of pages and the bound on them. -/
def Sys2Proof.Claims.PagesMove : Prop :=
  (∀ (s : State) (slot frame : Nat),
    let m : Move := { tget s.moves slot {} with old := frame }
    (15 < slot → exec (.move slot frame) s = .next s) ∧
    (slot ≤ 15 → m.status = 1 ∨ m.status = 2 → exec (.move slot frame) s = .next { s with moves := tset s.moves slot m }) ∧
    (slot ≤ 15 → m.status ≠ 1 → m.status ≠ 2 →
      (NotMovable s slot frame m.new → exec (.move slot frame) s = .next (moveEndedWith s slot m 4)) ∧
      (¬ NotMovable s slot frame m.new → (∃ p ∈ s.pins, p.1 = frame) → exec (.move slot frame) s = .next (moveEndedWith s slot m 3)) ∧
      (¬ NotMovable s slot frame m.new → (∀ p ∈ s.pins, p.1 ≠ frame) → MovedTwice s frame →
        let t := moveEndedWith s slot m 3
        exec (.move slot frame) s = .next { t with
          pins := tset s.pins frame (s.time + 64000000), regs := { s.regs with fpincnt := s.regs.fpincnt + 1 }
          events := t.events ++ [⟨[12, 0, BitVec.ofNat 64 (frame * 65536), s.time + 64000000], none⟩]
          agenda := t.agenda ++ [.eventRecordWrite, .pinExpiry frame] }) ∧
      (¬ NotMovable s slot frame m.new → (∀ p ∈ s.pins, p.1 ≠ frame) → ¬ MovedTwice s frame →
        exec (.move slot frame) s = .next { s with
          moves := tset s.moves slot { m with status := 1, source := frame, target := m.new }, agenda := s.agenda ++ [.moveEnded slot] }))) ∧
  (∀ (s : State) (slot : Nat),
    let m := tget s.moves slot {}
    let old := ownFrame s m.source
    (m.status ≠ 1 → exec (.moveEnded slot) s = .next s) ∧
    (m.status = 1 → s.memory.wf = true → m.target < 2 ^ 40 → SpillApart s m.target → ∃ u, Carried s u old m.target ∧
      exec (.moveEnded slot) s = .next (moveEndedWith { u with moved := (m.target, s.time) :: u.moved } slot m 2)) ∧
    (m.status ≠ 2 → exec (.moveRelease slot) s = .next s) ∧
    (m.status = 2 → exec (.moveRelease slot) s = .next { s with
      forwards := s.forwards.filter (fun p => p.1 != old), moves := tset s.moves slot { m with status := 0 } })) ∧
  ∀ (s : State) (frame : Nat),
    ((∀ p ∈ s.pins, p.1 ≠ frame) → exec (.pinExpiry frame) s = .next s) ∧
    ∀ p, s.pins.find? (fun p => p.1 == frame) = some p →
      ((s.time - p.2).toNat < 2 ^ 63 → exec (.pinExpiry frame) s = .next { s with pins := s.pins.filter fun p => p.1 != frame }) ∧
      (2 ^ 63 ≤ (s.time - p.2).toNat → exec (.pinExpiry frame) s = .next { s with agenda := s.agenda ++ [.pinExpiry frame] })

/-- R3, R317, R332, R334: counts of accesses reach the hotness table of the module of each frame and are held there, those of another module in its
counter for remote accesses as well; memory written from outside the cores. That a table address of 0 names no table is the model's choice
(log 13). -/
def Sys2Proof.Claims.CountsAndHostWritesReachMemory : Prop :=
  (∀ (s : State) (c : Nat), s.memory.wf = true → (∀ m, (tablesOf s m).hotb.toNat % 4 = 0) →
    let hot := (coreAt s c).hot
    ∃ m, m.wf = true ∧
      (∀ a, (∃ p ∈ hot, CountedAt s p.1 a) → mgetN m a 4 = min (2 ^ 32 - 1) (mgetN s.memory a 4 + addedAt s hot a)) ∧
      (∀ b, (∀ p ∈ hot, ∀ a, CountedAt s p.1 a → b < a ∨ a + 4 ≤ b) → mget m b = mget s.memory b) ∧
      exec (.hotnessFlush c) s = .next (coreChanged { s with memory := m } c fun x => { x with hot := [] })) ∧
  ∀ (s : State) (addr len v : Nat), s.memory.wf = true →
    let window := 0xF0000000000 ≤ addr % 2 ^ 44 ∧ addr % 2 ^ 44 < 0xF0040000000
    let a := homeAddr s (localPA s addr)
    (window → exec (.hostWrite addr len v) s = .next s) ∧
    (¬ window → ∃ m, SoftlyPut s m a (storedBytes len v) ∧ exec (.hostWrite addr len v) s = .next (dropVersions (homePut s m a len) a len))

/-- R61, R346 to R348, R351, R355 to R361, R365, R373, R374: packets served, answered, refused, failed. Which requests stand as packets is log 65, how long they take
log 83, what a packet in the fabric meets log 78, the clocks of other modules log 98. -/
def Obligations.PacketsAndRequests : Prop := RequestsAreStamped ∧ PacketsAreServed ∧ RequestsAreAnsweredOrFail

/-- R317, R332, R334, R372, R373: moves of pages, counts of accesses, writes from outside. Moves refused at once and commands to busy slots are log
61, tables of other modules log 23, a table address of 0 log 13. -/
def Obligations.PagesAndCounts : Prop := PagesMove ∧ CountsAndHostWritesReachMemory
namespace Sys2Proof.Claims

open Sys2Proof.Machine

/-! Paths (R352, R353, R355). -/

/-- Coordinate `d` of a module id (R352). -/
def coordinate (m d : Nat) : Nat := m / 8 ^ d % 8

/-- The modules of the minimal path: the coordinates that differ are corrected in ascending order (R355). -/
def route (src dst : Nat) : List Nat :=
  ((List.range 4).filter fun d => coordinate src d != coordinate dst d).map fun d => dst % 8 ^ (d + 1) + src / 8 ^ (d + 1) * 8 ^ (d + 1)

/-- The ports that are UP to a neighbour, and the free ports that are UP and bound to a module (R352, R353). -/
def portsUp (s : State) (m : Nat) : List Nat := (List.range 112).filter fun p => portNeighbour (moduleOf s) p == m && decide ((portIn s p).state = 3)

def freeUp (s : State) (m : Nat) : List Nat :=
  ((List.range 16).map (112 + ·)).filter fun p => decide ((portIn s p).peer = m) && decide ((portIn s p).state = 3)

/-- Flits that wait for their first transmission at a port; the least-loaded of some ports, the first of equals (R355). -/
def waitingAt (s : State) (p : Nat) : Nat := ((s.packets.filter fun x => decide (x.place = 384 + p)).map fun x => flitCount x.kind).sum

def LeastLoaded (s : State) (ps : List Nat) (p : Nat) : Prop :=
  ∃ as bs, ps = as ++ p :: bs ∧ (∀ q ∈ as, waitingAt s p < waitingAt s q) ∧ ∀ q ∈ bs, waitingAt s p ≤ waitingAt s q

/-- A path by the least-loaded port of its first hop, and its product (q + f)·h. -/
def Way (s : State) (hops : List Nat) (w : Path) : Prop := w.hops = hops ∧ ∃ m rest, hops = m :: rest ∧ LeastLoaded s (portsUp s m) w.port

def product (s : State) (f : Nat) (w : Path) : Nat := (waitingAt s w.port + f) * w.hops.length

/-! Lanes and lasers (R354, R363, R364, R368 to R371). -/

/-- The wavelength code of lane `w` in a map, and its wavelength 9·fibre + λ. -/
def codeOf (m : Word) (w : Nat) : Nat := m.toNat / 2 ^ (4 * w) % 16

def waveOf (m : Word) (w : Nat) : Option Nat := if codeOf m w ≤ 8 then some (9 * (w / 8) + codeOf m w) else none

/-- A wavelength that can carry a lane; a lane that works; how many do (R363, R368, R371). -/
def Lit (x : Port) (wl : Nat) : Bool := x.locked.getLsbD wl && x.trained.getLsbD wl && !x.dark.getLsbD wl

def Works (x : Port) (w : Nat) : Bool := (waveOf x.lanes w).any (Lit x)

def workingLanes (x : Port) : Nat := ((List.range 16).filter (Works x)).length

/-- A port has stopped (R366): the requests that its output holds to combine and the packets that wait there have failed. -/
def Stopped (s t : State) (p : Nat) : Prop :=
  let u := portHalted s p 3
  let held (c : Combine) : Bool := c.slot / 256 == 384 + p && c.sent.isNone
  QueueFailed (fabricFailure 3) { u with combines := s.combines.filter fun c => !held c }
    ((s.combines.filter held).flatMap Combine.parts ++ s.packets.filter fun x => x.place == 384 + p) t

/-- A port that is UP goes on only with 8 lanes or more (R366). -/
def Checked (s t : State) (p : Nat) : Prop :=
  (((portIn s p).state ≠ 3 ∨ 8 ≤ workingLanes (portIn s p)) → t = s) ∧
    ((portIn s p).state = 3 → workingLanes (portIn s p) < 8 → Stopped s t p)

/-- A replay of every flit that is not acknowledged (R364): it spends counter values; a flit sent 8 times, or a spent counter without a
pending key, stops the port (R366). -/
def Replayed (s t : State) (p : Nat) : Prop :=
  let x := portIn s p
  let n := x.replay.length
  let ends := (∃ f ∈ x.replay, 8 ≤ f.sent) ∨ Spent x n
  (ends → Stopped s t p) ∧
    (¬ ends → t = portSet s p { x with txctr := x.txctr + n, replay := x.replay.map fun f => { f with sent := f.sent + 1 } })

/-- What waits at a port is served again. -/
def servedAgain (s : State) (p : Nat) : State :=
  { s with agenda := s.agenda ++ if s.packets.any fun x => x.place == 384 + p then [.packetService (384 + p)] else [] }

/-- The sender's side of a rekey (R365). -/
def flipped (x : Port) : Port :=
  match x.txPend with
  | some k => { x with txKey := k, txPend := none, keyIdx := 1 - x.keyIdx % 2, txctr := 0 }
  | none => x

/-- A lane map with lane `w` on another code. -/
def MapMoved (m m' : Word) (w code : Nat) : Prop := codeOf m' w = code % 16 ∧ ∀ v < 16, v ≠ w → codeOf m' v = codeOf m v

/-- Lane `w` of a port carried by another wavelength, or dropped: the other lanes stay (R368, R369). Lanes from 16 on are those of the receive
direction. -/
def LaneMoved (x y : Port) (w code : Nat) : Prop :=
  (w < 16 → MapMoved x.lmap y.lmap w code ∧ MapMoved x.lanes y.lanes w code ∧ y = { x with lmap := y.lmap, lanes := y.lanes }) ∧
    (16 ≤ w → MapMoved x.rxLanes y.rxLanes (w - 16) code ∧ y = { x with rxLanes := y.rxLanes })

/-- A port without the lanes whose wavelength is dark (R369). -/
def DarkDropped (x y : Port) : Prop :=
  (∀ w < 16, let dark := (waveOf x.lanes w).any fun wl => x.dark.getLsbD wl
    codeOf y.lanes w = (if dark then 15 else codeOf x.lanes w) ∧ codeOf y.lmap w = (if dark then 15 else codeOf x.lmap w)) ∧
  (∀ w < 16, codeOf y.rxLanes w = if (waveOf x.rxLanes w).any fun wl => x.rxDark.getLsbD wl then 15 else codeOf x.rxLanes w) ∧
  y = { x with lmap := y.lmap, lanes := y.lanes, rxLanes := y.rxLanes }

/-- Some lane rides a dark wavelength. -/
def SomeDark (x : Port) : Prop :=
  ∃ w < 16, (waveOf x.lanes w).any (fun wl => x.dark.getLsbD wl) = true ∨ (waveOf x.rxLanes w).any (fun wl => x.rxDark.getLsbD wl) = true

/-- Both ends have dropped the dark lanes at one flit boundary (R364, R366, R369): one replay, one event. -/
def Restriped (s t : State) (p : Nat) : Prop :=
  let x := portIn s p
  ∃ y, DarkDropped x y ∧
    (x.state ≠ 3 ∨ ¬ SomeDark x → t = portSet s p y) ∧
    (x.state = 3 → SomeDark x → workingLanes y < 8 → Stopped (portSet s p y) t p) ∧
    (x.state = 3 → SomeDark x → 8 ≤ workingLanes y → ∃ u, Replayed (portSet s p y) u p ∧
      ((portIn u p).state = 3 → t = linkTold u p 2 0) ∧ ((portIn u p).state ≠ 3 → t = u))

/-- A wavelength, 0 to 17 of the transmit fibres and 18 to 35 of the receive fibres, declared dark: one link-control flit is due for all (R369). -/
def darkened (s : State) (p wl : Nat) : State :=
  let x := portIn s p
  { portSet s p (if wl < 18 then { x with dark := x.dark ||| (1#18 <<< wl) } else { x with rxDark := x.rxDark ||| (1#18 <<< (wl - 18)) }) with
    agenda := if s.agenda.contains (.linkControlFlit p 32 15) then s.agenda else s.agenda ++ [.linkControlFlit p 32 15] }

/-- Lane `w` is the first that rides a wavelength, 0 to 17 of the transmit fibres and 18 to 35 of the receive fibres. -/
def rideOf (x : Port) (wl w : Nat) : Bool := if wl < 18 then waveOf x.lanes w == some wl else waveOf x.rxLanes w == some (wl - 18)

def Rides (x : Port) (wl w : Nat) : Prop := w < 16 ∧ rideOf x wl w = true ∧ ∀ v < w, rideOf x wl v = false

def NoLane (x : Port) (wl : Nat) : Prop := ∀ w < 16, rideOf x wl w = false

/-- The spare of the fibre of a wavelength can take a lane (R370); of a receive fibre this end knows only that it is not dark (log 114). -/
def SpareFree (x : Port) (wl : Nat) : Prop :=
  let spare := 9 * (wl / 9) + 8
  (wl < 18 → Lit x spare = true) ∧ (18 ≤ wl → x.rxDark.getLsbD (spare - 18) = false) ∧ NoLane x spare

/-- The lane that a wavelength's retraining moves, numbered as in `LaneMoved`. -/
def movedLane (wl w : Nat) : Nat := if wl < 18 then w else w + 16

/-- The retraining of a wavelength that a port holds. -/
def retraining (x : Port) (wl : Nat) : Option (Nat × Nat × Nat) := x.retrain.find? fun r => r.1 == wl

/-- A laser module changed (R368). -/
def laserSet (s : State) (l : Nat) (f : Laser → Laser) : State := { s with lasers := tset s.lasers l (f (tget s.lasers l {})) }

/-- The laser module that feeds a wavelength of a port; the wavelengths that a line of a module feeds (R354). -/
def feeds (port wl : Nat) : Nat := 4 * (port / 16) + if wl % 9 = 8 then (2 * port + wl / 9) % 4 else wl % 9 / 2

def fedWavelengths (l line : Nat) : List (Nat × Nat) :=
  ([0, 1, 2, 3].map fun i => 16 * (l / 4) + 4 * line + i).flatMap fun p => ((List.range 18).filter fun wl => feeds p wl == l).map fun wl => (p, wl)

/-- A port that has become UP (R371), a stopped one under its new keys with an empty replay buffer (R366). -/
def upUnder (x : Port) (tk rk : Nat) : Port :=
  let y := { x with state := 3, lanes := x.lmap, rxLanes := x.peerMap, upAsked := false }
  if x.state = 4 then { y with
    txKey := tk, txPend := none, keyIdx := 1 - x.keyIdx % 2, txctr := 0, rxKey := rk, rxPend := none
    rxIdx := 1 - x.rxIdx % 2, replay := [], expect := 0, acked := 0, seq := 0 }
  else y

/-- A port for which UP has been written comes UP once both ends hold the same lane map with at least 8 lanes that work (R366, R371). -/
def CameUp (s t : State) (port : Nat) : Prop :=
  let x := portIn s port
  let ready := x.upAsked = true ∧ x.peerMap = x.lmap ∧ 8 ≤ workingLanes { x with lanes := x.lmap }
  (¬ ready → t = s) ∧
    ∀ tk rk, ready → (x.state = 4 → x.txPend = some tk ∧ x.rxPend = some rk) → t = servedAgain (portSet s port (upUnder x tk rk)) port

/-- A link-control flit of this end has left: it takes a value of the counter (R365, R366), and no place in the replay buffer (log 114). -/
def FlitLeft (s t : State) (port : Nat) : Prop :=
  let x := portIn s port
  (x.state ≠ 3 → t = s) ∧ (x.state = 3 → Spent x 1 → Stopped s t port) ∧
    (x.state = 3 → ¬ Spent x 1 → t = portSet s port { x with txctr := x.txctr + 1 })

end Sys2Proof.Claims

/-- R352, R353, R355, R366, R381: which neighbour a port joins, the path that a packet takes, why a module is not reached. That a free port that
is bound to the module goes before the other paths is log 78, the draw of the intermediate module log 84. -/
def Sys2Proof.Claims.PathsAreChosen : Prop :=
  (∀ m p d, m < 4096 → p < 112 → d < 4 →
    portNeighbour m p < 4096 ∧ coordinate (portNeighbour m p) d = if d = p / 28 then (coordinate m d + 1 + p % 28 / 4) % 8 else coordinate m d) ∧
  (∀ (s : State) (dst i : Nat), intermediate s dst = some i → i < 4096 ∧ s.membership.getLsbD i = true ∧ i ≠ moduleOf s ∧ i ≠ dst) ∧
  (∀ (s : State) (dst f : Nat), dst < 4096 → dst ≠ moduleOf s →
    let direct := route (moduleOf s) dst
    let by_ (i : Nat) := route (moduleOf s) i ++ route i dst
    (∀ p, LeastLoaded s (freeUp s dst) p → pathTo s dst f = some ⟨p, [dst]⟩) ∧
    (freeUp s dst = [] →
      (∀ w, Way s direct w → (∀ i v, intermediate s dst = some i → Way s (by_ i) v → product s f w ≤ product s f v) →
        pathTo s dst f = some w) ∧
      (∀ i v, intermediate s dst = some i → Way s (by_ i) v → (∀ w, Way s direct w → product s f v < product s f w) →
        pathTo s dst f = some v) ∧
      ((∀ w, ¬ Way s direct w) → (∀ i v, intermediate s dst = some i → ¬ Way s (by_ i) v) → pathTo s dst f = none))) ∧
  ∀ (s : State) (pa f : Nat), let m := pa / 2 ^ 44 % 4096
    (m = moduleOf s → unreachableFor s pa f = none) ∧
    (m ≠ moduleOf s → s.membership.getLsbD m = false → unreachableFor s pa f = some 4) ∧
    (m ≠ moduleOf s → s.membership.getLsbD m = true →
      (pathTo s m f = none → unreachableFor s pa f = some 3) ∧
      ∀ w, pathTo s m f = some w → ((∃ x ∈ w.hops, s.lost.getLsbD x = true) → unreachableFor s pa f = some 1) ∧
        ((∀ x ∈ w.hops, s.lost.getLsbD x = false) →
          (Spent (portIn s w.port) f → unreachableFor s pa f = some 3) ∧ (¬ Spent (portIn s w.port) f → unreachableFor s pa f = none)))

/-- R362 to R366: flits, acknowledgements, replay, keys. -/
def Sys2Proof.Claims.FlitsAreTakenInOrder : Prop :=
  ∀ (s : State) (port : Nat), let x := portIn s port
    (∀ seq ack idx ok, x.state ≠ 3 ∨ ok = 0 ∨ seq ≠ x.expect ∨ (idx ≠ x.rxIdx ∧ x.rxPend = none) →
      exec (.flitReceive port seq ack idx ok) s = .next s) ∧
    (∀ ack idx ok key, x.state = 3 → ok ≠ 0 → (idx = x.rxIdx ∧ key = x.rxKey ∨ idx ≠ x.rxIdx ∧ x.rxPend = some key) →
      exec (.flitReceive port x.expect ack idx ok) s = .next (servedAgain (portSet s port { x with
        rxKey := key, rxIdx := idx, rxPend := if idx = x.rxIdx then x.rxPend else none, expect := (x.expect + 1) % 4096
        acked := ack % 4096, replay := x.replay.filter fun f => decide (2048 ≤ (ack + 4096 - f.seq % 4096) % 4096) }) port)) ∧
    (x.state ≠ 3 → exec (.replayTimeout port) s = .next s) ∧
    (x.state = 3 → ∃ t, exec (.replayTimeout port) s = .next t ∧ Replayed s t port) ∧
    (∀ key, 127 < port → exec (.rekey port) s = .next s ∧ exec (.txkey port key) s = .next s ∧ exec (.rxkey port key) s = .next s) ∧
    (port ≤ 127 → exec (.rekey port) s = .next (portSet s port (flipped x)) ∧
      ∀ key, exec (.txkey port key) s = .next (portSet s port { x with txPend := some (key % 2 ^ 256) }) ∧
        exec (.rxkey port key) s = .next (portSet s port { x with rxPend := some (key % 2 ^ 256) }))

/-- R353, R366, R371: bring-up, restart under new keys, the peer of a port. UP that is written while the two ends hold different lane maps waits
until they hold the same (log 60). -/
def Sys2Proof.Claims.PortsComeUp : Prop :=
  ∀ (s : State) (port v : Nat), let x := portIn s port
    let agree := x.peerMap = x.lmap ∧ 8 ≤ workingLanes { x with lanes := x.lmap }
    (127 < port → exec (.linkLock port) s = .next s ∧ exec (.linkTrain port) s = .next s ∧ exec (.linkUp port) s = .next s) ∧
    (port ≤ 127 → exec (.linkLock port) s = .next (portSet s port { x with state := if x.state = 4 then 4 else 1, upAsked := false }) ∧
      exec (.linkTrain port) s = .next (portSet s port { x with state := if x.state = 4 then 4 else 2, upAsked := false })) ∧
    (x.state = 1 ∨ x.state = 4 → ∃ t, exec (.lockDone port v) s = .next t ∧ CameUp (portSet s port { x with locked := BitVec.ofNat 18 v }) t port) ∧
    (x.state ≠ 1 → x.state ≠ 4 → exec (.lockDone port v) s = .next s) ∧
    (x.state = 2 ∨ x.state = 4 →
      ∃ t, exec (.trainDone port v) s = .next t ∧ CameUp (portSet s port { x with trained := BitVec.ofNat 18 v }) t port) ∧
    (x.state ≠ 2 → x.state ≠ 4 → exec (.trainDone port v) s = .next s) ∧
    (port ≤ 127 → x.state = 3 → exec (.linkUp port) s = .next s) ∧
    (port ≤ 127 → x.state = 4 → x.txPend = none ∨ x.rxPend = none → exec (.linkUp port) s = .next s) ∧
    (port ≤ 127 → x.state ≠ 3 → ∀ tk rk, (x.state = 4 → x.txPend = some tk ∧ x.rxPend = some rk) →
      (¬ agree → exec (.linkUp port) s = .next (portSet s port { x with upAsked := true })) ∧
      (agree → exec (.linkUp port) s = .next (servedAgain (portSet s port (upUnder x tk rk)) port))) ∧
    (port ≤ 127 → exec (.freePortPeer port v) s = .next (portSet s port { x with peer := v % 4096 })) ∧
    (127 < port → exec (.freePortPeer port v) s = .next s)

/-- R354, R364 to R366, R368 to R371: lanes that move, darken, are retrained; lasers. That a link-control flit names every dark lane as lane 32, and
lanes of the receive direction from 16 on, that line j of laser module l is numbered 4l + j, and that lines lost together are one loss of their module is
log 60; that a link-control flit stands in no replay buffer, and what is known of the spare of a receive fibre, log 114. -/
def Obligations.LanesMoveAndDrop : Prop :=
  ∀ (s : State) (port : Nat), let x := portIn s port
    (port ≤ 127 → let y := portSet s port { x with lanes := x.lmap }
      ∃ t u, exec (.relane port) s = .next t ∧ (x.state ≠ 3 → u = y) ∧ (x.state = 3 → Replayed y u port) ∧
        Checked (linkTold u port 7 0) t port) ∧
    (127 < port → exec (.relane port) s = .next s ∧ ∀ a b, exec (.linkControlFlit port a b) s = .next s ∧
      exec (.wavelengthDark port a) s = .next s ∧ exec (.lightReturn port a) s = .next s) ∧
    (∀ lane wl, 32 < lane → exec (.linkControlFlit port lane wl) s = .next s) ∧
    (∀ wl, port ≤ 127 → ∃ t v, FlitLeft s v port ∧ exec (.linkControlFlit port 32 wl) s = .next t ∧ Restriped v t port) ∧
    (∀ lane wl, port ≤ 127 → lane < 32 → ∃ y t v, FlitLeft s v port ∧ LaneMoved (portIn v port) y lane wl ∧
      exec (.linkControlFlit port lane wl) s = .next t ∧ Checked (portSet v port y) t port) ∧
    (∀ wl, port ≤ 127 → wl ≤ 35 → exec (.wavelengthDark port wl) s = .next (darkened s port wl)) ∧
    (∀ wl, 35 < wl → exec (.wavelengthDark port wl) s = .next s ∧ exec (.lightReturn port wl) s = .next s) ∧
    (∀ wl n, (x.state ≠ 3 ∨ n ≤ s.regs.rthr.toNat ∨ retraining x wl ≠ none ∨ 35 < wl ∨ NoLane x wl) →
      exec (.retrainWindow port wl n) s = .next s) ∧
    (∀ wl n w, x.state = 3 → s.regs.rthr.toNat < n → retraining x wl = none → wl ≤ 35 → Rides x wl w →
      ∃ y t code, (SpareFree x wl → code = 8) ∧ (¬ SpareFree x wl → code = 15) ∧ LaneMoved x y (movedLane wl w) code ∧
        exec (.retrainWindow port wl n) s = .next t ∧
        Checked (linkTold (portSet s port { y with retrain := x.retrain ++ [(wl, w, 0)] }) port 3 0) t port) ∧
    (∀ wl ok, retraining x wl = none → exec (.retrainAttemptEnd port wl ok) s = .next s) ∧
    (∀ wl ok w n, retraining x wl = some (wl, w, n) →
      let left := x.retrain.filter fun r => r.1 != wl
      (ok ≠ 0 → w < 16 → ∃ y, LaneMoved x y (movedLane wl w) (wl % 9) ∧
        exec (.retrainAttemptEnd port wl ok) s = .next (linkTold (portSet s port { y with retrain := left }) port 4 0)) ∧
      (ok = 0 → 2 ≤ n → exec (.retrainAttemptEnd port wl ok) s = .next (linkTold (portSet s port { x with retrain := left }) port 5 0)) ∧
      (ok = 0 → n < 2 → exec (.retrainAttemptEnd port wl ok) s = .next (portSet s port { x with
        retrain := x.retrain.map fun r => if r.1 = wl then (wl, w, n + 1) else r }))) ∧
    (∀ wl, port ≤ 127 → wl ≤ 17 → let line := port % 16 / 4
      ∃ t, exec (.lightReturn port wl) s = .next t ∧
        CameUp (laserSet (portSet s port { x with dark := x.dark &&& ~~~(1#18 <<< wl) }) (feeds port wl) fun l =>
          { l with power := if l.en then l.power ||| (1#4 <<< line) else l.power, lost := l.lost &&& ~~~(1#4 <<< line) }) t port) ∧
    (∀ wl, port ≤ 127 → 17 < wl → wl ≤ 35 →
      exec (.lightReturn port wl) s = .next (portSet s port { x with rxDark := x.rxDark &&& ~~~(1#18 <<< (wl - 18)) })) ∧
    (∀ l en, l ≤ 31 → exec (.laserEnable l en) s = .next (laserSet s l fun y => { y with
        en := decide (en % 2 = 1), power := if en % 2 = 1 then y.power else 0 })) ∧
    (∀ l line, l ≤ 31 → line ≤ 3 →
      let due := ∃ j < 4, (tget s.lasers l {}).lost.getLsbD j = true ∧ ∃ f ∈ fedWavelengths l j, .linkControlFlit f.1 32 15 ∈ s.agenda
      let u := laserSet s l fun y => { y with power := y.power &&& ~~~(1#4 <<< line), lost := y.lost ||| (1#4 <<< line) }
      let dark (u : State) : State := (fedWavelengths l line).foldl (fun u f => darkened u f.1 f.2) u
      (due → exec (.laserLineLost (4 * l + line)) s = .next (dark u)) ∧
      (¬ due → exec (.laserLineLost (4 * l + line)) s = .next (dark (linkTold u 0 1 l)))) ∧
    ∀ l en, (31 < l → exec (.laserEnable l en) s = .next s) ∧ (127 < l → exec (.laserLineLost l) s = .next s)

/-- R352, R353, R355, R362 to R366, R371: paths, flits, keys, bring-up. That a free port bound to the module goes before other paths is log 78, the
intermediate module log 84, a path without a port that is UP log 102, a stopped port that is brought up log 59, its sequence numbers log 111, the lane
map of the other end log 60. -/
def Obligations.PortsAndFlits : Prop := PathsAreChosen ∧ FlitsAreTakenInOrder ∧ PortsComeUp
namespace Sys2Proof.Claims

open Sys2Proof.Machine

/-! Power, start, test port, attestation (R343, R377 to R392). -/

/-- The caps of the row of the table of R379 that a limit reaches, or of the row below it. -/
def capsOf (plim : Nat) (below : Bool) : Nat × Nat :=
  let row := if 9600 ≤ plim then 0 else if 8400 ≤ plim then 1 else if 7200 ≤ plim then 2 else if 6000 ≤ plim then 3 else 4
  ([(8192, 2), (4096, 2), (2048, 1), (1024, 0), (512, 0)][min 4 (if below then row + 1 else row)]?).getD (512, 0)

/-- The write of the caps of a core that the firmware makes. -/
def capWrite (r : Regs) (core : Nat) : Instr :=
  let c := capsOf r.plim (r.throt.getLsbD (core % 48 / 8 + 6 * (core / 48 / 8)))
  .powerCap core (c.1 + c.2 * 2 ^ 16)

/-- The cores of a die (R40). -/
def coresOf (d : Nat) : List Nat := (List.range 64).map fun c => 8 * (d % 6) + c % 8 + 48 * (8 * (d / 6) + c / 8)

/-- A die temperature, signed, in 1/16 degree; one that no other exceeds. -/
def degrees (r : Regs) (d : Nat) : Int := signedField 16 (r.temps[d]?.getD 0 % 2 ^ 16)

def Highest (r : Regs) (t : Int) : Prop := (∃ d < 24, t = degrees r d) ∧ ∀ d < 24, degrees r d ≤ t

/-- THROT changed, the new caps of the die to be written, the thermal event queued (R379, R387). -/
def Throttled (s t : State) (die : Nat) (throt : BitVec 24) : Prop :=
  ∃ h, Highest s.regs h ∧
    let r := { s.regs with throt := throt }
    t = { s with
      regs := r, agenda := s.agenda ++ (coresOf die).map (capWrite r) ++ [.eventRecordWrite]
      events := s.events ++ [⟨[17, 0, BitVec.ofNat 64 throt.toNat, asWord h], none⟩] }

/-- Of some dies, each that reads 105 °C or more is throttled (R379). -/
def HotDies : List Nat → State → State → Prop
  | [], s, t => t = s
  | d :: ds, s, t => ∃ u, (105 * 16 ≤ degrees s.regs d ∧ s.regs.throt.getLsbD d = false → Throttled s u d (s.regs.throt ||| (1#24 <<< d))) ∧
      (degrees s.regs d < 105 * 16 ∨ s.regs.throt.getLsbD d = true → u = s) ∧ HotDies ds u t

/-- A module without power: only the retirement log, the image in flash and what is fused outlast it (R380, R390); other modules and the outside
world are as they were. -/
def unpowered (s : State) : State :=
  { State.reset with
    power := .off, turns := s.turns, tick := s.tick, lost := s.lost, peers := s.peers, delays := s.delays
    memory := s.memory.filter fun c => decide (c.1 / 2 ^ 44 % 4096 ≠ moduleOf s)
    regs := { rlog := s.regs.rlog, rollback := s.regs.rollback, serial := s.regs.serial, flash := s.regs.flash, fusedKey := s.regs.fusedKey
              booted := false } }

/-- Physical lane `p` mapped out: onto a spare lane of the core, else retired (R43, R386). -/
def mappedOut (p : Nat) (m : Vector (BitVec 8) 34) : Vector (BitVec 8) 34 :=
  let e := m[p]?.getD 0
  let spare := (List.range 34).find? fun q => q != p && (m[q]?.getD 0).toNat / 64 == 1
  match spare with
  | some q => if e.toNat / 64 = 0 then (m.setIfInBounds q e).setIfInBounds p 0x80 else m.setIfInBounds p 0x80
  | none => m.setIfInBounds p 0x80

/-- Lane entries of the retirement log: the core and the lane; the module with the log applied. -/
def laneEntries (s : State) : List (Nat × Nat) :=
  (s.regs.rlog.filter fun e => decide (e.toNat < 2 ^ 63)).map fun e => (e.toNat / 2 ^ 8 % 2 ^ 16, e.toNat % 2 ^ 8)

def retired (s : State) : State :=
  (laneEntries s).foldl (fun t e => coreChanged t e.1 fun c => { c with lanemap := mappedOut e.2 c.lanemap }) s

/-- Logical lanes of the cores of the log that no lane gives (R378, R386). -/
def lanesGone (s : State) : Nat := (((laneEntries s).map Prod.fst).dedup.map fun c => 32 - liveLanes (coreAt s c) 0 32).sum

/-- The bytes that an attestation report signs (R391). -/
def reportBytes (r : Regs) (nonce : Nat) : List Byte :=
  storedBytes 2 r.modid ++ storedBytes 6 r.serial.toNat ++ storedBytes 2 r.fwVersion ++ storedBytes 2 r.rollback ++
    storedBytes 32 r.fwDigest.toNat ++ storedBytes 32 (Config.logDigest r.rlogBoot).toNat ++ storedBytes 32 nonce

/-! Errors and retirement (R383 to R387). -/

/-- An event of the module is queued (R342, R367, R387). -/
def told (s : State) (type : Nat) (p0 p1 : Word) : State :=
  { s with events := s.events ++ [⟨[BitVec.ofNat 64 type, 0, p0, p1], none⟩], agenda := s.agenda ++ [.eventRecordWrite] }

/-- A lasting error of a location has been counted and reported, at most once in any 1 ms (R384). -/
def lastingCounted (s : State) (key : Nat) (p0 p1 : Word) : State :=
  if s.lasting.any fun p => p.1 == key && decide ((s.time - p.2).toNat < 1000000) then s
  else told { s with lasting := tset s.lasting key s.time, regs := { s.regs with last := s.regs.last + 1 } } 14 p0 p1

/-- The retirement log takes an entry that it does not list, while it holds fewer than 256 (R386). -/
def LogTakes (s : State) (e : Word) : Prop := e ∉ s.regs.rlog ∧ s.regs.rlog.length < 256

/-- A frame has been retired (R386, R387). -/
def FrameRetired (s t : State) (f : Nat) : Prop :=
  let e : Word := BitVec.ofNat 64 (2 ^ 63 + f)
  (¬ LogTakes s e → t = s) ∧
  (LogTakes s e → t = told { s with regs := { s.regs with rlog := s.regs.rlog ++ [e], pret := s.regs.pret + 1 } } 16
    (BitVec.ofNat 64 (65536 * f)) (BitVec.ofNat 64 (s.regs.pret + 1)))

/-- A lane of the log is out of use, or a thread is bound to the partition that holds it (R44). -/
def laneIsOut (s : State) (e : Nat × Nat) : Bool := decide (((coreAt s e.1).lanemap[e.2]?.getD 0).toNat / 64 = 2)

def laneIsBound (s : State) (e : Nat × Nat) : Bool :=
  let x := ((coreAt s e.1).lanemap[e.2]?.getD 0).toNat
  decide (x / 64 = 0) && (s.hart :: s.others).any fun h =>
    decide (h.run ≠ .idle ∧ h.coreNo = e.1 ∧ h.lbase ≤ x % 64 ∧ x % 64 < h.lbase + h.psize)

/-- The lanes of the log that can be taken out of use now have been (R386, R387). -/
def lanesSettled (s : State) : State :=
  (laneEntries s).foldl (fun t e =>
    if laneIsOut t e || laneIsBound t e then t
    else
      let u := coreChanged t e.1 fun c => { c with lanemap := mappedOut e.2 c.lanemap }
      told { u with regs := { u.regs with lret := lanesGone u } } 15 (BitVec.ofNat 64 e.1) (BitVec.ofNat 64 (e.2 + 256))) s

/-- The first physical lane of a core that gives a logical lane. -/
def PhysicalLane (c : Core) (lane p : Nat) : Prop :=
  p < 34 ∧ Gives (c.lanemap[p]?.getD 0) lane ∧ ∀ q < p, ¬ Gives (c.lanemap[q]?.getD 0) lane

/-- A lasting error of a physical lane's SRAM has been noted (R386): a second one within 24 hours puts the lane into the log. -/
def LaneErrorNoted (s t : State) (core p : Nat) : Prop :=
  let again := ∃ e ∈ s.laneErrors, e.1 = 64 * core + p ∧ (s.time - e.2).toNat < 86400000000000
  let u := { s with laneErrors := tset s.laneErrors (64 * core + p) s.time }
  let e : Word := BitVec.ofNat 64 (256 * core + p)
  (¬ again ∨ ¬ LogTakes s e → t = u) ∧
  (again → LogTakes s e → t =
    lanesSettled (told { u with regs := { u.regs with rlog := u.regs.rlog ++ [e] } } 15 (BitVec.ofNat 64 core) (BitVec.ofNat 64 p)))

/-- What a type-14 event names (R387), and the model's key for the location of an array. -/
def arrayNamed (core array offset : Nat) : Word := BitVec.ofNat 64 (if array ≤ 2 then offset else core)

def arrayLocation (core array lane offset : Nat) : Nat := 2 ^ 56 * (1 + 8 * core + array) + 2 ^ 48 * lane + offset % 2 ^ 48

/-- A lasting error of an array has been found, in a physical lane where it is a brick file or a scratchpad (R384, R386, R387): one that was counted for
the same location within the last 1 ms changes nothing; one that counts is reported, and is one of the lane's. -/
def ArrayNoted (s t : State) (core array p offset bad : Nat) : Prop :=
  let key := arrayLocation core array p offset
  let u := lastingCounted s key (arrayNamed core array offset) (BitVec.ofNat 64 (array + bad))
  let before := ∃ e ∈ s.lasting, e.1 = key ∧ (s.time - e.2).toNat < 1000000
  (before → t = s) ∧ (¬ before → array ≠ 3 → array ≠ 4 → t = u) ∧ (¬ before → array = 3 ∨ array = 4 → LaneErrorNoted u t core p)

/-- A hart with a thread holds a lane of a core. -/
def HoldsLane (h : Hart) (core lane : Nat) : Prop := h.run ≠ .idle ∧ h.coreNo = core ∧ h.lbase ≤ lane ∧ lane < h.lbase + h.psize

/-- The thread of a hart has ended without its end publication, with bit 1 of its event (R342, R345, R385): of the hart in hand, or of another one, which
is in hand for that. -/
def ThreadLost (u t : State) (h : Hart) : Prop :=
  let p1 : Word := BitVec.ofNat 64 (2 + h.slot * 2 ^ 32)
  (h = u.hart → Finished u t p1 2) ∧ ∃ g : State → State, (∀ v, v.hart = h → Finished v (g v) p1 2) ∧ t = onSlot u h.slot g

/-- The harts with a thread stand at slots of their own. -/
def SlotsApart (s : State) : Prop := (s.hart :: s.others).Pairwise fun g h => g.slot ≠ h.slot

/-! Register writes (R3, R332, R333, R339, R367, R368, R372, R378). -/

/-- Offsets of the register window whose write has the effect of a row of its own. -/
def RowOfRegister (off v : Nat) (i : Instr) : Prop :=
  (off = 0x18 ∧ i = .evsz v) ∨ (off = 0x20 ∧ i = .evhead v) ∨ (off = 0x80 ∧ i = .reqfree v) ∨
  (off = 0x88 ∧ i = .taskkill (v % 2 ^ 16)) ∨
  (∃ q < 64, off = 0x100010 + 0x100 * q ∧ i = .doorbell q v) ∨ (∃ c < 1536, off = 0x3000000 + 8 * c ∧ i = .powerCap c v) ∨
  (∃ l < 32, off = 0x4020000 + 0x40 * l ∧ i = .laserEnable l v) ∨ (off = 0x5000000 ∧ i = .plim (v % 2 ^ 16)) ∨
  ∃ n < 1024, off = 0x6000000 + 8 * n ∧ i = .arrivalQueue n v

/-- Offsets whose write changes nothing: no table names them, or they are read-only (R3, R332, R337, R339, R367, R368, R372, R378). -/
def Ignored (off : Nat) : Prop :=
  off % 8 ≠ 0 ∨ off = 0 ∨ off = 8 ∨ 0x28 ≤ off ∧ off < 0x40 ∨ 0x68 ≤ off ∧ off < 0x80 ∨ 0x90 ≤ off ∧ off < 0x100000 ∨
    0x104000 ≤ off ∧ off < 0x1000000 ∨ 0x10C0000 ≤ off ∧ off < 0x3000000 ∨ 0x3003000 ≤ off ∧ off < 0x4000000 ∨
    0x4000010 ≤ off ∧ off < 0x4000100 ∨ 0x4000300 ≤ off ∧ off < 0x4010000 ∨
    (0x4010000 ≤ off ∧ off < 0x4018000 ∧ (off % 0x100 = 8 ∨ 0x18 ≤ off % 0x100 ∧ off % 0x100 < 0x40 ∨ 0x80 ≤ off % 0x100)) ∨
    0x4018000 ≤ off ∧ off < 0x4020000 ∨ (0x4020000 ≤ off ∧ off < 0x4020800 ∧ off % 0x40 ≠ 0) ∨ 0x4020800 ≤ off ∧ off < 0x4030000 ∨
    (0x4030000 ≤ off ∧ off < 0x4030200 ∧ (off % 0x20 = 8 ∨ off % 0x20 = 24)) ∨ 0x4030200 ≤ off ∧ off < 0x5000000 ∨
    0x5000008 ≤ off ∧ off < 0x5000028 ∨ 0x5000038 ≤ off ∧ off < 0x6000000 ∨ 0x6002000 ≤ off ∨
    (0x100000 ≤ off ∧ off < 0x104000 ∧ 0x20 ≤ off % 0x100)

/-- A module register that holds what is written (R318, R342, R367, R378). -/
def plainRegister (r : Regs) (off v : Nat) : Option Regs :=
  let w : Word := BitVec.ofNat 64 v
  if off = 0x10 then some { r with evb := w }
  else if off = 0x40 then some { r with fatb := w }
  else if off = 0x48 then some { r with hotb := w }
  else if off = 0x50 then some { r with winb := w }
  else if off = 0x58 then some { r with ppool := w }
  else if off = 0x60 then some { r with ppoolsz := w }
  else if off = 0x4000000 then some { r with errb := w }
  else if off = 0x4000008 then some { r with rthr := w }
  else if off = 0x5000028 then some { r with trans := r.trans &&& ~~~w }
  else if off = 0x5000030 then some { r with last := r.last &&& ~~~w }
  else none

/-- Offsets that no table names (R332, R333, R367, R372, R378). -/
def Unnamed (off : Nat) : Prop :=
  off % 8 ≠ 0 ∨ off = 8 ∨ 0x30 ≤ off ∧ off < 0x40 ∨ 0x68 ≤ off ∧ off < 0x80 ∨ 0x90 ≤ off ∧ off < 0x100000 ∨
    0x104000 ≤ off ∧ off < 0x1000000 ∨ 0x10C0000 ≤ off ∧ off < 0x2000000 ∨ 0x2020000 ≤ off ∧ off < 0x3000000 ∨
    0x3003000 ≤ off ∧ off < 0x4000000 ∨ 0x4000018 ≤ off ∧ off < 0x4000100 ∨ 0x4000300 ≤ off ∧ off < 0x4010000 ∨
    0x4018000 ≤ off ∧ off < 0x4020000 ∨ (0x4020000 ≤ off ∧ off < 0x4020800 ∧ off % 0x40 ≠ 0) ∨ 0x4020800 ≤ off ∧ off < 0x4030000 ∨
    0x4030200 ≤ off ∧ off < 0x5000000 ∨ 0x5000048 ≤ off ∧ off < 0x5000100 ∨ 0x5000250 ≤ off ∧ off < 0x6000000 ∨ 0x6002000 ≤ off ∨
    (0x100000 ≤ off ∧ off < 0x104000 ∧ 0x20 ≤ off % 0x100) ∨ (0x4030000 ≤ off ∧ off < 0x4030200 ∧ off % 0x10 = 8) ∨
    (0x4010000 ≤ off ∧ off < 0x4018000 ∧ (0x20 ≤ off % 0x100 ∧ off % 0x100 < 0x40 ∨ 0x80 ≤ off % 0x100))

/-- Registers with their offset and value (R318, R332, R342, R367, R378); REQFREE and TASKKILL are write-only. -/
def controlFields (r : Regs) : List (Nat × Nat) :=
  [(0, r.modid % 2 ^ 12), (0x10, r.evb.toNat), (0x18, r.evsz), (0x20, r.evhead.toNat), (0x28, r.evtail.toNat), (0x40, r.fatb.toNat),
   (0x48, r.hotb.toNat), (0x50, r.winb.toNat), (0x58, r.ppool.toNat), (0x60, r.ppoolsz.toNat), (0x80, 0), (0x88, 0)] ++
  [(0x4000000, r.errb.toNat), (0x4000008, r.rthr.toNat), (0x4000010, r.fpincnt.toNat), (0x5000000, r.plim), (0x5000008, r.pwr % 2 ^ 16),
   (0x5000010, r.vin % 2 ^ 16), (0x5000018, r.cool % 2 ^ 32), (0x5000020, r.throt.toNat), (0x5000028, r.trans.toNat),
   (0x5000030, r.last.toNat), (0x5000038, r.lret % 2 ^ 16), (0x5000040, r.pret % 2 ^ 32)]

/-- Dword `i` of a bind record as it is written (R339). -/
def slotWritten (i v : Nat) (x : Slot) : Slot :=
  if i = 0 then { x with psize := v / 2 ^ 8 % 2 ^ 6 }
  else if i = 1 then { x with
    vlmax := v % 2 ^ 14, late := decide (v / 2 ^ 15 % 2 = 1), src := v / 2 ^ 16 % 2 ^ 16, ctxid := BitVec.ofNat 32 (v / 2 ^ 32) }
  else if i = 2 then { x with frame := BitVec.ofNat 64 v }
  else if i = 3 then { x with tag := BitVec.ofNat 64 v }
  else if i = 4 then { x with ptroot := BitVec.ofNat 64 v }
  else if i = 5 then { x with dl := BitVec.ofNat 64 v }
  else if i = 6 then { x with entry := BitVec.ofNat 64 (v % 2 ^ 55) }
  else { x with arg := BitVec.ofNat 64 v }

end Sys2Proof.Claims

/-- R343, R378 to R382, R386, R388, R390, R391: the power limit, the throttling of a die, at boot too, the loss of power, start, freeze. What lost memory
reads as is log 1, the values of lost registers, and that a booted module starts with itself alone in the membership map, log 2; that
p1 of the thermal event is taken over the 24 compute dies is log 112. Whether the signature of an image verifies, and the version in its header, are given
with the row (log 100); what a module without firmware does with a reading is log 62. -/
def Sys2Proof.Claims.PowerIsLimitedAndLost : Prop :=
  (∀ (s : State) (v : Nat),
    let r := { s.regs with plim := max 4800 (min 9600 v) }
    exec (.plim v) s = .next { s with regs := r, agenda := s.agenda ++ (List.range 1536).map (capWrite r) }) ∧
  (∀ (s : State) (die temp : Nat),
    let u := { s with regs := { s.regs with temps := s.regs.temps.setIfInBounds die (temp % 65536) } }
    let on := s.regs.throt.getLsbD die
    let d := signedField 16 (temp % 2 ^ 16)
    (23 < die → exec (.throttle die temp) s = .next s) ∧
    (die ≤ 23 → 115 * 16 ≤ d → exec (.throttle die temp) s = .next (unpowered s)) ∧
    (die ≤ 23 → d < 115 * 16 → s.regs.booted = false → exec (.throttle die temp) s = .next u) ∧
    (die ≤ 23 → d < 115 * 16 → s.regs.booted = true →
      (105 * 16 ≤ d ∧ on = true) ∨ (d < 100 * 16 ∧ on = false) ∨ (100 * 16 ≤ d ∧ d < 105 * 16) →
      exec (.throttle die temp) s = .next u) ∧
    (die ≤ 23 → d < 115 * 16 → s.regs.booted = true → 105 * 16 ≤ d → on = false → ∃ t, exec (.throttle die temp) s = .next t ∧
      Throttled u t die (s.regs.throt ||| (1#24 <<< die))) ∧
    (die ≤ 23 → s.regs.booted = true → d < 100 * 16 → on = true → ∃ t, exec (.throttle die temp) s = .next t ∧
      Throttled u t die (s.regs.throt &&& ~~~(1#24 <<< die)))) ∧
  (∀ (s : State), exec .powerLoss s = .next (unpowered s) ∧ exec .thermalTrip s = .next (unpowered s) ∧
    exec .freeze s = .next { s with power := .frozen }) ∧
  ∀ (s : State) (straps version verified : Nat),
    let r := s.regs
    let boots := verified = 1 ∧ r.flash.keyDigest = r.fusedKey ∧ r.rollback ≤ version % 2 ^ 16
    (r.booted = true → exec (.boot straps version verified) s = .next s) ∧
    (r.booted = false → ¬ boots → exec (.boot straps version verified) s = .next { s with power := .up, regs := { r with bootFailed := true } }) ∧
    (r.booted = false → boots →
      let v := retired { s with
        power := .up, membership := 1 <<< (straps % 2 ^ 12)
        regs := { r with modid := straps % 2 ^ 12, fwVersion := version % 2 ^ 16, fwDigest := r.flash.digest, booted := true
                         bootFailed := false, rlogBoot := r.rlog } }
      ∃ u, HotDies (List.range 24) v u ∧ exec (.boot straps version verified) s = .next { u with
        regs := { u.regs with lret := lanesGone u, pret := (r.rlog.filter fun e => decide (2 ^ 63 ≤ e.toNat)).length } })

/-- R389, R391, R392. The revision, the bits of a chain, the digest of the log and the signature are open (log 11). -/
def Sys2Proof.Claims.TestPortAndAttestationAnswer : Prop :=
  ∀ (s : State) (v : Nat),
    exec (.bypass v) s = .next { s with regs := { s.regs with tapIr := 0xFF, tapDr := [BitVec.ofNat 64 (v % 2)] } } ∧
    exec .idcode s = .next { s with regs := { s.regs with
      tapIr := 0x01, tapDr := [BitVec.ofNat 64 (1 + 0x2B5 * 2 + 0xA1C3 * 2 ^ 12 + Config.idRevision.toNat * 2 ^ 28)] } } ∧
    (v ≤ 25 → exec (.chain v) s = .next { s with regs := { s.regs with tapIr := 0x10 + v, tapDr := Config.scanChain v s.tick } }) ∧
    (25 < v → exec (.chain v) s = .next s) ∧
    (∃ sig, sig.length = 384 ∧ (∀ i < 384, sig.getD i 0 = (Config.signReport (reportBytes s.regs v)).getD i 0) ∧
      exec (.attestationRequest v) s = .next { s with regs := { s.regs with report := reportBytes s.regs v ++ sig } }) ∧
    exec .rollbackRaise s = .next { s with regs := { s.regs with rollback := max s.regs.rollback s.regs.fwVersion } }

/-- R3, R332, R333, R339, R340, R367, R368, R372, R378: what a write of a module register does; a read-only field and an offset that no table names
ignore it. That a write of EVTAIL changes nothing is log 108; that a new descriptor starts the count of records anew is log 17; that LCTL takes rekey, then relane, then state is log 59. -/
def Obligations.RegisterWritesReachTheirRegisters : Prop :=
  ∀ (s : State) (off v : Nat), v < 2 ^ 64 →
    (∀ i, RowOfRegister off v i → exec (.registerWrite off v) s = exec i s) ∧
    (∀ r, plainRegister s.regs off v = some r → exec (.registerWrite off v) s = .next { s with regs := r }) ∧
    (Ignored off → exec (.registerWrite off v) s = .next s) ∧
    (∀ q, q < 64 → let b := 0x100000 + 0x100 * q
      (off = b → exec (.registerWrite off v) s = .next { s with
        hostq := tset s.hostq q { hostQ s q with desc := BitVec.ofNat 64 v, taken := 0, gangs := [] } }) ∧
      (off = b + 8 → exec (.registerWrite off v) s = .next { s with
        hostq := tset s.hostq q { hostQ s q with pt := BitVec.ofNat 64 v } }) ∧
      (off = b + 0x18 → exec (.registerWrite off v) s = .next { s with
        hostq := tset s.hostq q { hostQ s q with
          stopped := (hostQ s q).stopped && decide (v / 2 % 2 = 0), enable := decide (v % 2 = 1) }
        agenda := s.agenda ++ [.hostQueueTake q] })) ∧
    (∀ die slot i, die < 24 → slot < 512 → i < 8 → off = 0x1000000 + 0x8000 * die + 64 * slot + 8 * i →
      let n := 512 * die + slot
      let u := { s with slots := tset s.slots n (slotWritten i v (tget s.slots n {})) }
      (i ≠ 0 ∨ v % 8 = 0 → exec (.registerWrite off v) s = .next u) ∧
      (i = 0 → v % 8 = 1 → exec (.registerWrite off v) s = exec (.start die slot) u) ∧
      (i = 0 → v % 8 = 2 → exec (.registerWrite off v) s = exec (.restore die slot) u) ∧
      (i = 0 → v % 8 = 3 → exec (.registerWrite off v) s = exec (.preEmpt die slot) u) ∧
      (i = 0 → 4 ≤ v % 8 → exec (.registerWrite off v) s = .next (resultOnly u n 6))) ∧
    (∀ m, m < 64 → off = 0x4000100 + 8 * m → ∃ k, exec (.registerWrite off v) s = .next { s with membership := k } ∧
      ∀ b < 4096, k.getLsbD b = if b / 64 = m then decide (v / 2 ^ (b % 64) % 2 = 1) else s.membership.getLsbD b) ∧
    (∀ p, p < 128 → let b := 0x4010000 + 0x100 * p
      let x := portIn s p
      (off = b + 0x10 → ∃ t, exec (.registerWrite off v) s = .next t ∧ CameUp (portSet s p { x with lmap := BitVec.ofNat 64 v }) t p) ∧
      (∀ i < 4, off = b + 0x40 + 8 * i → ∃ k, exec (.registerWrite off v) s = .next (portSet s p { x with txPend := some k }) ∧
        ∀ j < 4, k / 2 ^ (64 * j) % 2 ^ 64 = if j = i then v else x.txPend.getD 0 / 2 ^ (64 * j) % 2 ^ 64) ∧
      (∀ i < 4, off = b + 0x60 + 8 * i → ∃ k, exec (.registerWrite off v) s = .next (portSet s p { x with rxPend := some k }) ∧
        ∀ j < 4, k / 2 ^ (64 * j) % 2 ^ 64 = if j = i then v else x.rxPend.getD 0 / 2 ^ (64 * j) % 2 ^ 64) ∧
      ∀ s1 s2 s3 : State, off = b → s1 = portSet s p { x with peer := v / 2 ^ 16 % 2 ^ 12 } →
        (v / 2 ^ 8 % 2 = 1 ∧ exec (.rekey p) s1 = .next s2 ∨ v / 2 ^ 8 % 2 = 0 ∧ s2 = s1) →
        (v / 2 ^ 7 % 2 = 1 ∧ exec (.relane p) s2 = .next s3 ∨ v / 2 ^ 7 % 2 = 0 ∧ s3 = s2) →
        (v % 8 = 0 → exec (.registerWrite off v) s = .next (portSet s3 p { portIn s3 p with
          state := if (portIn s3 p).state = 4 then 4 else 0, upAsked := false })) ∧
        (v % 8 = 1 → exec (.registerWrite off v) s = exec (.linkLock p) s3) ∧
        (v % 8 = 2 → exec (.registerWrite off v) s = exec (.linkTrain p) s3) ∧
        (v % 8 = 3 → exec (.registerWrite off v) s = exec (.linkUp p) s3) ∧
        (4 ≤ v % 8 → exec (.registerWrite off v) s = .next s3)) ∧
    ∀ k, k < 16 → let b := 0x4030000 + 0x20 * k
      let m := tget s.moves k {}
      (off = b → exec (.registerWrite off v) s = .next { s with moves := tset s.moves k { m with new := v / 2 ^ 16 % 2 ^ 40 } }) ∧
      ∀ t, t = { s with moves := tset s.moves k { m with old := v / 2 ^ 36 % 2 ^ 28 } } →
        (off = b + 16 → v % 4 = 0 ∨ v % 4 = 3 → exec (.registerWrite off v) s = .next t) ∧
        (off = b + 16 → v % 4 = 1 → exec (.registerWrite off v) s = exec (.move k (v / 2 ^ 36 % 2 ^ 28)) s) ∧
        (off = b + 16 → v % 4 = 2 → exec (.registerWrite off v) s = exec (.moveRelease k) t)

/-- R3, R332, R333, R337, R339, R343, R367, R368, R372, R378, R390, R393: what the host and the management core read at an offset of the register
window; of a module that has not booted, its IDCODE and whether its boot failed. The input that reads it is the model's (log 99), and so are the places
of that status (log 100). -/
def Obligations.RegisterReadsReturnTheirFields : Prop :=
  ∀ (s : State) (off : Nat),
    execInput (.readRegister off) s = { s with regs := { s.regs with readData := BitVec.ofNat 64 (readRegister s off) } } ∧
    (s.regs.booted = false → readRegister s off =
      (1 + 0x2B5 * 2 + 0xA1C3 * 2 ^ 12 + Config.idRevision.toNat * 2 ^ 28) % 2 ^ 32 + if s.regs.bootFailed then 2 ^ 32 else 0) ∧
    (s.regs.booted = true →
    (Unnamed off → readRegister s off = 0) ∧
    (∀ v, (off, v) ∈ controlFields s.regs → readRegister s off = v) ∧
    (∀ q < 64, let b := 0x100000 + 0x100 * q
      let x := hostQ s q
      (off = b → readRegister s off = x.desc.toNat) ∧ (off = b + 8 → readRegister s off = x.pt.toNat) ∧
      (off = b + 0x10 → readRegister s off = 0) ∧
      (off = b + 0x18 → readRegister s off = (if x.stopped then 2 else 0) + if x.enable then 1 else 0)) ∧
    (∀ die slot, die < 24 → slot < 512 → let b := 0x1000000 + 0x8000 * die + 64 * slot
      let x := tget s.slots (512 * die + slot) {}
      x.result < 2 ^ 8 → x.st < 2 ^ 4 → x.psize < 2 ^ 6 → x.src < 2 ^ 16 → x.vlmax < 2 ^ 14 →
      ∀ i v, [x.result * 2 ^ 40 + x.st * 2 ^ 28 + x.psize * 2 ^ 8,
          x.ctxid.toNat * 2 ^ 32 + x.src * 2 ^ 16 + (if x.late then 2 ^ 15 else 0) + x.vlmax, x.frame.toNat, x.tag.toNat, x.ptroot.toNat,
          x.dl.toNat, x.entry.toNat, x.arg.toNat][i]? = some v →
        off = b + 8 * i → readRegister s off = v) ∧
    (∀ i k, i < 1024 → k < 16 → off = 0x2000000 + 128 * i + 8 * k →
      ((∀ p ∈ s.reqs, p.1 ≠ i) → readRegister s off = 0) ∧
      ∀ p, s.reqs.find? (fun p => p.1 == i) = some p → let x := p.2
        (∀ f ∈ x.fields, f < 2 ^ 32) → x.src < 2 ^ 16 → x.gang < 2 ^ 4 → x.place < 2 ^ 2 → x.gid < 2 ^ 32 →
        (k < 8 → readRegister s off = x.fields.getD (2 * k) 0 + x.fields.getD (2 * k + 1) 0 * 2 ^ 32) ∧
        (k = 8 → readRegister s off = x.pt.toNat) ∧ (k = 10 → readRegister s off = x.deadline.toNat) ∧
        (k = 9 → readRegister s off = x.src + x.gang * 2 ^ 16 + x.place * 2 ^ 20 + x.gid * 2 ^ 32) ∧ (11 ≤ k → readRegister s off = 0)) ∧
    (∀ c < 1536, off = 0x3000000 + 8 * c → (coreAt s c).mcap < 4 → (coreAt s c).vcap < 2 ^ 14 →
      readRegister s off = (coreAt s c).mcap * 2 ^ 16 + (coreAt s c).vcap) ∧
    (∀ i < 64, off = 0x4000100 + 8 * i →
      readRegister s off < 2 ^ 64 ∧ ∀ b < 64, (readRegister s off).testBit b = s.membership.getLsbD (64 * i + b)) ∧
    (∀ p < 128, let b := 0x4010000 + 0x100 * p
      let x := portIn s p
      let spare (m : Word) (f : Nat) : Nat := if (List.range 16).any fun w => waveOf m w == some (9 * f + 8) then 1 else 0
      (off = b → x.peer < 2 ^ 12 → x.state < 8 → readRegister s off = x.peer * 2 ^ 16 + x.state) ∧
      (off = b + 8 → x.sub < 2 ^ 8 → readRegister s off = x.sub * 2 ^ 48 + workingLanes x * 2 ^ 40 +
        (spare x.lanes 0 + 2 * spare x.lanes 1 + 4 * spare x.rxLanes 0 + 8 * spare x.rxLanes 1) * 2 ^ 36 + x.trained.toNat * 2 ^ 18 +
        x.locked.toNat) ∧
      (off = b + 0x10 → readRegister s off = x.lmap.toNat) ∧ (off = b + 0x18 → readRegister s off = x.txctr % 2 ^ 64) ∧
      ∀ k < 8, off = b + 0x40 + 8 * k → readRegister s off = 0) ∧
    (∀ l < 32, off = 0x4020000 + 0x40 * l → let x := tget s.lasers l {}
      readRegister s off = (if x.lost = 0 then 0 else 4) + (if x.power = 15 then 2 else 0) + if x.en then 1 else 0) ∧
    (∀ k < 16, let x := tget s.moves k {}
      (off = 0x4030000 + 0x20 * k → x.new < 2 ^ 40 → readRegister s off = x.new * 2 ^ 16) ∧
      (off = 0x4030010 + 0x20 * k → x.old < 2 ^ 28 → x.status < 2 ^ 4 → readRegister s off = x.old * 2 ^ 36 + x.status * 2 ^ 4)) ∧
    (∀ k < 42, off = 0x5000100 + 8 * k → readRegister s off = s.regs.temps[k]?.getD 0 % 2 ^ 16) ∧
    ∀ n < 1024, off = 0x6000000 + 8 * n → let q := tget s.arrq n {}
      let held := (s.arrived.filter fun p => p.queue == n).length
      q.asid < 2 ^ 16 → held < 2 ^ 7 → readRegister s off = (if q.en then 2 ^ 23 else 0) + held * 2 ^ 16 + q.asid)

/-- R43, R379, R383 to R387: errors that memory and arrays show, what they end and take out of use, with their events. That the input names the array,
the lane and the offset is log 99. -/
def Sys2Proof.Claims.ErrorsAreFoundAndRetired : Prop :=
  (∀ (s : State) (addr : Nat),
    let pa := localPA s addr
    let f := addr / 65536
    let seen := (addr :: tget s.frameErrors f []).dedup
    let t := lastingCounted { s with frameErrors := tset s.frameErrors f seen } pa (BitVec.ofNat 64 pa) 0
    execInput (.memoryError addr .transient) s = { s with regs := { s.regs with trans := s.regs.trans + 1 } } ∧
    (seen.length < 3 → execInput (.memoryError addr .corrected) s = t) ∧
    (3 ≤ seen.length → FrameRetired t (execInput (.memoryError addr .corrected) s) f) ∧
    FrameRetired (lastingCounted { s with badBytes := if pa ∈ s.badBytes then s.badBytes else pa :: s.badBytes } pa (BitVec.ofNat 64 pa) 0x100)
      (execInput (.memoryError addr .uncorrectable) s) f) ∧
  (∀ (s : State) (core array lane offset : Nat), let found (d : Defect) := execInput (.arrayError core array lane offset d) s
    (array = 3 ∨ array = 4 → (∀ p, ¬ PhysicalLane (coreAt s core) lane p) → ∀ d, found d = s) ∧
    ∀ p, (array ≠ 3 ∧ array ≠ 4 ∧ p = lane ∨ (array = 3 ∨ array = 4) ∧ PhysicalLane (coreAt s core) lane p) →
      found .transient = { s with regs := { s.regs with trans := s.regs.trans + 1 } } ∧
      ArrayNoted s (found .corrected) core array p offset 0 ∧
      ∃ u, ArrayNoted s u core array p offset 256 ∧
        (array = 1 ∨ array = 2 → found .uncorrectable = if lane = 0 then u else told u 11 (BitVec.ofNat 64 offset) 6) ∧
        (array = 3 →
          (∀ h ∈ u.hart :: u.others, HoldsLane h core lane → SlotsApart u → (∀ g ∈ u.hart :: u.others, HoldsLane g core lane → g = h) →
            ThreadLost u (found .uncorrectable) h) ∧
          ((∀ h ∈ u.hart :: u.others, ¬ HoldsLane h core lane) → found .uncorrectable = u)) ∧
        (array = 4 → found .uncorrectable = coreChanged u core fun c => { c with badScratch := (16384 * p + offset) :: c.badScratch }) ∧
        (array = 5 →
          (∀ h ∈ u.hart :: u.others, let claims (g : Hart) := g.run ≠ .idle ∧ g.coreNo = core ∧ (coreAt u core).claimant = some g.idx
            claims h → SlotsApart u → (∀ g ∈ u.hart :: u.others, claims g → g = h) → ThreadLost u (found .uncorrectable) h) ∧
          ((coreAt u core).claimant = none → found .uncorrectable = u))) ∧
  ∀ (s : State) (n a : Nat), 0 < n → poolFree s n = some a →
    ∀ e ∈ s.regs.rlog, 2 ^ 63 ≤ e.toNat → 65536 * (e.toNat % 2 ^ 32) + 65536 ≤ a ∨ a + n ≤ 65536 * (e.toNat % 2 ^ 32)

/-- R72, R346, R353, R355, R371, R373, R374, R377 to R379, R381, R390: readings, the flash, what other modules and the fabric do: a request that a module
hands over, the page that one moves here, with what this module holds of it. The inputs are the model's (log 99). -/
def Sys2Proof.Claims.OutsideInputsAct : Prop :=
  ∀ (s : State),
    (∀ w mv, (11000 < w → execInput (.powerReading w mv) s = unpowered s) ∧
      (w ≤ 11000 → execInput (.powerReading w mv) s = { s with regs := { s.regs with pwr := w % 2 ^ 16, vin := mv % 2 ^ 16 } })) ∧
    (∀ flow inlet, execInput (.coolantReading flow inlet) s =
      { s with regs := { s.regs with cool := flow % 2 ^ 16 * 2 ^ 16 + inlet % 2 ^ 16 } }) ∧
    (∀ t r, (t < 24 → exec (.throttle t r) s = .next (execInput (.sensor t r) s)) ∧
      (24 ≤ t → t < 26 → 115 * 16 ≤ signedField 16 (r % 2 ^ 16) → execInput (.sensor t r) s = unpowered s) ∧
      (24 ≤ t → t < 42 → 26 ≤ t ∨ signedField 16 (r % 2 ^ 16) < 115 * 16 → execInput (.sensor t r) s = { s with regs := { s.regs with temps := s.regs.temps.setIfInBounds t (r % 2 ^ 16) } }) ∧
      (42 ≤ t → execInput (.sensor t r) s = s)) ∧
    (∀ i, execInput (.flash i) s = { s with regs := { s.regs with flash := i } }) ∧
    (∀ ds, execInput (.delays ds) s = { s with delays := ds }) ∧
    (∀ m p, execInput (.tables m p) s = { s with peers := tset s.peers (m % 4096) p }) ∧
    (∀ m gone, ∃ l, execInput (.lost m gone) s = { s with lost := l } ∧
      ∀ k < 4096, l.getLsbD k = if k = m % 4096 then gone else s.lost.getLsbD k) ∧
    (∀ port m, let x := { portIn s port with peerMap := m }
      (127 < port → execInput (.laneMap port m) s = s) ∧
      (port ≤ 127 → CameUp (portSet s port x) (execInput (.laneMap port m) s) port)) ∧
    (∀ p, let q := { p with stamp := ((signedField 32 (p.stamp % 2 ^ 32) + (s.time.toNat / 256 : Nat)) % 2 ^ 32).toNat, told := false }
      let next := p.hops.head?.getD (nextHop (moduleOf s) (p.addr / 2 ^ 44 % 4096))
      (LocalTo s p.addr → execInput (.request p) s = queued s { q with place := sliceOf p.addr }) ∧
      (∀ port, ¬ LocalTo s p.addr → LeastLoaded s (portsUp s next) port →
        execInput (.request p) s = queued s { q with port, place := 384 + port }) ∧
      (¬ LocalTo s p.addr → portsUp s next = [] → Failed s (execInput (.request p) s) q (fabricFailure 3))) ∧
    (∀ id, let away (p : Packet) : Bool := p.id == id && decide (1024 ≤ p.place) && decide (p.id / 2 ^ 27 = moduleOf s)
      (s.packets.find? away = none → execInput (.pathLost id) s = s) ∧
      ∀ p, s.packets.find? away = some p → Resent (takenOut s p) (execInput (.pathLost id) s) p) ∧
    (∀ old frame (bytes : Memory) times rs, s.memory.wf = true → bytes.wf = true →
      let f := ownFrame s frame
      let v := repaged { s with moved := s.moved.filter fun p => p.1 != f && p.1 != old } old f s.memory
      ∃ m, m.wf = true ∧ (∀ k < 65536, mget m (f * 65536 + k) = mget bytes k) ∧ OnlyWrote s m (f * 65536) 65536 ∧
        execInput (.pageIn old frame bytes times rs) s = homePut { v with
          moved := (times.map fun t => (f, t)) ++ v.moved, replies := rs.foldl (fun t r => tset t r.1 r.2) v.replies } m (f * 65536) 65536) ∧
    ∀ frame, execInput (.frameReleased frame) s = { s with forwards := s.forwards.filter fun p => p.1 != frame }

/-- R343, R346, R371, R373, R374, R377 to R387, R390: errors, readings, and what comes from other modules and the fabric. The inputs are log 99;
lanes and frames of the log: log 67; errors of arrays: log 71; the temperature in the event: log 62. -/
def Obligations.InputsFromOutsideAct : Prop := ErrorsAreFoundAndRetired ∧ OutsideInputsAct

/-- R343, R378 to R382, R386, R388 to R392: power, start, the test port, attestation. The caps that firmware writes are log 30, temperatures log 62, the dies
over which p1 of the thermal event is taken log 112, memory after a loss of power log 1, registers after it and membership at boot log 2, the first bytes of a report log 63, chains above 25 log 64, the order of the log at boot log 67, what a module without power or firmware takes log
79, the signature of an image log 100. -/
def Obligations.PowerAndAttestation : Prop := PowerIsLimitedAndLost ∧ TestPortAndAttestationAnswer

namespace Sys2Proof.Claims

open Sys2Proof.Machine

/-! Soundness of a module: what every step keeps. No home line has a publication later than the module's latest (R60). -/

/-- A hart is sound: its stores have the canonical form, its partition has lanes, its program counter holds a multiple of 4 (R117), and
reserved bits of its registers read zero (R4, R303, R311). -/
def HartSound (h : Hart) : Prop :=
  h.bricks.wf = true ∧ h.scratch.wf = true ∧ 1 ≤ h.lanes ∧ h.lanes ≤ 32 ∧ Aligned h.pc ∧ Aligned h.tvec ∧
    h.ptroot.toNat < 2 ^ 56 ∧ ∀ p, h.nlap = some p → Aligned p.2

def TileSound (t : Tile) : Prop := t.wts.wf = true ∧ t.scl.wf = true

def CoreSound (c : Core) : Prop := c.acc.wf = true ∧ TileSound c.w0 ∧ TileSound c.w1

def Sound (s : State) : Prop :=
  s.memory.wf = true ∧ (∀ h ∈ s.hart :: s.others ++ s.saved, HartSound h) ∧ CoreSound s.core ∧ (∀ p ∈ s.otherCores, CoreSound p.2) ∧
    ∀ p ∈ s.linePubs, p.2 ≤ s.pubs

/-- Words of the manual, each with the instruction it stands for there. -/
def sampleWords : List (Nat × Instr) :=
  [(0x04642814, .div 3 4 5), (0x1864000C, .slli 3 4 12), (0x186400BF, .srai 3 4 63), (0x1D200012, .lui 9 18), (0x20C0000A, .addpc 6 10),
   (0x08C68764, .addi 6 6 0x8764), (0x28E87FFE, .ldsS16 7 8 0x1FFE), (0x2CE8C010, .stsZ64 7 8 16), (0x30A03FFD, .bne 5 0 0x1FFD),
   (0x34200005, .jal 1 5), (0x38260000, .jalr 1 6 0), (0x3CA04001, .csrrs 5 0 1), (0x49000018, .vfadd 8 0 0 0 0 1 1),
   (0x48A60014, .vfsqrt 5 6 0 0 1), (0x4C811218, .vfma 4 1 2 2 0 1 1), (0x54A20105, .vmpopc 5 2 1), (0x58625810, .vcvt 3 2 11 0 0 1),
   (0x5CE31010, .vrsum 7 3 2 0 0 1), (0x64216012, .vfmulx 1 1 12 0 0 1)]

def moreWords : List (Nat × Instr) :=
  [(0x6864001A, .vcltx 3 4 0 0 1 1), (0x6C40000A, .vcoordX 2 0 0 1), (0x70C5E811, .vslide 6 5 29 0 0 1), (0x7409011A, .adj 0 9 3 2),
   (0x74063804, .lap 6 7), (0x78890022, .sbase 4 9 2), (0x7CA44800, .vldAdv 5 2 1 0), (0x80420002, .vst 2 1 0 1),
   (0x84A64182, .vgath 5 3 1 0 6 1), (0x88608106, .spst 3 2 4 1), (0x8CA73571, .atomCas 5 7 6 3 1 0 0 1),
   (0x8CA735C6, .atomFadd 5 7 6 2 0 0 1 2), (0x90042810, .bar 4 5 0), (0x90000020, .fenceAlias), (0x94A83003, .post 5 8 6),
   (0x98000C10, .mfmt 16 1), (0x9C01949E, .wld 6 20 1 7 1), (0xA0B24A00, .mrow 5 2 9 1 1), (0xA011B3CC, .ast 2 6 7 9 1),
   (0xA4A6000A, .cpwait 5 6 2), (0xA8A60004, .rtdrop 5 6), (0xACA63802, .taskdone 5 6 7), (0xB0A63801, .qtake 5 6 7),
   (0xB4660007, .nlrecv 3 6 0 3), (0xB8A63803, .setdl 5 6 7), (0xBCA63807, .lanemap 5 6 7)]

end Sys2Proof.Claims

/-- Decoding is right on words that the manual works out, of every family; the all-zero word and a mask destination of 9 are no
instructions, and a pair is one of 8 bytes. -/
def Obligations.DecodeSamples : Prop :=
  (∀ p ∈ sampleWords ++ moreWords, decode (wordBytes p.1) = .ok (p.2, 4)) ∧
  (∀ w, (w = 0 ∨ w = 0x51200000 ∨ w = 0xC0000000) → ∃ e, decode (wordBytes w) = .error e) ∧
  decode (wordBytes 0xFC003C00 ++ wordBytes 0x4C811218) = .ok (.ofs 0 0 0 15 0 0 0 0x4C811218, 8) ∧
  ∃ e, decode (wordBytes 0xFC003C00 ++ wordBytes 0x70000000) = .error e

/-- Decoding and encoding agree, for every constructor and every value of its operands that an encoding admits. -/
def Obligations.EncodingsReadBack : Prop := ∀ i : Instr, Laws.RoundTrip.Statement i

/-- R4, R14, R210, R267, R327, R333, R339, R342, R343, R367, R368, R378, R393: values after module reset that the manual gives. -/
def Sys2Proof.Claims.ResetLeavesTheStatedValues : Prop :=
  let s := State.reset
  (∀ h ∈ s.hart :: s.others, h.run = .idle) ∧ s.saved = [] ∧ s.events = [] ∧
  (∀ c, let x := coreAt s c
    x.claimant = none ∧ x.mvl = 16 ∧ (∀ i < 4, x.afmt[i]?.getD 1 = 0) ∧ x.vcap = 8192 ∧ x.mcap = 2 ∧ (∀ a, mget x.acc a = 0) ∧
    (∀ t, (t = x.w0 ∨ t = x.w1) → t.code = 0 ∧ t.sparse = false ∧ ∀ k j, t.wt k j = 0) ∧
    ∀ p < 34, (x.lanemap[p]?.getD 0).toNat = if p < 32 then p else 64) ∧
  (∀ q, hostQ s q = { desc := 0, pt := 0, enable := false, stopped := false, gangs := [], taken := 0 }) ∧
  (∀ n, (tget s.slots n {}).st = 0 ∧ (tget s.slots n {}).result = 0 ∧ (tget s.arrq n {}).en = false ∧ (tget s.arrq n {}).asid = 0) ∧
  (∀ p, (portIn s p).state = 0 ∧ (portIn s p).lmap = 0x7654321076543210 ∧ ∀ w < 16, codeOf (portIn s p).lmap w = w % 8) ∧
  (∀ l, (tget s.lasers l {}).en = false) ∧ s.regs.evsz = 8 ∧ s.regs.rthr = 4096 ∧ s.regs.plim = 9600 ∧ s.regs.throt = 0 ∧ s.regs.fpincnt = 0 ∧
  s.regs.trans = 0 ∧ s.regs.last = 0 ∧ s.regs.lret = 0 ∧ s.regs.pret = 0 ∧ s.regs.pwr = 0 ∧ s.regs.vin = 0 ∧ s.regs.cool = 0 ∧
  ∀ t < 42, s.regs.temps[t]?.getD 1 = 0

/-- The module is sound right after reset, and its memory reads zero everywhere (log 1). -/
def Sys2Proof.Claims.ResetIsSound : Prop := Sound State.reset ∧ ∀ a, mget State.reset.memory a = 0

/-- Memory keeps its canonical form through every step, whatever else the state holds. -/
def Obligations.MemoryStaysCanonical : Prop := ∀ s t : State, s.memory.wf = true → step s = .next t → t.memory.wf = true

/-- Every step keeps the module sound. -/
def Obligations.StepsKeepTheModuleSound : Prop := ∀ s t : State, Sound s → step s = .next t → Sound t

/-- R4, R14, R60, R210, R267, R327, R333, R339, R342, R343, R367, R368, R378, R393: the state after module reset. What the manual gives no reset value for
has the value that logs 1 and 2 name. -/
def Obligations.ModuleReset : Prop := ResetLeavesTheStatedValues ∧ ResetIsSound

/-- R118, R129, R258, R302 to R304: an instruction that the unprivileged view runs changes no register of the privileged view that it does not enter
a trap with: PTROOT, TVEC, TSCR0, TSCR1, CTXID, the lane map; PSTAT keeps its depth, and nh can only fall; while the hart goes on in that view the
trap banks stay; the only way out of the view is a trap, which fetches at TVEC and writes the bank of its depth alone. -/
def Obligations.UnprivilegedCodeStaysConfined : Prop :=
  ∀ (s t : State) (i : Instr), encode i ≠ 0 → s.hart.priv = false → exec i s = .next t →
    (t.hart.ptroot = s.hart.ptroot ∧ t.hart.tvec = s.hart.tvec ∧ t.hart.tscr0 = s.hart.tscr0 ∧ t.hart.tscr1 = s.hart.tscr1 ∧
      t.hart.ctxid = s.hart.ctxid ∧ t.core.lanemap = s.core.lanemap ∧ (t.hart.nh = true → s.hart.nh = true)) ∧
    (t.hart.priv = false → t.hart.depth = s.hart.depth ∧
      (t.hart.run = .running → t.hart.bank0 = s.hart.bank0 ∧ t.hart.bank1 = s.hart.bank1 ∧ t.hart.bank2 = s.hart.bank2)) ∧
    (t.hart.priv = true → t.hart.depth = s.hart.depth + 1 ∧ t.hart.pc = s.hart.tvec &&& ~~~3#64 ∧ t.hart.bank2 = s.hart.bank2 ∧
      (s.hart.depth ≠ 0 → t.hart.bank0 = s.hart.bank0) ∧ (s.hart.depth ≠ 1 → t.hart.bank1 = s.hart.bank1))
end

