-- ==== Sys2Proof/Laws/Mem.lean ====
section
/-!
SUPPORT. Laws of byte stores and tables: the canonical form is kept by every operation; a read gives what was last written.
-/

namespace Sys2Proof.Laws

open Sys2Proof.Machine

/-! The canonical form. -/

theorem wf_iff (m : Memory) : m.wf = true ↔ m.Pairwise (fun p q => p.1 < q.1) ∧ ∀ p ∈ m, p.2 ≠ 0 := by
  induction m with
  | nil => simp [Memory.wf]
  | cons p t ih =>
    obtain ⟨a, b⟩ := p
    cases t with
    | nil => simp [Memory.wf]
    | cons q t =>
      obtain ⟨a', b'⟩ := q
      simp only [Memory.wf, Bool.and_eq_true, bne_iff_ne, decide_eq_true_eq, ih, List.pairwise_cons, List.mem_cons, Prod.forall,
        forall_eq_or_imp]
      constructor
      · rintro ⟨⟨hb, hlt⟩, ⟨h1, h2⟩, h3⟩
        exact ⟨⟨⟨hlt, fun c d h => lt_trans hlt (h1 c d h)⟩, h1, h2⟩, hb, h3⟩
      · rintro ⟨⟨⟨hlt, _⟩, h1, h2⟩, hb, h3⟩
        exact ⟨⟨hb, hlt⟩, ⟨h1, h2⟩, h3⟩

@[simp] theorem wf_nil : Memory.wf [] = true := rfl

theorem wf_tail {p : Host.Cell} {t : Memory} (h : Memory.wf (p :: t) = true) : Memory.wf t = true := by
  rw [wf_iff] at *
  exact ⟨(List.pairwise_cons.1 h.1).2, fun q hq => h.2 q (List.mem_cons_of_mem _ hq)⟩

theorem wf_cons {a : Nat} {b : Byte} {t : Memory} :
    Memory.wf ((a, b) :: t) = true ↔ (∀ p ∈ t, a < p.1) ∧ b ≠ 0 ∧ Memory.wf t = true := by
  simp only [wf_iff, List.pairwise_cons, List.mem_cons, forall_eq_or_imp]
  tauto

theorem wf_filter {m : Memory} (f : Host.Cell → Bool) (h : m.wf = true) : Memory.wf (m.filter f) = true := by
  rw [wf_iff] at *
  exact ⟨h.1.filter _, fun p hp => h.2 p (List.mem_of_mem_filter hp)⟩

/-- A cell of a store with a byte written is the written one or one of the store's. -/
theorem mem_mput {m : Memory} {a : Nat} {b : Byte} {p : Host.Cell} (h : p ∈ mput m a b) : p ∈ m ∨ p = (a, b) := by
  induction m with
  | nil =>
    simp only [mput] at h
    split at h <;> simp_all
  | cons q t ih =>
    obtain ⟨k, c⟩ := q
    simp only [mput] at h
    split at h
    · split at h
      · exact .inl h
      · rcases List.mem_cons.1 h with h | h
        · exact .inr h
        · exact .inl h
    · split at h
      · split at h
        · exact .inl (List.mem_cons_of_mem _ h)
        · rcases List.mem_cons.1 h with h | h
          · exact .inr h
          · exact .inl (List.mem_cons_of_mem _ h)
      · rcases List.mem_cons.1 h with h | h
        · exact .inl (h ▸ List.mem_cons_self)
        · rcases ih h with h | h
          · exact .inl (List.mem_cons_of_mem _ h)
          · exact .inr h

theorem wf_mput {m : Memory} (a : Nat) (b : Byte) (h : m.wf = true) : Memory.wf (mput m a b) = true := by
  induction m with
  | nil =>
    simp only [mput]
    split
    · rfl
    · simpa [Memory.wf]
  | cons q t ih =>
    obtain ⟨k, c⟩ := q
    have h' := wf_cons.1 h
    simp only [mput]
    split
    · rename_i hlt
      split
      · exact h
      · rename_i hb
        refine wf_cons.2 ⟨fun p hp => ?_, hb, h⟩
        rcases List.mem_cons.1 hp with rfl | hp
        · exact hlt
        · exact lt_trans hlt (h'.1 p hp)
    · split
      · rename_i he
        split
        · exact h'.2.2
        · rename_i hb
          exact wf_cons.2 ⟨fun p hp => he ▸ h'.1 p hp, hb, h'.2.2⟩
      · rename_i h1 h2
        refine wf_cons.2 ⟨fun p hp => ?_, h'.2.1, ih h'.2.2⟩
        rcases mem_mput hp with hp | rfl
        · exact h'.1 p hp
        · simp only
          omega

theorem wf_mputs {m : Memory} (a : Nat) (bs : List Byte) (h : m.wf = true) : Memory.wf (mputs m a bs) = true := by
  induction bs generalizing m a with
  | nil => exact h
  | cons b bs ih => exact ih (a + 1) (wf_mput a b h)

theorem wf_mputN {m : Memory} (a n v : Nat) (h : m.wf = true) : Memory.wf (mputN m a n v) = true := wf_mputs a _ h

theorem wf_mclear {m : Memory} (a n : Nat) (h : m.wf = true) : Memory.wf (mclear m a n) = true := wf_filter _ h

theorem wf_moverlay {m : Memory} (a : Nat) (cells : Memory) (h : m.wf = true) : Memory.wf (moverlay m a cells) = true := by
  unfold moverlay
  induction cells generalizing m with
  | nil => exact h
  | cons c cs ih => exact ih (wf_mput _ _ h)

theorem wf_mreplace {m : Memory} (a n : Nat) (cells : Memory) (h : m.wf = true) : Memory.wf (mreplace m a n cells) = true :=
  wf_moverlay _ _ (wf_mclear _ _ h)

theorem wf_mslice {m : Memory} (a n : Nat) (h : m.wf = true) : Memory.wf (mslice m a n) = true := by
  rw [wf_iff] at *
  unfold mslice
  refine ⟨?_, ?_⟩
  · rw [List.pairwise_map]
    refine (List.Pairwise.filter _ h.1).imp_of_mem ?_
    intro p q hp hq hlt
    have hp := (List.mem_filter.1 hp).2
    simp only [Bool.and_eq_true, decide_eq_true_eq] at hp
    simp only
    omega
  · intro p hp
    obtain ⟨q, hq, rfl⟩ := List.mem_map.1 hp
    exact h.2 q (List.mem_filter.1 hq).1

/-- A fold of byte writes keeps the canonical form. -/
theorem wf_foldl {α : Type} (f : Memory → α → Memory) (hf : ∀ m x, m.wf = true → (f m x).wf = true) (l : List α) {m : Memory}
    (h : m.wf = true) : (l.foldl f m).wf = true := by
  induction l generalizing m with
  | nil => exact h
  | cons x l ih => exact ih (hf m x h)

/-! Reads after writes. -/

theorem mget_absent {m : Memory} {a : Nat} (h : ∀ p ∈ m, p.1 ≠ a) : mget m a = 0 := by
  induction m with
  | nil => rfl
  | cons p t ih =>
    obtain ⟨k, b⟩ := p
    simp only [mget]
    rw [if_neg (h (k, b) List.mem_cons_self)]
    exact ih fun q hq => h q (List.mem_cons_of_mem _ hq)

theorem mget_mput {m : Memory} (h : m.wf = true) (a : Nat) (b : Byte) (x : Nat) :
    mget (mput m a b) x = if x = a then b else mget m x := by
  induction m with
  | nil =>
    simp only [mput]
    split
    · rename_i hb
      simp only [mget, hb, ite_self]
    · simp only [mget]
      split <;> split <;> simp_all
  | cons q t ih =>
    obtain ⟨k, c⟩ := q
    have h' := wf_cons.1 h
    simp only [mput]
    split
    · rename_i hlt
      have habs : mget ((k, c) :: t) a = 0 := by
        refine mget_absent fun p hp => ?_
        rcases List.mem_cons.1 hp with rfl | hp
        · simp only
          omega
        · have := h'.1 p hp
          omega
      split
      · rename_i hb
        split
        · rename_i hx
          rw [hx, habs, hb]
        · rfl
      · rw [mget]
        split
        · rename_i hx
          rw [if_pos hx.symm]
        · rename_i hx
          rw [if_neg (fun e => hx e.symm)]
    · split
      · rename_i he
        subst he
        have habs : mget t a = 0 := mget_absent fun p hp => by have := h'.1 p hp; omega
        split
        · rename_i hb
          split
          · rename_i hx
            rw [hx, habs, hb]
          · rename_i hx
            rw [mget, if_neg (fun e => hx e.symm)]
        · rw [mget]
          split
          · rename_i hx
            rw [if_pos hx.symm]
          · rename_i hx
            rw [if_neg (fun e => hx e.symm), mget, if_neg hx]
      · rename_i h1 h2
        simp only [mget]
        split
        · rename_i hx
          rw [if_neg (by omega)]
        · exact ih h'.2.2

theorem mget_mput_same {m : Memory} (h : m.wf = true) (a : Nat) (b : Byte) : mget (mput m a b) a = b := by
  rw [mget_mput h, if_pos rfl]

theorem mget_mput_other {m : Memory} (h : m.wf = true) {a x : Nat} (b : Byte) (hx : x ≠ a) : mget (mput m a b) x = mget m x := by
  rw [mget_mput h, if_neg hx]

theorem mget_mputs {m : Memory} (h : m.wf = true) (a : Nat) (bs : List Byte) (x : Nat) :
    mget (mputs m a bs) x = if a ≤ x ∧ x < a + bs.length then bs.getD (x - a) 0 else mget m x := by
  induction bs generalizing m a with
  | nil =>
    rw [if_neg (by simp only [List.length_nil]; omega)]
    rfl
  | cons b bs ih =>
    rw [mputs, ih (wf_mput a b h), mget_mput h]
    simp only [List.length_cons]
    by_cases hx : x = a
    · subst hx
      rw [if_neg (by omega), if_pos rfl, if_pos (by omega)]
      simp
    · by_cases h2 : a + 1 ≤ x ∧ x < a + 1 + bs.length
      · rw [if_pos h2, if_pos (by omega)]
        obtain ⟨d, hd⟩ : ∃ d, x - a = d + 1 := ⟨x - a - 1, by omega⟩
        rw [hd, List.getD_cons_succ, show x - (a + 1) = d by omega]
      · rw [if_neg h2, if_neg hx, if_neg (by omega)]

theorem mget_mputs_other {m : Memory} (h : m.wf = true) {a x : Nat} (bs : List Byte) (hx : x < a ∨ a + bs.length ≤ x) :
    mget (mputs m a bs) x = mget m x := by
  rw [mget_mputs h, if_neg (by omega)]

theorem mgets_congr {m m' : Memory} {a n : Nat} (h : ∀ x, a ≤ x → x < a + n → mget m x = mget m' x) : mgets m a n = mgets m' a n := by
  induction n generalizing a with
  | zero => rfl
  | succ n ih =>
    rw [mgets, mgets, h a (by omega) (by omega), ih fun x h1 h2 => h x (by omega) (by omega)]

@[simp] theorem length_mgets (m : Memory) (a n : Nat) : (mgets m a n).length = n := by
  induction n generalizing a with
  | zero => rfl
  | succ n ih => simp [mgets, ih]

@[simp] theorem length_leBytes (n v : Nat) : (leBytes n v).length = n := by
  induction n generalizing v with
  | zero => rfl
  | succ n ih => simp [leBytes, ih]

theorem mgets_mputs_same {m : Memory} (h : m.wf = true) (a : Nat) (bs : List Byte) : mgets (mputs m a bs) a bs.length = bs := by
  induction bs generalizing m a with
  | nil => rfl
  | cons b bs ih =>
    rw [mputs, List.length_cons, mgets, ih (wf_mput a b h), mget_mputs_other (wf_mput a b h) _ (by omega), mget_mput_same h]

theorem ofLe_leBytes (n v : Nat) : ofLe (leBytes n v) = v % 256 ^ n := by
  induction n generalizing v with
  | zero => simp [ofLe, leBytes, Nat.mod_one]
  | succ n ih =>
    have h8 : (BitVec.ofNat 8 v).toNat = v % 256 := BitVec.toNat_ofNat v 8
    rw [leBytes, ofLe, ih, h8, pow_succ, mul_comm (256 ^ n), Nat.mod_mul]

theorem mgetN_mputN_same {m : Memory} (h : m.wf = true) (a n v : Nat) : mgetN (mputN m a n v) a n = v % 256 ^ n := by
  have := mgets_mputs_same h a (leBytes n v)
  rw [length_leBytes] at this
  rw [mgetN, mputN, this, ofLe_leBytes]

theorem mgetN_mputN_other {m : Memory} (h : m.wf = true) {a b n k : Nat} (v : Nat) (hd : b + k ≤ a ∨ a + n ≤ b) :
    mgetN (mputN m a n v) b k = mgetN m b k := by
  rw [mgetN, mgetN, mputN]
  congr 1
  refine mgets_congr fun x h1 h2 => mget_mputs_other h _ ?_
  rw [length_leBytes]
  omega

theorem mget_mclear (m : Memory) (a n x : Nat) : mget (mclear m a n) x = if a ≤ x ∧ x < a + n then 0 else mget m x := by
  unfold mclear
  induction m with
  | nil => simp [mget]
  | cons p t ih =>
    obtain ⟨k, b⟩ := p
    rw [List.filter_cons]
    split
    · rename_i hk
      simp only [Bool.not_eq_true', Bool.and_eq_false_iff, decide_eq_false_iff_not] at hk
      rw [mget, ih, mget]
      split
      · rename_i hx
        rw [if_neg (by omega)]
      · rfl
    · rename_i hk
      simp only [Bool.not_eq_true', Bool.and_eq_false_iff, decide_eq_false_iff_not, not_or, not_not] at hk
      rw [ih, mget]
      split
      · rfl
      · rename_i hx
        rw [if_neg (by omega)]

/-- Two stores in canonical form that read alike are one. -/
theorem memory_ext {m m' : Memory} (h : m.wf = true) (h' : m'.wf = true) (he : ∀ a, mget m a = mget m' a) : m = m' := by
  induction m generalizing m' with
  | nil =>
    cases m' with
    | nil => rfl
    | cons q t =>
      have hc := wf_cons.1 h'
      have := he q.1
      simp only [mget, if_true] at this
      exact absurd this.symm hc.2.1
  | cons p t ih =>
    have hc := wf_cons.1 h
    cases m' with
    | nil =>
      have := he p.1
      simp only [mget, if_true] at this
      exact absurd this hc.2.1
    | cons q u =>
      have hc' := wf_cons.1 h'
      have hk : p.1 = q.1 := by
        by_contra hne
        rcases lt_or_gt_of_ne hne with hlt | hlt
        · have h0 := he p.1
          rw [show mget (p :: t) p.1 = p.2 by simp [mget],
            mget_absent (m := q :: u) (fun r hr => by
              rcases List.mem_cons.1 hr with rfl | hr
              · omega
              · have := hc'.1 r hr; omega)] at h0
          exact hc.2.1 h0
        · have h0 := he q.1
          rw [show mget (q :: u) q.1 = q.2 by simp [mget],
            mget_absent (m := p :: t) (fun r hr => by
              rcases List.mem_cons.1 hr with rfl | hr
              · omega
              · have := hc.1 r hr; omega)] at h0
          exact hc'.2.1 h0.symm
      have hb : p.2 = q.2 := by
        have := he p.1
        simpa [mget, hk] using this
      have hp : p = q := Prod.ext hk hb
      subst hp
      congr 1
      refine ih hc.2.2 hc'.2.2 fun a => ?_
      have := he a
      simp only [mget] at this
      by_cases ha : p.1 = a
      · subst ha
        rw [mget_absent fun r hr => by have := hc.1 r hr; omega, mget_absent fun r hr => by have := hc'.1 r hr; omega]
      · simpa [ha] using this

/-! Tables and vectors. -/

theorem tget_tset_same {α : Type} (t : Table α) (i : Nat) (x d : α) : tget (tset t i x) i d = x := by
  simp [tget, tset]

theorem tget_tset_other {α : Type} (t : Table α) {i j : Nat} (x d : α) (h : j ≠ i) : tget (tset t i x) j d = tget t j d := by
  unfold tget tset
  rw [List.find?_cons_of_neg (by simpa using fun e => h e.symm)]
  have : (t.filter fun p => p.1 != i).find? (fun p => p.1 == j) = t.find? fun p => p.1 == j := by
    induction t with
    | nil => rfl
    | cons p t ih =>
      simp only [List.filter_cons]
      by_cases hp : p.1 = i
      · simp only [hp, bne_self_eq_false, Bool.false_eq_true, if_false, ih]
        rw [List.find?_cons_of_neg (by simpa [hp] using fun e => h e.symm)]
      · simp only [bne_iff_ne, ne_eq, hp, not_false_eq_true, if_true, List.find?_cons, ih]
  rw [this]

@[simp] theorem vget_vset_same {α : Type} {n : Nat} (v : Vector α n) {i : Nat} (x d : α) (h : i < n) : vget (vset v i x) i d = x := by
  simp [vget, vset, h]

theorem vget_vset_other {α : Type} {n : Nat} (v : Vector α n) {i j : Nat} (x d : α) (h : j ≠ i) :
    vget (vset v i x) j d = vget v j d := by
  simp [vget, vset, Ne.symm h]

end Sys2Proof.Laws
end

