-- ==== Sys2Proof/Laws/State.lean ====
section
/-!
SUPPORT. What an update of the state leaves as it was: one lemma per field per update, and the named updates as one of the four
basic ones.
-/

namespace Sys2Proof.Laws

open Sys2Proof.Machine

/-! `withHart` changes `hart` alone. -/

@[simp] theorem withHart_hart (s : State) (f : Hart → Hart) : (withHart s f).hart = f s.hart := rfl
@[simp] theorem withHart_core (s : State) (f : Hart → Hart) : (withHart s f).core = s.core := rfl
@[simp] theorem withHart_die (s : State) (f : Hart → Hart) : (withHart s f).die = s.die := rfl
@[simp] theorem withHart_others (s : State) (f : Hart → Hart) : (withHart s f).others = s.others := rfl
@[simp] theorem withHart_otherCores (s : State) (f : Hart → Hart) : (withHart s f).otherCores = s.otherCores := rfl
@[simp] theorem withHart_otherDies (s : State) (f : Hart → Hart) : (withHart s f).otherDies = s.otherDies := rfl
@[simp] theorem withHart_memory (s : State) (f : Hart → Hart) : (withHart s f).memory = s.memory := rfl
@[simp] theorem withHart_time (s : State) (f : Hart → Hart) : (withHart s f).time = s.time := rfl
@[simp] theorem withHart_regs (s : State) (f : Hart → Hart) : (withHart s f).regs = s.regs := rfl
@[simp] theorem withHart_membership (s : State) (f : Hart → Hart) : (withHart s f).membership = s.membership := rfl
@[simp] theorem withHart_hostq (s : State) (f : Hart → Hart) : (withHart s f).hostq = s.hostq := rfl
@[simp] theorem withHart_hqTurn (s : State) (f : Hart → Hart) : (withHart s f).hqTurn = s.hqTurn := rfl
@[simp] theorem withHart_reqs (s : State) (f : Hart → Hart) : (withHart s f).reqs = s.reqs := rfl
@[simp] theorem withHart_nextGang (s : State) (f : Hart → Hart) : (withHart s f).nextGang = s.nextGang := rfl
@[simp] theorem withHart_posts (s : State) (f : Hart → Hart) : (withHart s f).posts = s.posts := rfl
@[simp] theorem withHart_slots (s : State) (f : Hart → Hart) : (withHart s f).slots = s.slots := rfl
@[simp] theorem withHart_arrq (s : State) (f : Hart → Hart) : (withHart s f).arrq = s.arrq := rfl
@[simp] theorem withHart_arrived (s : State) (f : Hart → Hart) : (withHart s f).arrived = s.arrived := rfl
@[simp] theorem withHart_incoming (s : State) (f : Hart → Hart) : (withHart s f).incoming = s.incoming := rfl
@[simp] theorem withHart_transit (s : State) (f : Hart → Hart) : (withHart s f).transit = s.transit := rfl
@[simp] theorem withHart_pool (s : State) (f : Hart → Hart) : (withHart s f).pool = s.pool := rfl
@[simp] theorem withHart_barriers (s : State) (f : Hart → Hart) : (withHart s f).barriers = s.barriers := rfl
@[simp] theorem withHart_events (s : State) (f : Hart → Hart) : (withHart s f).events = s.events := rfl
@[simp] theorem withHart_ringDropped (s : State) (f : Hart → Hart) : (withHart s f).ringDropped = s.ringDropped := rfl
@[simp] theorem withHart_saved (s : State) (f : Hart → Hart) : (withHart s f).saved = s.saved := rfl
@[simp] theorem withHart_tlb (s : State) (f : Hart → Hart) : (withHart s f).tlb = s.tlb := rfl
@[simp] theorem withHart_pubs (s : State) (f : Hart → Hart) : (withHart s f).pubs = s.pubs := rfl
@[simp] theorem withHart_linePubs (s : State) (f : Hart → Hart) : (withHart s f).linePubs = s.linePubs := rfl
@[simp] theorem withHart_shadows (s : State) (f : Hart → Hart) : (withHart s f).shadows = s.shadows := rfl
@[simp] theorem withHart_stalls (s : State) (f : Hart → Hart) : (withHart s f).stalls = s.stalls := rfl
@[simp] theorem withHart_spill (s : State) (f : Hart → Hart) : (withHart s f).spill = s.spill := rfl
@[simp] theorem withHart_replies (s : State) (f : Hart → Hart) : (withHart s f).replies = s.replies := rfl
@[simp] theorem withHart_answers (s : State) (f : Hart → Hart) : (withHart s f).answers = s.answers := rfl
@[simp] theorem withHart_nextSeq (s : State) (f : Hart → Hart) : (withHart s f).nextSeq = s.nextSeq := rfl
@[simp] theorem withHart_moves (s : State) (f : Hart → Hart) : (withHart s f).moves = s.moves := rfl
@[simp] theorem withHart_moved (s : State) (f : Hart → Hart) : (withHart s f).moved = s.moved := rfl
@[simp] theorem withHart_pins (s : State) (f : Hart → Hart) : (withHart s f).pins = s.pins := rfl
@[simp] theorem withHart_forwards (s : State) (f : Hart → Hart) : (withHart s f).forwards = s.forwards := rfl
@[simp] theorem withHart_packets (s : State) (f : Hart → Hart) : (withHart s f).packets = s.packets := rfl
@[simp] theorem withHart_combines (s : State) (f : Hart → Hart) : (withHart s f).combines = s.combines := rfl
@[simp] theorem withHart_ports (s : State) (f : Hart → Hart) : (withHart s f).ports = s.ports := rfl
@[simp] theorem withHart_lasers (s : State) (f : Hart → Hart) : (withHart s f).lasers = s.lasers := rfl
@[simp] theorem withHart_peers (s : State) (f : Hart → Hart) : (withHart s f).peers = s.peers := rfl
@[simp] theorem withHart_lost (s : State) (f : Hart → Hart) : (withHart s f).lost = s.lost := rfl
@[simp] theorem withHart_delays (s : State) (f : Hart → Hart) : (withHart s f).delays = s.delays := rfl
@[simp] theorem withHart_badBytes (s : State) (f : Hart → Hart) : (withHart s f).badBytes = s.badBytes := rfl
@[simp] theorem withHart_lasting (s : State) (f : Hart → Hart) : (withHart s f).lasting = s.lasting := rfl
@[simp] theorem withHart_laneErrors (s : State) (f : Hart → Hart) : (withHart s f).laneErrors = s.laneErrors := rfl
@[simp] theorem withHart_frameErrors (s : State) (f : Hart → Hart) : (withHart s f).frameErrors = s.frameErrors := rfl
@[simp] theorem withHart_power (s : State) (f : Hart → Hart) : (withHart s f).power = s.power := rfl
@[simp] theorem withHart_turns (s : State) (f : Hart → Hart) : (withHart s f).turns = s.turns := rfl
@[simp] theorem withHart_agenda (s : State) (f : Hart → Hart) : (withHart s f).agenda = s.agenda := rfl
@[simp] theorem withHart_tick (s : State) (f : Hart → Hart) : (withHart s f).tick = s.tick := rfl

@[simp] theorem withHart_withHart (s : State) (f g : Hart → Hart) : withHart (withHart s f) g = withHart s (fun x => g (f x)) := rfl

/-! `withCore` changes `core` alone. -/

@[simp] theorem withCore_hart (s : State) (f : Core → Core) : (withCore s f).hart = s.hart := rfl
@[simp] theorem withCore_core (s : State) (f : Core → Core) : (withCore s f).core = f s.core := rfl
@[simp] theorem withCore_die (s : State) (f : Core → Core) : (withCore s f).die = s.die := rfl
@[simp] theorem withCore_others (s : State) (f : Core → Core) : (withCore s f).others = s.others := rfl
@[simp] theorem withCore_otherCores (s : State) (f : Core → Core) : (withCore s f).otherCores = s.otherCores := rfl
@[simp] theorem withCore_otherDies (s : State) (f : Core → Core) : (withCore s f).otherDies = s.otherDies := rfl
@[simp] theorem withCore_memory (s : State) (f : Core → Core) : (withCore s f).memory = s.memory := rfl
@[simp] theorem withCore_time (s : State) (f : Core → Core) : (withCore s f).time = s.time := rfl
@[simp] theorem withCore_regs (s : State) (f : Core → Core) : (withCore s f).regs = s.regs := rfl
@[simp] theorem withCore_membership (s : State) (f : Core → Core) : (withCore s f).membership = s.membership := rfl
@[simp] theorem withCore_hostq (s : State) (f : Core → Core) : (withCore s f).hostq = s.hostq := rfl
@[simp] theorem withCore_hqTurn (s : State) (f : Core → Core) : (withCore s f).hqTurn = s.hqTurn := rfl
@[simp] theorem withCore_reqs (s : State) (f : Core → Core) : (withCore s f).reqs = s.reqs := rfl
@[simp] theorem withCore_nextGang (s : State) (f : Core → Core) : (withCore s f).nextGang = s.nextGang := rfl
@[simp] theorem withCore_posts (s : State) (f : Core → Core) : (withCore s f).posts = s.posts := rfl
@[simp] theorem withCore_slots (s : State) (f : Core → Core) : (withCore s f).slots = s.slots := rfl
@[simp] theorem withCore_arrq (s : State) (f : Core → Core) : (withCore s f).arrq = s.arrq := rfl
@[simp] theorem withCore_arrived (s : State) (f : Core → Core) : (withCore s f).arrived = s.arrived := rfl
@[simp] theorem withCore_incoming (s : State) (f : Core → Core) : (withCore s f).incoming = s.incoming := rfl
@[simp] theorem withCore_transit (s : State) (f : Core → Core) : (withCore s f).transit = s.transit := rfl
@[simp] theorem withCore_pool (s : State) (f : Core → Core) : (withCore s f).pool = s.pool := rfl
@[simp] theorem withCore_barriers (s : State) (f : Core → Core) : (withCore s f).barriers = s.barriers := rfl
@[simp] theorem withCore_events (s : State) (f : Core → Core) : (withCore s f).events = s.events := rfl
@[simp] theorem withCore_ringDropped (s : State) (f : Core → Core) : (withCore s f).ringDropped = s.ringDropped := rfl
@[simp] theorem withCore_saved (s : State) (f : Core → Core) : (withCore s f).saved = s.saved := rfl
@[simp] theorem withCore_tlb (s : State) (f : Core → Core) : (withCore s f).tlb = s.tlb := rfl
@[simp] theorem withCore_pubs (s : State) (f : Core → Core) : (withCore s f).pubs = s.pubs := rfl
@[simp] theorem withCore_linePubs (s : State) (f : Core → Core) : (withCore s f).linePubs = s.linePubs := rfl
@[simp] theorem withCore_shadows (s : State) (f : Core → Core) : (withCore s f).shadows = s.shadows := rfl
@[simp] theorem withCore_stalls (s : State) (f : Core → Core) : (withCore s f).stalls = s.stalls := rfl
@[simp] theorem withCore_spill (s : State) (f : Core → Core) : (withCore s f).spill = s.spill := rfl
@[simp] theorem withCore_replies (s : State) (f : Core → Core) : (withCore s f).replies = s.replies := rfl
@[simp] theorem withCore_answers (s : State) (f : Core → Core) : (withCore s f).answers = s.answers := rfl
@[simp] theorem withCore_nextSeq (s : State) (f : Core → Core) : (withCore s f).nextSeq = s.nextSeq := rfl
@[simp] theorem withCore_moves (s : State) (f : Core → Core) : (withCore s f).moves = s.moves := rfl
@[simp] theorem withCore_moved (s : State) (f : Core → Core) : (withCore s f).moved = s.moved := rfl
@[simp] theorem withCore_pins (s : State) (f : Core → Core) : (withCore s f).pins = s.pins := rfl
@[simp] theorem withCore_forwards (s : State) (f : Core → Core) : (withCore s f).forwards = s.forwards := rfl
@[simp] theorem withCore_packets (s : State) (f : Core → Core) : (withCore s f).packets = s.packets := rfl
@[simp] theorem withCore_combines (s : State) (f : Core → Core) : (withCore s f).combines = s.combines := rfl
@[simp] theorem withCore_ports (s : State) (f : Core → Core) : (withCore s f).ports = s.ports := rfl
@[simp] theorem withCore_lasers (s : State) (f : Core → Core) : (withCore s f).lasers = s.lasers := rfl
@[simp] theorem withCore_peers (s : State) (f : Core → Core) : (withCore s f).peers = s.peers := rfl
@[simp] theorem withCore_lost (s : State) (f : Core → Core) : (withCore s f).lost = s.lost := rfl
@[simp] theorem withCore_delays (s : State) (f : Core → Core) : (withCore s f).delays = s.delays := rfl
@[simp] theorem withCore_badBytes (s : State) (f : Core → Core) : (withCore s f).badBytes = s.badBytes := rfl
@[simp] theorem withCore_lasting (s : State) (f : Core → Core) : (withCore s f).lasting = s.lasting := rfl
@[simp] theorem withCore_laneErrors (s : State) (f : Core → Core) : (withCore s f).laneErrors = s.laneErrors := rfl
@[simp] theorem withCore_frameErrors (s : State) (f : Core → Core) : (withCore s f).frameErrors = s.frameErrors := rfl
@[simp] theorem withCore_power (s : State) (f : Core → Core) : (withCore s f).power = s.power := rfl
@[simp] theorem withCore_turns (s : State) (f : Core → Core) : (withCore s f).turns = s.turns := rfl
@[simp] theorem withCore_agenda (s : State) (f : Core → Core) : (withCore s f).agenda = s.agenda := rfl
@[simp] theorem withCore_tick (s : State) (f : Core → Core) : (withCore s f).tick = s.tick := rfl

@[simp] theorem withCore_withCore (s : State) (f g : Core → Core) : withCore (withCore s f) g = withCore s (fun x => g (f x)) := rfl

/-! `withDie` changes `die` alone. -/

@[simp] theorem withDie_hart (s : State) (f : Die → Die) : (withDie s f).hart = s.hart := rfl
@[simp] theorem withDie_core (s : State) (f : Die → Die) : (withDie s f).core = s.core := rfl
@[simp] theorem withDie_die (s : State) (f : Die → Die) : (withDie s f).die = f s.die := rfl
@[simp] theorem withDie_others (s : State) (f : Die → Die) : (withDie s f).others = s.others := rfl
@[simp] theorem withDie_otherCores (s : State) (f : Die → Die) : (withDie s f).otherCores = s.otherCores := rfl
@[simp] theorem withDie_otherDies (s : State) (f : Die → Die) : (withDie s f).otherDies = s.otherDies := rfl
@[simp] theorem withDie_memory (s : State) (f : Die → Die) : (withDie s f).memory = s.memory := rfl
@[simp] theorem withDie_time (s : State) (f : Die → Die) : (withDie s f).time = s.time := rfl
@[simp] theorem withDie_regs (s : State) (f : Die → Die) : (withDie s f).regs = s.regs := rfl
@[simp] theorem withDie_membership (s : State) (f : Die → Die) : (withDie s f).membership = s.membership := rfl
@[simp] theorem withDie_hostq (s : State) (f : Die → Die) : (withDie s f).hostq = s.hostq := rfl
@[simp] theorem withDie_hqTurn (s : State) (f : Die → Die) : (withDie s f).hqTurn = s.hqTurn := rfl
@[simp] theorem withDie_reqs (s : State) (f : Die → Die) : (withDie s f).reqs = s.reqs := rfl
@[simp] theorem withDie_nextGang (s : State) (f : Die → Die) : (withDie s f).nextGang = s.nextGang := rfl
@[simp] theorem withDie_posts (s : State) (f : Die → Die) : (withDie s f).posts = s.posts := rfl
@[simp] theorem withDie_slots (s : State) (f : Die → Die) : (withDie s f).slots = s.slots := rfl
@[simp] theorem withDie_arrq (s : State) (f : Die → Die) : (withDie s f).arrq = s.arrq := rfl
@[simp] theorem withDie_arrived (s : State) (f : Die → Die) : (withDie s f).arrived = s.arrived := rfl
@[simp] theorem withDie_incoming (s : State) (f : Die → Die) : (withDie s f).incoming = s.incoming := rfl
@[simp] theorem withDie_transit (s : State) (f : Die → Die) : (withDie s f).transit = s.transit := rfl
@[simp] theorem withDie_pool (s : State) (f : Die → Die) : (withDie s f).pool = s.pool := rfl
@[simp] theorem withDie_barriers (s : State) (f : Die → Die) : (withDie s f).barriers = s.barriers := rfl
@[simp] theorem withDie_events (s : State) (f : Die → Die) : (withDie s f).events = s.events := rfl
@[simp] theorem withDie_ringDropped (s : State) (f : Die → Die) : (withDie s f).ringDropped = s.ringDropped := rfl
@[simp] theorem withDie_saved (s : State) (f : Die → Die) : (withDie s f).saved = s.saved := rfl
@[simp] theorem withDie_tlb (s : State) (f : Die → Die) : (withDie s f).tlb = s.tlb := rfl
@[simp] theorem withDie_pubs (s : State) (f : Die → Die) : (withDie s f).pubs = s.pubs := rfl
@[simp] theorem withDie_linePubs (s : State) (f : Die → Die) : (withDie s f).linePubs = s.linePubs := rfl
@[simp] theorem withDie_shadows (s : State) (f : Die → Die) : (withDie s f).shadows = s.shadows := rfl
@[simp] theorem withDie_stalls (s : State) (f : Die → Die) : (withDie s f).stalls = s.stalls := rfl
@[simp] theorem withDie_spill (s : State) (f : Die → Die) : (withDie s f).spill = s.spill := rfl
@[simp] theorem withDie_replies (s : State) (f : Die → Die) : (withDie s f).replies = s.replies := rfl
@[simp] theorem withDie_answers (s : State) (f : Die → Die) : (withDie s f).answers = s.answers := rfl
@[simp] theorem withDie_nextSeq (s : State) (f : Die → Die) : (withDie s f).nextSeq = s.nextSeq := rfl
@[simp] theorem withDie_moves (s : State) (f : Die → Die) : (withDie s f).moves = s.moves := rfl
@[simp] theorem withDie_moved (s : State) (f : Die → Die) : (withDie s f).moved = s.moved := rfl
@[simp] theorem withDie_pins (s : State) (f : Die → Die) : (withDie s f).pins = s.pins := rfl
@[simp] theorem withDie_forwards (s : State) (f : Die → Die) : (withDie s f).forwards = s.forwards := rfl
@[simp] theorem withDie_packets (s : State) (f : Die → Die) : (withDie s f).packets = s.packets := rfl
@[simp] theorem withDie_combines (s : State) (f : Die → Die) : (withDie s f).combines = s.combines := rfl
@[simp] theorem withDie_ports (s : State) (f : Die → Die) : (withDie s f).ports = s.ports := rfl
@[simp] theorem withDie_lasers (s : State) (f : Die → Die) : (withDie s f).lasers = s.lasers := rfl
@[simp] theorem withDie_peers (s : State) (f : Die → Die) : (withDie s f).peers = s.peers := rfl
@[simp] theorem withDie_lost (s : State) (f : Die → Die) : (withDie s f).lost = s.lost := rfl
@[simp] theorem withDie_delays (s : State) (f : Die → Die) : (withDie s f).delays = s.delays := rfl
@[simp] theorem withDie_badBytes (s : State) (f : Die → Die) : (withDie s f).badBytes = s.badBytes := rfl
@[simp] theorem withDie_lasting (s : State) (f : Die → Die) : (withDie s f).lasting = s.lasting := rfl
@[simp] theorem withDie_laneErrors (s : State) (f : Die → Die) : (withDie s f).laneErrors = s.laneErrors := rfl
@[simp] theorem withDie_frameErrors (s : State) (f : Die → Die) : (withDie s f).frameErrors = s.frameErrors := rfl
@[simp] theorem withDie_power (s : State) (f : Die → Die) : (withDie s f).power = s.power := rfl
@[simp] theorem withDie_turns (s : State) (f : Die → Die) : (withDie s f).turns = s.turns := rfl
@[simp] theorem withDie_agenda (s : State) (f : Die → Die) : (withDie s f).agenda = s.agenda := rfl
@[simp] theorem withDie_tick (s : State) (f : Die → Die) : (withDie s f).tick = s.tick := rfl

@[simp] theorem withDie_withDie (s : State) (f g : Die → Die) : withDie (withDie s f) g = withDie s (fun x => g (f x)) := rfl

/-! `withRegs` changes `regs` alone. -/

@[simp] theorem withRegs_hart (s : State) (f : Regs → Regs) : (withRegs s f).hart = s.hart := rfl
@[simp] theorem withRegs_core (s : State) (f : Regs → Regs) : (withRegs s f).core = s.core := rfl
@[simp] theorem withRegs_die (s : State) (f : Regs → Regs) : (withRegs s f).die = s.die := rfl
@[simp] theorem withRegs_others (s : State) (f : Regs → Regs) : (withRegs s f).others = s.others := rfl
@[simp] theorem withRegs_otherCores (s : State) (f : Regs → Regs) : (withRegs s f).otherCores = s.otherCores := rfl
@[simp] theorem withRegs_otherDies (s : State) (f : Regs → Regs) : (withRegs s f).otherDies = s.otherDies := rfl
@[simp] theorem withRegs_memory (s : State) (f : Regs → Regs) : (withRegs s f).memory = s.memory := rfl
@[simp] theorem withRegs_time (s : State) (f : Regs → Regs) : (withRegs s f).time = s.time := rfl
@[simp] theorem withRegs_regs (s : State) (f : Regs → Regs) : (withRegs s f).regs = f s.regs := rfl
@[simp] theorem withRegs_membership (s : State) (f : Regs → Regs) : (withRegs s f).membership = s.membership := rfl
@[simp] theorem withRegs_hostq (s : State) (f : Regs → Regs) : (withRegs s f).hostq = s.hostq := rfl
@[simp] theorem withRegs_hqTurn (s : State) (f : Regs → Regs) : (withRegs s f).hqTurn = s.hqTurn := rfl
@[simp] theorem withRegs_reqs (s : State) (f : Regs → Regs) : (withRegs s f).reqs = s.reqs := rfl
@[simp] theorem withRegs_nextGang (s : State) (f : Regs → Regs) : (withRegs s f).nextGang = s.nextGang := rfl
@[simp] theorem withRegs_posts (s : State) (f : Regs → Regs) : (withRegs s f).posts = s.posts := rfl
@[simp] theorem withRegs_slots (s : State) (f : Regs → Regs) : (withRegs s f).slots = s.slots := rfl
@[simp] theorem withRegs_arrq (s : State) (f : Regs → Regs) : (withRegs s f).arrq = s.arrq := rfl
@[simp] theorem withRegs_arrived (s : State) (f : Regs → Regs) : (withRegs s f).arrived = s.arrived := rfl
@[simp] theorem withRegs_incoming (s : State) (f : Regs → Regs) : (withRegs s f).incoming = s.incoming := rfl
@[simp] theorem withRegs_transit (s : State) (f : Regs → Regs) : (withRegs s f).transit = s.transit := rfl
@[simp] theorem withRegs_pool (s : State) (f : Regs → Regs) : (withRegs s f).pool = s.pool := rfl
@[simp] theorem withRegs_barriers (s : State) (f : Regs → Regs) : (withRegs s f).barriers = s.barriers := rfl
@[simp] theorem withRegs_events (s : State) (f : Regs → Regs) : (withRegs s f).events = s.events := rfl
@[simp] theorem withRegs_ringDropped (s : State) (f : Regs → Regs) : (withRegs s f).ringDropped = s.ringDropped := rfl
@[simp] theorem withRegs_saved (s : State) (f : Regs → Regs) : (withRegs s f).saved = s.saved := rfl
@[simp] theorem withRegs_tlb (s : State) (f : Regs → Regs) : (withRegs s f).tlb = s.tlb := rfl
@[simp] theorem withRegs_pubs (s : State) (f : Regs → Regs) : (withRegs s f).pubs = s.pubs := rfl
@[simp] theorem withRegs_linePubs (s : State) (f : Regs → Regs) : (withRegs s f).linePubs = s.linePubs := rfl
@[simp] theorem withRegs_shadows (s : State) (f : Regs → Regs) : (withRegs s f).shadows = s.shadows := rfl
@[simp] theorem withRegs_stalls (s : State) (f : Regs → Regs) : (withRegs s f).stalls = s.stalls := rfl
@[simp] theorem withRegs_spill (s : State) (f : Regs → Regs) : (withRegs s f).spill = s.spill := rfl
@[simp] theorem withRegs_replies (s : State) (f : Regs → Regs) : (withRegs s f).replies = s.replies := rfl
@[simp] theorem withRegs_answers (s : State) (f : Regs → Regs) : (withRegs s f).answers = s.answers := rfl
@[simp] theorem withRegs_nextSeq (s : State) (f : Regs → Regs) : (withRegs s f).nextSeq = s.nextSeq := rfl
@[simp] theorem withRegs_moves (s : State) (f : Regs → Regs) : (withRegs s f).moves = s.moves := rfl
@[simp] theorem withRegs_moved (s : State) (f : Regs → Regs) : (withRegs s f).moved = s.moved := rfl
@[simp] theorem withRegs_pins (s : State) (f : Regs → Regs) : (withRegs s f).pins = s.pins := rfl
@[simp] theorem withRegs_forwards (s : State) (f : Regs → Regs) : (withRegs s f).forwards = s.forwards := rfl
@[simp] theorem withRegs_packets (s : State) (f : Regs → Regs) : (withRegs s f).packets = s.packets := rfl
@[simp] theorem withRegs_combines (s : State) (f : Regs → Regs) : (withRegs s f).combines = s.combines := rfl
@[simp] theorem withRegs_ports (s : State) (f : Regs → Regs) : (withRegs s f).ports = s.ports := rfl
@[simp] theorem withRegs_lasers (s : State) (f : Regs → Regs) : (withRegs s f).lasers = s.lasers := rfl
@[simp] theorem withRegs_peers (s : State) (f : Regs → Regs) : (withRegs s f).peers = s.peers := rfl
@[simp] theorem withRegs_lost (s : State) (f : Regs → Regs) : (withRegs s f).lost = s.lost := rfl
@[simp] theorem withRegs_delays (s : State) (f : Regs → Regs) : (withRegs s f).delays = s.delays := rfl
@[simp] theorem withRegs_badBytes (s : State) (f : Regs → Regs) : (withRegs s f).badBytes = s.badBytes := rfl
@[simp] theorem withRegs_lasting (s : State) (f : Regs → Regs) : (withRegs s f).lasting = s.lasting := rfl
@[simp] theorem withRegs_laneErrors (s : State) (f : Regs → Regs) : (withRegs s f).laneErrors = s.laneErrors := rfl
@[simp] theorem withRegs_frameErrors (s : State) (f : Regs → Regs) : (withRegs s f).frameErrors = s.frameErrors := rfl
@[simp] theorem withRegs_power (s : State) (f : Regs → Regs) : (withRegs s f).power = s.power := rfl
@[simp] theorem withRegs_turns (s : State) (f : Regs → Regs) : (withRegs s f).turns = s.turns := rfl
@[simp] theorem withRegs_agenda (s : State) (f : Regs → Regs) : (withRegs s f).agenda = s.agenda := rfl
@[simp] theorem withRegs_tick (s : State) (f : Regs → Regs) : (withRegs s f).tick = s.tick := rfl

@[simp] theorem withRegs_withRegs (s : State) (f g : Regs → Regs) : withRegs (withRegs s f) g = withRegs s (fun x => g (f x)) := rfl

/-! `schedule` changes the agenda alone, an event record the agenda and the records that wait. -/

@[simp] theorem schedule_hart (s : State) (i : Instr) : (schedule s i).hart = s.hart := rfl
@[simp] theorem schedule_core (s : State) (i : Instr) : (schedule s i).core = s.core := rfl
@[simp] theorem schedule_die (s : State) (i : Instr) : (schedule s i).die = s.die := rfl
@[simp] theorem schedule_others (s : State) (i : Instr) : (schedule s i).others = s.others := rfl
@[simp] theorem schedule_otherCores (s : State) (i : Instr) : (schedule s i).otherCores = s.otherCores := rfl
@[simp] theorem schedule_otherDies (s : State) (i : Instr) : (schedule s i).otherDies = s.otherDies := rfl
@[simp] theorem schedule_memory (s : State) (i : Instr) : (schedule s i).memory = s.memory := rfl
@[simp] theorem schedule_time (s : State) (i : Instr) : (schedule s i).time = s.time := rfl
@[simp] theorem schedule_regs (s : State) (i : Instr) : (schedule s i).regs = s.regs := rfl
@[simp] theorem schedule_membership (s : State) (i : Instr) : (schedule s i).membership = s.membership := rfl
@[simp] theorem schedule_hostq (s : State) (i : Instr) : (schedule s i).hostq = s.hostq := rfl
@[simp] theorem schedule_hqTurn (s : State) (i : Instr) : (schedule s i).hqTurn = s.hqTurn := rfl
@[simp] theorem schedule_reqs (s : State) (i : Instr) : (schedule s i).reqs = s.reqs := rfl
@[simp] theorem schedule_nextGang (s : State) (i : Instr) : (schedule s i).nextGang = s.nextGang := rfl
@[simp] theorem schedule_posts (s : State) (i : Instr) : (schedule s i).posts = s.posts := rfl
@[simp] theorem schedule_slots (s : State) (i : Instr) : (schedule s i).slots = s.slots := rfl
@[simp] theorem schedule_arrq (s : State) (i : Instr) : (schedule s i).arrq = s.arrq := rfl
@[simp] theorem schedule_arrived (s : State) (i : Instr) : (schedule s i).arrived = s.arrived := rfl
@[simp] theorem schedule_incoming (s : State) (i : Instr) : (schedule s i).incoming = s.incoming := rfl
@[simp] theorem schedule_transit (s : State) (i : Instr) : (schedule s i).transit = s.transit := rfl
@[simp] theorem schedule_pool (s : State) (i : Instr) : (schedule s i).pool = s.pool := rfl
@[simp] theorem schedule_barriers (s : State) (i : Instr) : (schedule s i).barriers = s.barriers := rfl
@[simp] theorem schedule_events (s : State) (i : Instr) : (schedule s i).events = s.events := rfl
@[simp] theorem schedule_ringDropped (s : State) (i : Instr) : (schedule s i).ringDropped = s.ringDropped := rfl
@[simp] theorem schedule_saved (s : State) (i : Instr) : (schedule s i).saved = s.saved := rfl
@[simp] theorem schedule_tlb (s : State) (i : Instr) : (schedule s i).tlb = s.tlb := rfl
@[simp] theorem schedule_pubs (s : State) (i : Instr) : (schedule s i).pubs = s.pubs := rfl
@[simp] theorem schedule_linePubs (s : State) (i : Instr) : (schedule s i).linePubs = s.linePubs := rfl
@[simp] theorem schedule_shadows (s : State) (i : Instr) : (schedule s i).shadows = s.shadows := rfl
@[simp] theorem schedule_stalls (s : State) (i : Instr) : (schedule s i).stalls = s.stalls := rfl
@[simp] theorem schedule_spill (s : State) (i : Instr) : (schedule s i).spill = s.spill := rfl
@[simp] theorem schedule_replies (s : State) (i : Instr) : (schedule s i).replies = s.replies := rfl
@[simp] theorem schedule_answers (s : State) (i : Instr) : (schedule s i).answers = s.answers := rfl
@[simp] theorem schedule_nextSeq (s : State) (i : Instr) : (schedule s i).nextSeq = s.nextSeq := rfl
@[simp] theorem schedule_moves (s : State) (i : Instr) : (schedule s i).moves = s.moves := rfl
@[simp] theorem schedule_moved (s : State) (i : Instr) : (schedule s i).moved = s.moved := rfl
@[simp] theorem schedule_pins (s : State) (i : Instr) : (schedule s i).pins = s.pins := rfl
@[simp] theorem schedule_forwards (s : State) (i : Instr) : (schedule s i).forwards = s.forwards := rfl
@[simp] theorem schedule_packets (s : State) (i : Instr) : (schedule s i).packets = s.packets := rfl
@[simp] theorem schedule_combines (s : State) (i : Instr) : (schedule s i).combines = s.combines := rfl
@[simp] theorem schedule_ports (s : State) (i : Instr) : (schedule s i).ports = s.ports := rfl
@[simp] theorem schedule_lasers (s : State) (i : Instr) : (schedule s i).lasers = s.lasers := rfl
@[simp] theorem schedule_peers (s : State) (i : Instr) : (schedule s i).peers = s.peers := rfl
@[simp] theorem schedule_lost (s : State) (i : Instr) : (schedule s i).lost = s.lost := rfl
@[simp] theorem schedule_delays (s : State) (i : Instr) : (schedule s i).delays = s.delays := rfl
@[simp] theorem schedule_badBytes (s : State) (i : Instr) : (schedule s i).badBytes = s.badBytes := rfl
@[simp] theorem schedule_lasting (s : State) (i : Instr) : (schedule s i).lasting = s.lasting := rfl
@[simp] theorem schedule_laneErrors (s : State) (i : Instr) : (schedule s i).laneErrors = s.laneErrors := rfl
@[simp] theorem schedule_frameErrors (s : State) (i : Instr) : (schedule s i).frameErrors = s.frameErrors := rfl
@[simp] theorem schedule_power (s : State) (i : Instr) : (schedule s i).power = s.power := rfl
@[simp] theorem schedule_turns (s : State) (i : Instr) : (schedule s i).turns = s.turns := rfl
@[simp] theorem schedule_tick (s : State) (i : Instr) : (schedule s i).tick = s.tick := rfl
@[simp] theorem schedule_agenda (s : State) (i : Instr) : (schedule s i).agenda = s.agenda ++ [i] := rfl

@[simp] theorem emitWith_hart (s : State) (y d c n : Nat) (x : BitVec 32) (a : Nat) (p q : Word) (r : Option Nat) :
    (emitWith s y d c n x a p q r).hart = s.hart := rfl
@[simp] theorem emitWith_core (s : State) (y d c n : Nat) (x : BitVec 32) (a : Nat) (p q : Word) (r : Option Nat) :
    (emitWith s y d c n x a p q r).core = s.core := rfl
@[simp] theorem emitWith_die (s : State) (y d c n : Nat) (x : BitVec 32) (a : Nat) (p q : Word) (r : Option Nat) :
    (emitWith s y d c n x a p q r).die = s.die := rfl
@[simp] theorem emitWith_others (s : State) (y d c n : Nat) (x : BitVec 32) (a : Nat) (p q : Word) (r : Option Nat) :
    (emitWith s y d c n x a p q r).others = s.others := rfl
@[simp] theorem emitWith_otherCores (s : State) (y d c n : Nat) (x : BitVec 32) (a : Nat) (p q : Word) (r : Option Nat) :
    (emitWith s y d c n x a p q r).otherCores = s.otherCores := rfl
@[simp] theorem emitWith_otherDies (s : State) (y d c n : Nat) (x : BitVec 32) (a : Nat) (p q : Word) (r : Option Nat) :
    (emitWith s y d c n x a p q r).otherDies = s.otherDies := rfl
@[simp] theorem emitWith_memory (s : State) (y d c n : Nat) (x : BitVec 32) (a : Nat) (p q : Word) (r : Option Nat) :
    (emitWith s y d c n x a p q r).memory = s.memory := rfl
@[simp] theorem emitWith_time (s : State) (y d c n : Nat) (x : BitVec 32) (a : Nat) (p q : Word) (r : Option Nat) :
    (emitWith s y d c n x a p q r).time = s.time := rfl
@[simp] theorem emitWith_regs (s : State) (y d c n : Nat) (x : BitVec 32) (a : Nat) (p q : Word) (r : Option Nat) :
    (emitWith s y d c n x a p q r).regs = s.regs := rfl
@[simp] theorem emitWith_membership (s : State) (y d c n : Nat) (x : BitVec 32) (a : Nat) (p q : Word) (r : Option Nat) :
    (emitWith s y d c n x a p q r).membership = s.membership := rfl
@[simp] theorem emitWith_hostq (s : State) (y d c n : Nat) (x : BitVec 32) (a : Nat) (p q : Word) (r : Option Nat) :
    (emitWith s y d c n x a p q r).hostq = s.hostq := rfl
@[simp] theorem emitWith_hqTurn (s : State) (y d c n : Nat) (x : BitVec 32) (a : Nat) (p q : Word) (r : Option Nat) :
    (emitWith s y d c n x a p q r).hqTurn = s.hqTurn := rfl
@[simp] theorem emitWith_reqs (s : State) (y d c n : Nat) (x : BitVec 32) (a : Nat) (p q : Word) (r : Option Nat) :
    (emitWith s y d c n x a p q r).reqs = s.reqs := rfl
@[simp] theorem emitWith_nextGang (s : State) (y d c n : Nat) (x : BitVec 32) (a : Nat) (p q : Word) (r : Option Nat) :
    (emitWith s y d c n x a p q r).nextGang = s.nextGang := rfl
@[simp] theorem emitWith_posts (s : State) (y d c n : Nat) (x : BitVec 32) (a : Nat) (p q : Word) (r : Option Nat) :
    (emitWith s y d c n x a p q r).posts = s.posts := rfl
@[simp] theorem emitWith_slots (s : State) (y d c n : Nat) (x : BitVec 32) (a : Nat) (p q : Word) (r : Option Nat) :
    (emitWith s y d c n x a p q r).slots = s.slots := rfl
@[simp] theorem emitWith_arrq (s : State) (y d c n : Nat) (x : BitVec 32) (a : Nat) (p q : Word) (r : Option Nat) :
    (emitWith s y d c n x a p q r).arrq = s.arrq := rfl
@[simp] theorem emitWith_arrived (s : State) (y d c n : Nat) (x : BitVec 32) (a : Nat) (p q : Word) (r : Option Nat) :
    (emitWith s y d c n x a p q r).arrived = s.arrived := rfl
@[simp] theorem emitWith_incoming (s : State) (y d c n : Nat) (x : BitVec 32) (a : Nat) (p q : Word) (r : Option Nat) :
    (emitWith s y d c n x a p q r).incoming = s.incoming := rfl
@[simp] theorem emitWith_transit (s : State) (y d c n : Nat) (x : BitVec 32) (a : Nat) (p q : Word) (r : Option Nat) :
    (emitWith s y d c n x a p q r).transit = s.transit := rfl
@[simp] theorem emitWith_pool (s : State) (y d c n : Nat) (x : BitVec 32) (a : Nat) (p q : Word) (r : Option Nat) :
    (emitWith s y d c n x a p q r).pool = s.pool := rfl
@[simp] theorem emitWith_barriers (s : State) (y d c n : Nat) (x : BitVec 32) (a : Nat) (p q : Word) (r : Option Nat) :
    (emitWith s y d c n x a p q r).barriers = s.barriers := rfl
@[simp] theorem emitWith_ringDropped (s : State) (y d c n : Nat) (x : BitVec 32) (a : Nat) (p q : Word) (r : Option Nat) :
    (emitWith s y d c n x a p q r).ringDropped = s.ringDropped := rfl
@[simp] theorem emitWith_saved (s : State) (y d c n : Nat) (x : BitVec 32) (a : Nat) (p q : Word) (r : Option Nat) :
    (emitWith s y d c n x a p q r).saved = s.saved := rfl
@[simp] theorem emitWith_tlb (s : State) (y d c n : Nat) (x : BitVec 32) (a : Nat) (p q : Word) (r : Option Nat) :
    (emitWith s y d c n x a p q r).tlb = s.tlb := rfl
@[simp] theorem emitWith_pubs (s : State) (y d c n : Nat) (x : BitVec 32) (a : Nat) (p q : Word) (r : Option Nat) :
    (emitWith s y d c n x a p q r).pubs = s.pubs := rfl
@[simp] theorem emitWith_linePubs (s : State) (y d c n : Nat) (x : BitVec 32) (a : Nat) (p q : Word) (r : Option Nat) :
    (emitWith s y d c n x a p q r).linePubs = s.linePubs := rfl
@[simp] theorem emitWith_shadows (s : State) (y d c n : Nat) (x : BitVec 32) (a : Nat) (p q : Word) (r : Option Nat) :
    (emitWith s y d c n x a p q r).shadows = s.shadows := rfl
@[simp] theorem emitWith_stalls (s : State) (y d c n : Nat) (x : BitVec 32) (a : Nat) (p q : Word) (r : Option Nat) :
    (emitWith s y d c n x a p q r).stalls = s.stalls := rfl
@[simp] theorem emitWith_spill (s : State) (y d c n : Nat) (x : BitVec 32) (a : Nat) (p q : Word) (r : Option Nat) :
    (emitWith s y d c n x a p q r).spill = s.spill := rfl
@[simp] theorem emitWith_replies (s : State) (y d c n : Nat) (x : BitVec 32) (a : Nat) (p q : Word) (r : Option Nat) :
    (emitWith s y d c n x a p q r).replies = s.replies := rfl
@[simp] theorem emitWith_answers (s : State) (y d c n : Nat) (x : BitVec 32) (a : Nat) (p q : Word) (r : Option Nat) :
    (emitWith s y d c n x a p q r).answers = s.answers := rfl
@[simp] theorem emitWith_nextSeq (s : State) (y d c n : Nat) (x : BitVec 32) (a : Nat) (p q : Word) (r : Option Nat) :
    (emitWith s y d c n x a p q r).nextSeq = s.nextSeq := rfl
@[simp] theorem emitWith_moves (s : State) (y d c n : Nat) (x : BitVec 32) (a : Nat) (p q : Word) (r : Option Nat) :
    (emitWith s y d c n x a p q r).moves = s.moves := rfl
@[simp] theorem emitWith_moved (s : State) (y d c n : Nat) (x : BitVec 32) (a : Nat) (p q : Word) (r : Option Nat) :
    (emitWith s y d c n x a p q r).moved = s.moved := rfl
@[simp] theorem emitWith_pins (s : State) (y d c n : Nat) (x : BitVec 32) (a : Nat) (p q : Word) (r : Option Nat) :
    (emitWith s y d c n x a p q r).pins = s.pins := rfl
@[simp] theorem emitWith_forwards (s : State) (y d c n : Nat) (x : BitVec 32) (a : Nat) (p q : Word) (r : Option Nat) :
    (emitWith s y d c n x a p q r).forwards = s.forwards := rfl
@[simp] theorem emitWith_packets (s : State) (y d c n : Nat) (x : BitVec 32) (a : Nat) (p q : Word) (r : Option Nat) :
    (emitWith s y d c n x a p q r).packets = s.packets := rfl
@[simp] theorem emitWith_combines (s : State) (y d c n : Nat) (x : BitVec 32) (a : Nat) (p q : Word) (r : Option Nat) :
    (emitWith s y d c n x a p q r).combines = s.combines := rfl
@[simp] theorem emitWith_ports (s : State) (y d c n : Nat) (x : BitVec 32) (a : Nat) (p q : Word) (r : Option Nat) :
    (emitWith s y d c n x a p q r).ports = s.ports := rfl
@[simp] theorem emitWith_lasers (s : State) (y d c n : Nat) (x : BitVec 32) (a : Nat) (p q : Word) (r : Option Nat) :
    (emitWith s y d c n x a p q r).lasers = s.lasers := rfl
@[simp] theorem emitWith_peers (s : State) (y d c n : Nat) (x : BitVec 32) (a : Nat) (p q : Word) (r : Option Nat) :
    (emitWith s y d c n x a p q r).peers = s.peers := rfl
@[simp] theorem emitWith_lost (s : State) (y d c n : Nat) (x : BitVec 32) (a : Nat) (p q : Word) (r : Option Nat) :
    (emitWith s y d c n x a p q r).lost = s.lost := rfl
@[simp] theorem emitWith_delays (s : State) (y d c n : Nat) (x : BitVec 32) (a : Nat) (p q : Word) (r : Option Nat) :
    (emitWith s y d c n x a p q r).delays = s.delays := rfl
@[simp] theorem emitWith_badBytes (s : State) (y d c n : Nat) (x : BitVec 32) (a : Nat) (p q : Word) (r : Option Nat) :
    (emitWith s y d c n x a p q r).badBytes = s.badBytes := rfl
@[simp] theorem emitWith_lasting (s : State) (y d c n : Nat) (x : BitVec 32) (a : Nat) (p q : Word) (r : Option Nat) :
    (emitWith s y d c n x a p q r).lasting = s.lasting := rfl
@[simp] theorem emitWith_laneErrors (s : State) (y d c n : Nat) (x : BitVec 32) (a : Nat) (p q : Word) (r : Option Nat) :
    (emitWith s y d c n x a p q r).laneErrors = s.laneErrors := rfl
@[simp] theorem emitWith_frameErrors (s : State) (y d c n : Nat) (x : BitVec 32) (a : Nat) (p q : Word) (r : Option Nat) :
    (emitWith s y d c n x a p q r).frameErrors = s.frameErrors := rfl
@[simp] theorem emitWith_power (s : State) (y d c n : Nat) (x : BitVec 32) (a : Nat) (p q : Word) (r : Option Nat) :
    (emitWith s y d c n x a p q r).power = s.power := rfl
@[simp] theorem emitWith_turns (s : State) (y d c n : Nat) (x : BitVec 32) (a : Nat) (p q : Word) (r : Option Nat) :
    (emitWith s y d c n x a p q r).turns = s.turns := rfl
@[simp] theorem emitWith_tick (s : State) (y d c n : Nat) (x : BitVec 32) (a : Nat) (p q : Word) (r : Option Nat) :
    (emitWith s y d c n x a p q r).tick = s.tick := rfl

/-! A port, near-cache copies, home bytes written: what each leaves as it was. -/

@[simp] theorem onPort_hart (s : State) (p : Nat) (f : Port → Port) : (onPort s p f).hart = s.hart := rfl
@[simp] theorem onPort_core (s : State) (p : Nat) (f : Port → Port) : (onPort s p f).core = s.core := rfl
@[simp] theorem onPort_die (s : State) (p : Nat) (f : Port → Port) : (onPort s p f).die = s.die := rfl
@[simp] theorem onPort_others (s : State) (p : Nat) (f : Port → Port) : (onPort s p f).others = s.others := rfl
@[simp] theorem onPort_otherCores (s : State) (p : Nat) (f : Port → Port) : (onPort s p f).otherCores = s.otherCores := rfl
@[simp] theorem onPort_otherDies (s : State) (p : Nat) (f : Port → Port) : (onPort s p f).otherDies = s.otherDies := rfl
@[simp] theorem onPort_memory (s : State) (p : Nat) (f : Port → Port) : (onPort s p f).memory = s.memory := rfl
@[simp] theorem onPort_time (s : State) (p : Nat) (f : Port → Port) : (onPort s p f).time = s.time := rfl
@[simp] theorem onPort_regs (s : State) (p : Nat) (f : Port → Port) : (onPort s p f).regs = s.regs := rfl
@[simp] theorem onPort_membership (s : State) (p : Nat) (f : Port → Port) : (onPort s p f).membership = s.membership := rfl
@[simp] theorem onPort_hostq (s : State) (p : Nat) (f : Port → Port) : (onPort s p f).hostq = s.hostq := rfl
@[simp] theorem onPort_hqTurn (s : State) (p : Nat) (f : Port → Port) : (onPort s p f).hqTurn = s.hqTurn := rfl
@[simp] theorem onPort_reqs (s : State) (p : Nat) (f : Port → Port) : (onPort s p f).reqs = s.reqs := rfl
@[simp] theorem onPort_nextGang (s : State) (p : Nat) (f : Port → Port) : (onPort s p f).nextGang = s.nextGang := rfl
@[simp] theorem onPort_posts (s : State) (p : Nat) (f : Port → Port) : (onPort s p f).posts = s.posts := rfl
@[simp] theorem onPort_slots (s : State) (p : Nat) (f : Port → Port) : (onPort s p f).slots = s.slots := rfl
@[simp] theorem onPort_arrq (s : State) (p : Nat) (f : Port → Port) : (onPort s p f).arrq = s.arrq := rfl
@[simp] theorem onPort_arrived (s : State) (p : Nat) (f : Port → Port) : (onPort s p f).arrived = s.arrived := rfl
@[simp] theorem onPort_incoming (s : State) (p : Nat) (f : Port → Port) : (onPort s p f).incoming = s.incoming := rfl
@[simp] theorem onPort_transit (s : State) (p : Nat) (f : Port → Port) : (onPort s p f).transit = s.transit := rfl
@[simp] theorem onPort_pool (s : State) (p : Nat) (f : Port → Port) : (onPort s p f).pool = s.pool := rfl
@[simp] theorem onPort_barriers (s : State) (p : Nat) (f : Port → Port) : (onPort s p f).barriers = s.barriers := rfl
@[simp] theorem onPort_events (s : State) (p : Nat) (f : Port → Port) : (onPort s p f).events = s.events := rfl
@[simp] theorem onPort_ringDropped (s : State) (p : Nat) (f : Port → Port) : (onPort s p f).ringDropped = s.ringDropped := rfl
@[simp] theorem onPort_saved (s : State) (p : Nat) (f : Port → Port) : (onPort s p f).saved = s.saved := rfl
@[simp] theorem onPort_tlb (s : State) (p : Nat) (f : Port → Port) : (onPort s p f).tlb = s.tlb := rfl
@[simp] theorem onPort_pubs (s : State) (p : Nat) (f : Port → Port) : (onPort s p f).pubs = s.pubs := rfl
@[simp] theorem onPort_linePubs (s : State) (p : Nat) (f : Port → Port) : (onPort s p f).linePubs = s.linePubs := rfl
@[simp] theorem onPort_shadows (s : State) (p : Nat) (f : Port → Port) : (onPort s p f).shadows = s.shadows := rfl
@[simp] theorem onPort_stalls (s : State) (p : Nat) (f : Port → Port) : (onPort s p f).stalls = s.stalls := rfl
@[simp] theorem onPort_spill (s : State) (p : Nat) (f : Port → Port) : (onPort s p f).spill = s.spill := rfl
@[simp] theorem onPort_replies (s : State) (p : Nat) (f : Port → Port) : (onPort s p f).replies = s.replies := rfl
@[simp] theorem onPort_answers (s : State) (p : Nat) (f : Port → Port) : (onPort s p f).answers = s.answers := rfl
@[simp] theorem onPort_nextSeq (s : State) (p : Nat) (f : Port → Port) : (onPort s p f).nextSeq = s.nextSeq := rfl
@[simp] theorem onPort_moves (s : State) (p : Nat) (f : Port → Port) : (onPort s p f).moves = s.moves := rfl
@[simp] theorem onPort_moved (s : State) (p : Nat) (f : Port → Port) : (onPort s p f).moved = s.moved := rfl
@[simp] theorem onPort_pins (s : State) (p : Nat) (f : Port → Port) : (onPort s p f).pins = s.pins := rfl
@[simp] theorem onPort_forwards (s : State) (p : Nat) (f : Port → Port) : (onPort s p f).forwards = s.forwards := rfl
@[simp] theorem onPort_packets (s : State) (p : Nat) (f : Port → Port) : (onPort s p f).packets = s.packets := rfl
@[simp] theorem onPort_combines (s : State) (p : Nat) (f : Port → Port) : (onPort s p f).combines = s.combines := rfl
@[simp] theorem onPort_lasers (s : State) (p : Nat) (f : Port → Port) : (onPort s p f).lasers = s.lasers := rfl
@[simp] theorem onPort_peers (s : State) (p : Nat) (f : Port → Port) : (onPort s p f).peers = s.peers := rfl
@[simp] theorem onPort_lost (s : State) (p : Nat) (f : Port → Port) : (onPort s p f).lost = s.lost := rfl
@[simp] theorem onPort_delays (s : State) (p : Nat) (f : Port → Port) : (onPort s p f).delays = s.delays := rfl
@[simp] theorem onPort_badBytes (s : State) (p : Nat) (f : Port → Port) : (onPort s p f).badBytes = s.badBytes := rfl
@[simp] theorem onPort_lasting (s : State) (p : Nat) (f : Port → Port) : (onPort s p f).lasting = s.lasting := rfl
@[simp] theorem onPort_laneErrors (s : State) (p : Nat) (f : Port → Port) : (onPort s p f).laneErrors = s.laneErrors := rfl
@[simp] theorem onPort_frameErrors (s : State) (p : Nat) (f : Port → Port) : (onPort s p f).frameErrors = s.frameErrors := rfl
@[simp] theorem onPort_power (s : State) (p : Nat) (f : Port → Port) : (onPort s p f).power = s.power := rfl
@[simp] theorem onPort_turns (s : State) (p : Nat) (f : Port → Port) : (onPort s p f).turns = s.turns := rfl
@[simp] theorem onPort_agenda (s : State) (p : Nat) (f : Port → Port) : (onPort s p f).agenda = s.agenda := rfl
@[simp] theorem onPort_tick (s : State) (p : Nat) (f : Port → Port) : (onPort s p f).tick = s.tick := rfl

@[simp] theorem onNear_hart (s : State) (f : Table NearCopy → Table NearCopy) : (onNear s f).hart = s.hart := rfl
@[simp] theorem onNear_core (s : State) (f : Table NearCopy → Table NearCopy) : (onNear s f).core = s.core := rfl
@[simp] theorem onNear_others (s : State) (f : Table NearCopy → Table NearCopy) : (onNear s f).others = s.others := rfl
@[simp] theorem onNear_otherCores (s : State) (f : Table NearCopy → Table NearCopy) : (onNear s f).otherCores = s.otherCores := rfl
@[simp] theorem onNear_memory (s : State) (f : Table NearCopy → Table NearCopy) : (onNear s f).memory = s.memory := rfl
@[simp] theorem onNear_time (s : State) (f : Table NearCopy → Table NearCopy) : (onNear s f).time = s.time := rfl
@[simp] theorem onNear_regs (s : State) (f : Table NearCopy → Table NearCopy) : (onNear s f).regs = s.regs := rfl
@[simp] theorem onNear_membership (s : State) (f : Table NearCopy → Table NearCopy) : (onNear s f).membership = s.membership := rfl
@[simp] theorem onNear_hostq (s : State) (f : Table NearCopy → Table NearCopy) : (onNear s f).hostq = s.hostq := rfl
@[simp] theorem onNear_hqTurn (s : State) (f : Table NearCopy → Table NearCopy) : (onNear s f).hqTurn = s.hqTurn := rfl
@[simp] theorem onNear_reqs (s : State) (f : Table NearCopy → Table NearCopy) : (onNear s f).reqs = s.reqs := rfl
@[simp] theorem onNear_nextGang (s : State) (f : Table NearCopy → Table NearCopy) : (onNear s f).nextGang = s.nextGang := rfl
@[simp] theorem onNear_posts (s : State) (f : Table NearCopy → Table NearCopy) : (onNear s f).posts = s.posts := rfl
@[simp] theorem onNear_slots (s : State) (f : Table NearCopy → Table NearCopy) : (onNear s f).slots = s.slots := rfl
@[simp] theorem onNear_arrq (s : State) (f : Table NearCopy → Table NearCopy) : (onNear s f).arrq = s.arrq := rfl
@[simp] theorem onNear_arrived (s : State) (f : Table NearCopy → Table NearCopy) : (onNear s f).arrived = s.arrived := rfl
@[simp] theorem onNear_incoming (s : State) (f : Table NearCopy → Table NearCopy) : (onNear s f).incoming = s.incoming := rfl
@[simp] theorem onNear_transit (s : State) (f : Table NearCopy → Table NearCopy) : (onNear s f).transit = s.transit := rfl
@[simp] theorem onNear_pool (s : State) (f : Table NearCopy → Table NearCopy) : (onNear s f).pool = s.pool := rfl
@[simp] theorem onNear_barriers (s : State) (f : Table NearCopy → Table NearCopy) : (onNear s f).barriers = s.barriers := rfl
@[simp] theorem onNear_events (s : State) (f : Table NearCopy → Table NearCopy) : (onNear s f).events = s.events := rfl
@[simp] theorem onNear_ringDropped (s : State) (f : Table NearCopy → Table NearCopy) : (onNear s f).ringDropped = s.ringDropped := rfl
@[simp] theorem onNear_saved (s : State) (f : Table NearCopy → Table NearCopy) : (onNear s f).saved = s.saved := rfl
@[simp] theorem onNear_tlb (s : State) (f : Table NearCopy → Table NearCopy) : (onNear s f).tlb = s.tlb := rfl
@[simp] theorem onNear_pubs (s : State) (f : Table NearCopy → Table NearCopy) : (onNear s f).pubs = s.pubs := rfl
@[simp] theorem onNear_linePubs (s : State) (f : Table NearCopy → Table NearCopy) : (onNear s f).linePubs = s.linePubs := rfl
@[simp] theorem onNear_shadows (s : State) (f : Table NearCopy → Table NearCopy) : (onNear s f).shadows = s.shadows := rfl
@[simp] theorem onNear_stalls (s : State) (f : Table NearCopy → Table NearCopy) : (onNear s f).stalls = s.stalls := rfl
@[simp] theorem onNear_spill (s : State) (f : Table NearCopy → Table NearCopy) : (onNear s f).spill = s.spill := rfl
@[simp] theorem onNear_replies (s : State) (f : Table NearCopy → Table NearCopy) : (onNear s f).replies = s.replies := rfl
@[simp] theorem onNear_answers (s : State) (f : Table NearCopy → Table NearCopy) : (onNear s f).answers = s.answers := rfl
@[simp] theorem onNear_nextSeq (s : State) (f : Table NearCopy → Table NearCopy) : (onNear s f).nextSeq = s.nextSeq := rfl
@[simp] theorem onNear_moves (s : State) (f : Table NearCopy → Table NearCopy) : (onNear s f).moves = s.moves := rfl
@[simp] theorem onNear_moved (s : State) (f : Table NearCopy → Table NearCopy) : (onNear s f).moved = s.moved := rfl
@[simp] theorem onNear_pins (s : State) (f : Table NearCopy → Table NearCopy) : (onNear s f).pins = s.pins := rfl
@[simp] theorem onNear_forwards (s : State) (f : Table NearCopy → Table NearCopy) : (onNear s f).forwards = s.forwards := rfl
@[simp] theorem onNear_packets (s : State) (f : Table NearCopy → Table NearCopy) : (onNear s f).packets = s.packets := rfl
@[simp] theorem onNear_combines (s : State) (f : Table NearCopy → Table NearCopy) : (onNear s f).combines = s.combines := rfl
@[simp] theorem onNear_ports (s : State) (f : Table NearCopy → Table NearCopy) : (onNear s f).ports = s.ports := rfl
@[simp] theorem onNear_lasers (s : State) (f : Table NearCopy → Table NearCopy) : (onNear s f).lasers = s.lasers := rfl
@[simp] theorem onNear_peers (s : State) (f : Table NearCopy → Table NearCopy) : (onNear s f).peers = s.peers := rfl
@[simp] theorem onNear_lost (s : State) (f : Table NearCopy → Table NearCopy) : (onNear s f).lost = s.lost := rfl
@[simp] theorem onNear_delays (s : State) (f : Table NearCopy → Table NearCopy) : (onNear s f).delays = s.delays := rfl
@[simp] theorem onNear_badBytes (s : State) (f : Table NearCopy → Table NearCopy) : (onNear s f).badBytes = s.badBytes := rfl
@[simp] theorem onNear_lasting (s : State) (f : Table NearCopy → Table NearCopy) : (onNear s f).lasting = s.lasting := rfl
@[simp] theorem onNear_laneErrors (s : State) (f : Table NearCopy → Table NearCopy) : (onNear s f).laneErrors = s.laneErrors := rfl
@[simp] theorem onNear_frameErrors (s : State) (f : Table NearCopy → Table NearCopy) : (onNear s f).frameErrors = s.frameErrors := rfl
@[simp] theorem onNear_power (s : State) (f : Table NearCopy → Table NearCopy) : (onNear s f).power = s.power := rfl
@[simp] theorem onNear_turns (s : State) (f : Table NearCopy → Table NearCopy) : (onNear s f).turns = s.turns := rfl
@[simp] theorem onNear_agenda (s : State) (f : Table NearCopy → Table NearCopy) : (onNear s f).agenda = s.agenda := rfl
@[simp] theorem onNear_tick (s : State) (f : Table NearCopy → Table NearCopy) : (onNear s f).tick = s.tick := rfl

@[simp] theorem dropNearLoc_hart (s : State) (l n : Nat) : (dropNearLoc s l n).hart = s.hart := rfl
@[simp] theorem dropNearLoc_core (s : State) (l n : Nat) : (dropNearLoc s l n).core = s.core := rfl
@[simp] theorem dropNearLoc_others (s : State) (l n : Nat) : (dropNearLoc s l n).others = s.others := rfl
@[simp] theorem dropNearLoc_otherCores (s : State) (l n : Nat) : (dropNearLoc s l n).otherCores = s.otherCores := rfl
@[simp] theorem dropNearLoc_memory (s : State) (l n : Nat) : (dropNearLoc s l n).memory = s.memory := rfl
@[simp] theorem dropNearLoc_time (s : State) (l n : Nat) : (dropNearLoc s l n).time = s.time := rfl
@[simp] theorem dropNearLoc_regs (s : State) (l n : Nat) : (dropNearLoc s l n).regs = s.regs := rfl
@[simp] theorem dropNearLoc_membership (s : State) (l n : Nat) : (dropNearLoc s l n).membership = s.membership := rfl
@[simp] theorem dropNearLoc_hostq (s : State) (l n : Nat) : (dropNearLoc s l n).hostq = s.hostq := rfl
@[simp] theorem dropNearLoc_hqTurn (s : State) (l n : Nat) : (dropNearLoc s l n).hqTurn = s.hqTurn := rfl
@[simp] theorem dropNearLoc_reqs (s : State) (l n : Nat) : (dropNearLoc s l n).reqs = s.reqs := rfl
@[simp] theorem dropNearLoc_nextGang (s : State) (l n : Nat) : (dropNearLoc s l n).nextGang = s.nextGang := rfl
@[simp] theorem dropNearLoc_posts (s : State) (l n : Nat) : (dropNearLoc s l n).posts = s.posts := rfl
@[simp] theorem dropNearLoc_slots (s : State) (l n : Nat) : (dropNearLoc s l n).slots = s.slots := rfl
@[simp] theorem dropNearLoc_arrq (s : State) (l n : Nat) : (dropNearLoc s l n).arrq = s.arrq := rfl
@[simp] theorem dropNearLoc_arrived (s : State) (l n : Nat) : (dropNearLoc s l n).arrived = s.arrived := rfl
@[simp] theorem dropNearLoc_incoming (s : State) (l n : Nat) : (dropNearLoc s l n).incoming = s.incoming := rfl
@[simp] theorem dropNearLoc_transit (s : State) (l n : Nat) : (dropNearLoc s l n).transit = s.transit := rfl
@[simp] theorem dropNearLoc_pool (s : State) (l n : Nat) : (dropNearLoc s l n).pool = s.pool := rfl
@[simp] theorem dropNearLoc_barriers (s : State) (l n : Nat) : (dropNearLoc s l n).barriers = s.barriers := rfl
@[simp] theorem dropNearLoc_events (s : State) (l n : Nat) : (dropNearLoc s l n).events = s.events := rfl
@[simp] theorem dropNearLoc_ringDropped (s : State) (l n : Nat) : (dropNearLoc s l n).ringDropped = s.ringDropped := rfl
@[simp] theorem dropNearLoc_saved (s : State) (l n : Nat) : (dropNearLoc s l n).saved = s.saved := rfl
@[simp] theorem dropNearLoc_tlb (s : State) (l n : Nat) : (dropNearLoc s l n).tlb = s.tlb := rfl
@[simp] theorem dropNearLoc_pubs (s : State) (l n : Nat) : (dropNearLoc s l n).pubs = s.pubs := rfl
@[simp] theorem dropNearLoc_linePubs (s : State) (l n : Nat) : (dropNearLoc s l n).linePubs = s.linePubs := rfl
@[simp] theorem dropNearLoc_shadows (s : State) (l n : Nat) : (dropNearLoc s l n).shadows = s.shadows := rfl
@[simp] theorem dropNearLoc_stalls (s : State) (l n : Nat) : (dropNearLoc s l n).stalls = s.stalls := rfl
@[simp] theorem dropNearLoc_spill (s : State) (l n : Nat) : (dropNearLoc s l n).spill = s.spill := rfl
@[simp] theorem dropNearLoc_replies (s : State) (l n : Nat) : (dropNearLoc s l n).replies = s.replies := rfl
@[simp] theorem dropNearLoc_answers (s : State) (l n : Nat) : (dropNearLoc s l n).answers = s.answers := rfl
@[simp] theorem dropNearLoc_nextSeq (s : State) (l n : Nat) : (dropNearLoc s l n).nextSeq = s.nextSeq := rfl
@[simp] theorem dropNearLoc_moves (s : State) (l n : Nat) : (dropNearLoc s l n).moves = s.moves := rfl
@[simp] theorem dropNearLoc_moved (s : State) (l n : Nat) : (dropNearLoc s l n).moved = s.moved := rfl
@[simp] theorem dropNearLoc_pins (s : State) (l n : Nat) : (dropNearLoc s l n).pins = s.pins := rfl
@[simp] theorem dropNearLoc_forwards (s : State) (l n : Nat) : (dropNearLoc s l n).forwards = s.forwards := rfl
@[simp] theorem dropNearLoc_packets (s : State) (l n : Nat) : (dropNearLoc s l n).packets = s.packets := rfl
@[simp] theorem dropNearLoc_combines (s : State) (l n : Nat) : (dropNearLoc s l n).combines = s.combines := rfl
@[simp] theorem dropNearLoc_ports (s : State) (l n : Nat) : (dropNearLoc s l n).ports = s.ports := rfl
@[simp] theorem dropNearLoc_lasers (s : State) (l n : Nat) : (dropNearLoc s l n).lasers = s.lasers := rfl
@[simp] theorem dropNearLoc_peers (s : State) (l n : Nat) : (dropNearLoc s l n).peers = s.peers := rfl
@[simp] theorem dropNearLoc_lost (s : State) (l n : Nat) : (dropNearLoc s l n).lost = s.lost := rfl
@[simp] theorem dropNearLoc_delays (s : State) (l n : Nat) : (dropNearLoc s l n).delays = s.delays := rfl
@[simp] theorem dropNearLoc_badBytes (s : State) (l n : Nat) : (dropNearLoc s l n).badBytes = s.badBytes := rfl
@[simp] theorem dropNearLoc_lasting (s : State) (l n : Nat) : (dropNearLoc s l n).lasting = s.lasting := rfl
@[simp] theorem dropNearLoc_laneErrors (s : State) (l n : Nat) : (dropNearLoc s l n).laneErrors = s.laneErrors := rfl
@[simp] theorem dropNearLoc_frameErrors (s : State) (l n : Nat) : (dropNearLoc s l n).frameErrors = s.frameErrors := rfl
@[simp] theorem dropNearLoc_power (s : State) (l n : Nat) : (dropNearLoc s l n).power = s.power := rfl
@[simp] theorem dropNearLoc_turns (s : State) (l n : Nat) : (dropNearLoc s l n).turns = s.turns := rfl
@[simp] theorem dropNearLoc_agenda (s : State) (l n : Nat) : (dropNearLoc s l n).agenda = s.agenda := rfl
@[simp] theorem dropNearLoc_tick (s : State) (l n : Nat) : (dropNearLoc s l n).tick = s.tick := rfl

@[simp] theorem dropNearPA_hart (s : State) (a n : Nat) : (dropNearPA s a n).hart = s.hart := rfl
@[simp] theorem dropNearPA_core (s : State) (a n : Nat) : (dropNearPA s a n).core = s.core := rfl
@[simp] theorem dropNearPA_others (s : State) (a n : Nat) : (dropNearPA s a n).others = s.others := rfl
@[simp] theorem dropNearPA_otherCores (s : State) (a n : Nat) : (dropNearPA s a n).otherCores = s.otherCores := rfl
@[simp] theorem dropNearPA_memory (s : State) (a n : Nat) : (dropNearPA s a n).memory = s.memory := rfl
@[simp] theorem dropNearPA_time (s : State) (a n : Nat) : (dropNearPA s a n).time = s.time := rfl
@[simp] theorem dropNearPA_regs (s : State) (a n : Nat) : (dropNearPA s a n).regs = s.regs := rfl
@[simp] theorem dropNearPA_membership (s : State) (a n : Nat) : (dropNearPA s a n).membership = s.membership := rfl
@[simp] theorem dropNearPA_hostq (s : State) (a n : Nat) : (dropNearPA s a n).hostq = s.hostq := rfl
@[simp] theorem dropNearPA_hqTurn (s : State) (a n : Nat) : (dropNearPA s a n).hqTurn = s.hqTurn := rfl
@[simp] theorem dropNearPA_reqs (s : State) (a n : Nat) : (dropNearPA s a n).reqs = s.reqs := rfl
@[simp] theorem dropNearPA_nextGang (s : State) (a n : Nat) : (dropNearPA s a n).nextGang = s.nextGang := rfl
@[simp] theorem dropNearPA_posts (s : State) (a n : Nat) : (dropNearPA s a n).posts = s.posts := rfl
@[simp] theorem dropNearPA_slots (s : State) (a n : Nat) : (dropNearPA s a n).slots = s.slots := rfl
@[simp] theorem dropNearPA_arrq (s : State) (a n : Nat) : (dropNearPA s a n).arrq = s.arrq := rfl
@[simp] theorem dropNearPA_arrived (s : State) (a n : Nat) : (dropNearPA s a n).arrived = s.arrived := rfl
@[simp] theorem dropNearPA_incoming (s : State) (a n : Nat) : (dropNearPA s a n).incoming = s.incoming := rfl
@[simp] theorem dropNearPA_transit (s : State) (a n : Nat) : (dropNearPA s a n).transit = s.transit := rfl
@[simp] theorem dropNearPA_pool (s : State) (a n : Nat) : (dropNearPA s a n).pool = s.pool := rfl
@[simp] theorem dropNearPA_barriers (s : State) (a n : Nat) : (dropNearPA s a n).barriers = s.barriers := rfl
@[simp] theorem dropNearPA_events (s : State) (a n : Nat) : (dropNearPA s a n).events = s.events := rfl
@[simp] theorem dropNearPA_ringDropped (s : State) (a n : Nat) : (dropNearPA s a n).ringDropped = s.ringDropped := rfl
@[simp] theorem dropNearPA_saved (s : State) (a n : Nat) : (dropNearPA s a n).saved = s.saved := rfl
@[simp] theorem dropNearPA_tlb (s : State) (a n : Nat) : (dropNearPA s a n).tlb = s.tlb := rfl
@[simp] theorem dropNearPA_pubs (s : State) (a n : Nat) : (dropNearPA s a n).pubs = s.pubs := rfl
@[simp] theorem dropNearPA_linePubs (s : State) (a n : Nat) : (dropNearPA s a n).linePubs = s.linePubs := rfl
@[simp] theorem dropNearPA_shadows (s : State) (a n : Nat) : (dropNearPA s a n).shadows = s.shadows := rfl
@[simp] theorem dropNearPA_stalls (s : State) (a n : Nat) : (dropNearPA s a n).stalls = s.stalls := rfl
@[simp] theorem dropNearPA_spill (s : State) (a n : Nat) : (dropNearPA s a n).spill = s.spill := rfl
@[simp] theorem dropNearPA_replies (s : State) (a n : Nat) : (dropNearPA s a n).replies = s.replies := rfl
@[simp] theorem dropNearPA_answers (s : State) (a n : Nat) : (dropNearPA s a n).answers = s.answers := rfl
@[simp] theorem dropNearPA_nextSeq (s : State) (a n : Nat) : (dropNearPA s a n).nextSeq = s.nextSeq := rfl
@[simp] theorem dropNearPA_moves (s : State) (a n : Nat) : (dropNearPA s a n).moves = s.moves := rfl
@[simp] theorem dropNearPA_moved (s : State) (a n : Nat) : (dropNearPA s a n).moved = s.moved := rfl
@[simp] theorem dropNearPA_pins (s : State) (a n : Nat) : (dropNearPA s a n).pins = s.pins := rfl
@[simp] theorem dropNearPA_forwards (s : State) (a n : Nat) : (dropNearPA s a n).forwards = s.forwards := rfl
@[simp] theorem dropNearPA_packets (s : State) (a n : Nat) : (dropNearPA s a n).packets = s.packets := rfl
@[simp] theorem dropNearPA_combines (s : State) (a n : Nat) : (dropNearPA s a n).combines = s.combines := rfl
@[simp] theorem dropNearPA_ports (s : State) (a n : Nat) : (dropNearPA s a n).ports = s.ports := rfl
@[simp] theorem dropNearPA_lasers (s : State) (a n : Nat) : (dropNearPA s a n).lasers = s.lasers := rfl
@[simp] theorem dropNearPA_peers (s : State) (a n : Nat) : (dropNearPA s a n).peers = s.peers := rfl
@[simp] theorem dropNearPA_lost (s : State) (a n : Nat) : (dropNearPA s a n).lost = s.lost := rfl
@[simp] theorem dropNearPA_delays (s : State) (a n : Nat) : (dropNearPA s a n).delays = s.delays := rfl
@[simp] theorem dropNearPA_badBytes (s : State) (a n : Nat) : (dropNearPA s a n).badBytes = s.badBytes := rfl
@[simp] theorem dropNearPA_lasting (s : State) (a n : Nat) : (dropNearPA s a n).lasting = s.lasting := rfl
@[simp] theorem dropNearPA_laneErrors (s : State) (a n : Nat) : (dropNearPA s a n).laneErrors = s.laneErrors := rfl
@[simp] theorem dropNearPA_frameErrors (s : State) (a n : Nat) : (dropNearPA s a n).frameErrors = s.frameErrors := rfl
@[simp] theorem dropNearPA_power (s : State) (a n : Nat) : (dropNearPA s a n).power = s.power := rfl
@[simp] theorem dropNearPA_turns (s : State) (a n : Nat) : (dropNearPA s a n).turns = s.turns := rfl
@[simp] theorem dropNearPA_agenda (s : State) (a n : Nat) : (dropNearPA s a n).agenda = s.agenda := rfl
@[simp] theorem dropNearPA_tick (s : State) (a n : Nat) : (dropNearPA s a n).tick = s.tick := rfl

@[simp] theorem homeWrite_hart (s : State) (a : Nat) (bs : List Byte) : (homeWrite s a bs).hart = s.hart := rfl
@[simp] theorem homeWrite_core (s : State) (a : Nat) (bs : List Byte) : (homeWrite s a bs).core = s.core := rfl
@[simp] theorem homeWrite_others (s : State) (a : Nat) (bs : List Byte) : (homeWrite s a bs).others = s.others := rfl
@[simp] theorem homeWrite_otherCores (s : State) (a : Nat) (bs : List Byte) : (homeWrite s a bs).otherCores = s.otherCores := rfl
@[simp] theorem homeWrite_time (s : State) (a : Nat) (bs : List Byte) : (homeWrite s a bs).time = s.time := rfl
@[simp] theorem homeWrite_regs (s : State) (a : Nat) (bs : List Byte) : (homeWrite s a bs).regs = s.regs := rfl
@[simp] theorem homeWrite_membership (s : State) (a : Nat) (bs : List Byte) : (homeWrite s a bs).membership = s.membership := rfl
@[simp] theorem homeWrite_hostq (s : State) (a : Nat) (bs : List Byte) : (homeWrite s a bs).hostq = s.hostq := rfl
@[simp] theorem homeWrite_hqTurn (s : State) (a : Nat) (bs : List Byte) : (homeWrite s a bs).hqTurn = s.hqTurn := rfl
@[simp] theorem homeWrite_reqs (s : State) (a : Nat) (bs : List Byte) : (homeWrite s a bs).reqs = s.reqs := rfl
@[simp] theorem homeWrite_nextGang (s : State) (a : Nat) (bs : List Byte) : (homeWrite s a bs).nextGang = s.nextGang := rfl
@[simp] theorem homeWrite_posts (s : State) (a : Nat) (bs : List Byte) : (homeWrite s a bs).posts = s.posts := rfl
@[simp] theorem homeWrite_slots (s : State) (a : Nat) (bs : List Byte) : (homeWrite s a bs).slots = s.slots := rfl
@[simp] theorem homeWrite_arrq (s : State) (a : Nat) (bs : List Byte) : (homeWrite s a bs).arrq = s.arrq := rfl
@[simp] theorem homeWrite_arrived (s : State) (a : Nat) (bs : List Byte) : (homeWrite s a bs).arrived = s.arrived := rfl
@[simp] theorem homeWrite_incoming (s : State) (a : Nat) (bs : List Byte) : (homeWrite s a bs).incoming = s.incoming := rfl
@[simp] theorem homeWrite_transit (s : State) (a : Nat) (bs : List Byte) : (homeWrite s a bs).transit = s.transit := rfl
@[simp] theorem homeWrite_pool (s : State) (a : Nat) (bs : List Byte) : (homeWrite s a bs).pool = s.pool := rfl
@[simp] theorem homeWrite_barriers (s : State) (a : Nat) (bs : List Byte) : (homeWrite s a bs).barriers = s.barriers := rfl
@[simp] theorem homeWrite_events (s : State) (a : Nat) (bs : List Byte) : (homeWrite s a bs).events = s.events := rfl
@[simp] theorem homeWrite_ringDropped (s : State) (a : Nat) (bs : List Byte) : (homeWrite s a bs).ringDropped = s.ringDropped := rfl
@[simp] theorem homeWrite_saved (s : State) (a : Nat) (bs : List Byte) : (homeWrite s a bs).saved = s.saved := rfl
@[simp] theorem homeWrite_tlb (s : State) (a : Nat) (bs : List Byte) : (homeWrite s a bs).tlb = s.tlb := rfl
@[simp] theorem homeWrite_pubs (s : State) (a : Nat) (bs : List Byte) : (homeWrite s a bs).pubs = s.pubs := rfl
@[simp] theorem homeWrite_linePubs (s : State) (a : Nat) (bs : List Byte) : (homeWrite s a bs).linePubs = s.linePubs := rfl
@[simp] theorem homeWrite_shadows (s : State) (a : Nat) (bs : List Byte) : (homeWrite s a bs).shadows = s.shadows := rfl
@[simp] theorem homeWrite_stalls (s : State) (a : Nat) (bs : List Byte) : (homeWrite s a bs).stalls = s.stalls := rfl
@[simp] theorem homeWrite_spill (s : State) (a : Nat) (bs : List Byte) : (homeWrite s a bs).spill = s.spill := rfl
@[simp] theorem homeWrite_replies (s : State) (a : Nat) (bs : List Byte) : (homeWrite s a bs).replies = s.replies := rfl
@[simp] theorem homeWrite_answers (s : State) (a : Nat) (bs : List Byte) : (homeWrite s a bs).answers = s.answers := rfl
@[simp] theorem homeWrite_nextSeq (s : State) (a : Nat) (bs : List Byte) : (homeWrite s a bs).nextSeq = s.nextSeq := rfl
@[simp] theorem homeWrite_moves (s : State) (a : Nat) (bs : List Byte) : (homeWrite s a bs).moves = s.moves := rfl
@[simp] theorem homeWrite_moved (s : State) (a : Nat) (bs : List Byte) : (homeWrite s a bs).moved = s.moved := rfl
@[simp] theorem homeWrite_pins (s : State) (a : Nat) (bs : List Byte) : (homeWrite s a bs).pins = s.pins := rfl
@[simp] theorem homeWrite_forwards (s : State) (a : Nat) (bs : List Byte) : (homeWrite s a bs).forwards = s.forwards := rfl
@[simp] theorem homeWrite_packets (s : State) (a : Nat) (bs : List Byte) : (homeWrite s a bs).packets = s.packets := rfl
@[simp] theorem homeWrite_combines (s : State) (a : Nat) (bs : List Byte) : (homeWrite s a bs).combines = s.combines := rfl
@[simp] theorem homeWrite_ports (s : State) (a : Nat) (bs : List Byte) : (homeWrite s a bs).ports = s.ports := rfl
@[simp] theorem homeWrite_lasers (s : State) (a : Nat) (bs : List Byte) : (homeWrite s a bs).lasers = s.lasers := rfl
@[simp] theorem homeWrite_peers (s : State) (a : Nat) (bs : List Byte) : (homeWrite s a bs).peers = s.peers := rfl
@[simp] theorem homeWrite_lost (s : State) (a : Nat) (bs : List Byte) : (homeWrite s a bs).lost = s.lost := rfl
@[simp] theorem homeWrite_delays (s : State) (a : Nat) (bs : List Byte) : (homeWrite s a bs).delays = s.delays := rfl
@[simp] theorem homeWrite_badBytes (s : State) (a : Nat) (bs : List Byte) : (homeWrite s a bs).badBytes = s.badBytes := rfl
@[simp] theorem homeWrite_lasting (s : State) (a : Nat) (bs : List Byte) : (homeWrite s a bs).lasting = s.lasting := rfl
@[simp] theorem homeWrite_laneErrors (s : State) (a : Nat) (bs : List Byte) : (homeWrite s a bs).laneErrors = s.laneErrors := rfl
@[simp] theorem homeWrite_frameErrors (s : State) (a : Nat) (bs : List Byte) : (homeWrite s a bs).frameErrors = s.frameErrors := rfl
@[simp] theorem homeWrite_power (s : State) (a : Nat) (bs : List Byte) : (homeWrite s a bs).power = s.power := rfl
@[simp] theorem homeWrite_turns (s : State) (a : Nat) (bs : List Byte) : (homeWrite s a bs).turns = s.turns := rfl
@[simp] theorem homeWrite_agenda (s : State) (a : Nat) (bs : List Byte) : (homeWrite s a bs).agenda = s.agenda := rfl
@[simp] theorem homeWrite_tick (s : State) (a : Nat) (bs : List Byte) : (homeWrite s a bs).tick = s.tick := rfl

@[simp] theorem outsideWrite_hart (s : State) (a : Nat) (bs : List Byte) : (outsideWrite s a bs).hart = s.hart := rfl
@[simp] theorem outsideWrite_core (s : State) (a : Nat) (bs : List Byte) : (outsideWrite s a bs).core = s.core := rfl
@[simp] theorem outsideWrite_others (s : State) (a : Nat) (bs : List Byte) : (outsideWrite s a bs).others = s.others := rfl
@[simp] theorem outsideWrite_otherCores (s : State) (a : Nat) (bs : List Byte) : (outsideWrite s a bs).otherCores = s.otherCores := rfl
@[simp] theorem outsideWrite_time (s : State) (a : Nat) (bs : List Byte) : (outsideWrite s a bs).time = s.time := rfl
@[simp] theorem outsideWrite_regs (s : State) (a : Nat) (bs : List Byte) : (outsideWrite s a bs).regs = s.regs := rfl
@[simp] theorem outsideWrite_membership (s : State) (a : Nat) (bs : List Byte) : (outsideWrite s a bs).membership = s.membership := rfl
@[simp] theorem outsideWrite_hostq (s : State) (a : Nat) (bs : List Byte) : (outsideWrite s a bs).hostq = s.hostq := rfl
@[simp] theorem outsideWrite_hqTurn (s : State) (a : Nat) (bs : List Byte) : (outsideWrite s a bs).hqTurn = s.hqTurn := rfl
@[simp] theorem outsideWrite_reqs (s : State) (a : Nat) (bs : List Byte) : (outsideWrite s a bs).reqs = s.reqs := rfl
@[simp] theorem outsideWrite_nextGang (s : State) (a : Nat) (bs : List Byte) : (outsideWrite s a bs).nextGang = s.nextGang := rfl
@[simp] theorem outsideWrite_posts (s : State) (a : Nat) (bs : List Byte) : (outsideWrite s a bs).posts = s.posts := rfl
@[simp] theorem outsideWrite_slots (s : State) (a : Nat) (bs : List Byte) : (outsideWrite s a bs).slots = s.slots := rfl
@[simp] theorem outsideWrite_arrq (s : State) (a : Nat) (bs : List Byte) : (outsideWrite s a bs).arrq = s.arrq := rfl
@[simp] theorem outsideWrite_arrived (s : State) (a : Nat) (bs : List Byte) : (outsideWrite s a bs).arrived = s.arrived := rfl
@[simp] theorem outsideWrite_incoming (s : State) (a : Nat) (bs : List Byte) : (outsideWrite s a bs).incoming = s.incoming := rfl
@[simp] theorem outsideWrite_transit (s : State) (a : Nat) (bs : List Byte) : (outsideWrite s a bs).transit = s.transit := rfl
@[simp] theorem outsideWrite_pool (s : State) (a : Nat) (bs : List Byte) : (outsideWrite s a bs).pool = s.pool := rfl
@[simp] theorem outsideWrite_barriers (s : State) (a : Nat) (bs : List Byte) : (outsideWrite s a bs).barriers = s.barriers := rfl
@[simp] theorem outsideWrite_events (s : State) (a : Nat) (bs : List Byte) : (outsideWrite s a bs).events = s.events := rfl
@[simp] theorem outsideWrite_ringDropped (s : State) (a : Nat) (bs : List Byte) : (outsideWrite s a bs).ringDropped = s.ringDropped := rfl
@[simp] theorem outsideWrite_saved (s : State) (a : Nat) (bs : List Byte) : (outsideWrite s a bs).saved = s.saved := rfl
@[simp] theorem outsideWrite_tlb (s : State) (a : Nat) (bs : List Byte) : (outsideWrite s a bs).tlb = s.tlb := rfl
@[simp] theorem outsideWrite_pubs (s : State) (a : Nat) (bs : List Byte) : (outsideWrite s a bs).pubs = s.pubs := rfl
@[simp] theorem outsideWrite_linePubs (s : State) (a : Nat) (bs : List Byte) : (outsideWrite s a bs).linePubs = s.linePubs := rfl
@[simp] theorem outsideWrite_shadows (s : State) (a : Nat) (bs : List Byte) : (outsideWrite s a bs).shadows = s.shadows := rfl
@[simp] theorem outsideWrite_stalls (s : State) (a : Nat) (bs : List Byte) : (outsideWrite s a bs).stalls = s.stalls := rfl
@[simp] theorem outsideWrite_spill (s : State) (a : Nat) (bs : List Byte) : (outsideWrite s a bs).spill = s.spill := rfl
@[simp] theorem outsideWrite_replies (s : State) (a : Nat) (bs : List Byte) : (outsideWrite s a bs).replies = s.replies := rfl
@[simp] theorem outsideWrite_answers (s : State) (a : Nat) (bs : List Byte) : (outsideWrite s a bs).answers = s.answers := rfl
@[simp] theorem outsideWrite_nextSeq (s : State) (a : Nat) (bs : List Byte) : (outsideWrite s a bs).nextSeq = s.nextSeq := rfl
@[simp] theorem outsideWrite_moves (s : State) (a : Nat) (bs : List Byte) : (outsideWrite s a bs).moves = s.moves := rfl
@[simp] theorem outsideWrite_moved (s : State) (a : Nat) (bs : List Byte) : (outsideWrite s a bs).moved = s.moved := rfl
@[simp] theorem outsideWrite_pins (s : State) (a : Nat) (bs : List Byte) : (outsideWrite s a bs).pins = s.pins := rfl
@[simp] theorem outsideWrite_forwards (s : State) (a : Nat) (bs : List Byte) : (outsideWrite s a bs).forwards = s.forwards := rfl
@[simp] theorem outsideWrite_packets (s : State) (a : Nat) (bs : List Byte) : (outsideWrite s a bs).packets = s.packets := rfl
@[simp] theorem outsideWrite_combines (s : State) (a : Nat) (bs : List Byte) : (outsideWrite s a bs).combines = s.combines := rfl
@[simp] theorem outsideWrite_ports (s : State) (a : Nat) (bs : List Byte) : (outsideWrite s a bs).ports = s.ports := rfl
@[simp] theorem outsideWrite_lasers (s : State) (a : Nat) (bs : List Byte) : (outsideWrite s a bs).lasers = s.lasers := rfl
@[simp] theorem outsideWrite_peers (s : State) (a : Nat) (bs : List Byte) : (outsideWrite s a bs).peers = s.peers := rfl
@[simp] theorem outsideWrite_lost (s : State) (a : Nat) (bs : List Byte) : (outsideWrite s a bs).lost = s.lost := rfl
@[simp] theorem outsideWrite_delays (s : State) (a : Nat) (bs : List Byte) : (outsideWrite s a bs).delays = s.delays := rfl
@[simp] theorem outsideWrite_badBytes (s : State) (a : Nat) (bs : List Byte) : (outsideWrite s a bs).badBytes = s.badBytes := rfl
@[simp] theorem outsideWrite_lasting (s : State) (a : Nat) (bs : List Byte) : (outsideWrite s a bs).lasting = s.lasting := rfl
@[simp] theorem outsideWrite_laneErrors (s : State) (a : Nat) (bs : List Byte) : (outsideWrite s a bs).laneErrors = s.laneErrors := rfl
@[simp] theorem outsideWrite_frameErrors (s : State) (a : Nat) (bs : List Byte) : (outsideWrite s a bs).frameErrors = s.frameErrors := rfl
@[simp] theorem outsideWrite_power (s : State) (a : Nat) (bs : List Byte) : (outsideWrite s a bs).power = s.power := rfl
@[simp] theorem outsideWrite_turns (s : State) (a : Nat) (bs : List Byte) : (outsideWrite s a bs).turns = s.turns := rfl
@[simp] theorem outsideWrite_agenda (s : State) (a : Nat) (bs : List Byte) : (outsideWrite s a bs).agenda = s.agenda := rfl
@[simp] theorem outsideWrite_tick (s : State) (a : Nat) (bs : List Byte) : (outsideWrite s a bs).tick = s.tick := rfl

@[simp] theorem homeWrite_memory (s : State) (a : Nat) (bs : List Byte) :
    (homeWrite s a bs).memory = mputs s.memory (homeAddr s a) bs := rfl
@[simp] theorem outsideWrite_memory (s : State) (a : Nat) (bs : List Byte) :
    (outsideWrite s a bs).memory = softPuts s s.memory (homeAddr s a) bs := rfl

/-! The named updates of the hart are `withHart`s: simp turns them into that form. -/

@[simp] theorem setPc_eq (s : State) (v : Word) : setPc s v = withHart s fun h => { h with pc := alignPc v } := rfl

@[simp] theorem complete_eq (s : State) : complete s = withHart s fun h => { h with instret := h.instret + 1, waiting := false } := rfl

@[simp] theorem retireTo_eq (s : State) (v : Word) :
    retireTo s v = withHart s fun h => { h with instret := h.instret + 1, waiting := false, pc := alignPc v } := rfl

@[simp] theorem stall_eq (s : State) : stall s = withHart s fun h => { h with waiting := true } := rfl

@[simp] theorem addPerf_eq (s : State) (i : Nat) (v : Word) :
    addPerf s i v = withHart s fun h => { h with perf := vset h.perf i (vget h.perf i 0 + v) } := rfl

@[simp] theorem privileged_priv (s : State) (act : State → State) (h : s.hart.priv = true) : privileged s act = act s := by
  simp [privileged, h]

@[simp] theorem privileged_not (s : State) (act : State → State) (h : s.hart.priv = false) : privileged s act = illegalInstr s := by
  simp [privileged, h]

@[simp] theorem advance_core (s : State) (n : Nat) : (advance s n).core = s.core := rfl
@[simp] theorem advance_die (s : State) (n : Nat) : (advance s n).die = s.die := rfl
@[simp] theorem advance_others (s : State) (n : Nat) : (advance s n).others = s.others := rfl
@[simp] theorem advance_otherCores (s : State) (n : Nat) : (advance s n).otherCores = s.otherCores := rfl
@[simp] theorem advance_otherDies (s : State) (n : Nat) : (advance s n).otherDies = s.otherDies := rfl
@[simp] theorem advance_memory (s : State) (n : Nat) : (advance s n).memory = s.memory := rfl
@[simp] theorem advance_time (s : State) (n : Nat) : (advance s n).time = s.time := rfl
@[simp] theorem advance_regs (s : State) (n : Nat) : (advance s n).regs = s.regs := rfl
@[simp] theorem advance_membership (s : State) (n : Nat) : (advance s n).membership = s.membership := rfl
@[simp] theorem advance_hostq (s : State) (n : Nat) : (advance s n).hostq = s.hostq := rfl
@[simp] theorem advance_hqTurn (s : State) (n : Nat) : (advance s n).hqTurn = s.hqTurn := rfl
@[simp] theorem advance_reqs (s : State) (n : Nat) : (advance s n).reqs = s.reqs := rfl
@[simp] theorem advance_nextGang (s : State) (n : Nat) : (advance s n).nextGang = s.nextGang := rfl
@[simp] theorem advance_posts (s : State) (n : Nat) : (advance s n).posts = s.posts := rfl
@[simp] theorem advance_slots (s : State) (n : Nat) : (advance s n).slots = s.slots := rfl
@[simp] theorem advance_arrq (s : State) (n : Nat) : (advance s n).arrq = s.arrq := rfl
@[simp] theorem advance_arrived (s : State) (n : Nat) : (advance s n).arrived = s.arrived := rfl
@[simp] theorem advance_incoming (s : State) (n : Nat) : (advance s n).incoming = s.incoming := rfl
@[simp] theorem advance_transit (s : State) (n : Nat) : (advance s n).transit = s.transit := rfl
@[simp] theorem advance_pool (s : State) (n : Nat) : (advance s n).pool = s.pool := rfl
@[simp] theorem advance_barriers (s : State) (n : Nat) : (advance s n).barriers = s.barriers := rfl
@[simp] theorem advance_events (s : State) (n : Nat) : (advance s n).events = s.events := rfl
@[simp] theorem advance_ringDropped (s : State) (n : Nat) : (advance s n).ringDropped = s.ringDropped := rfl
@[simp] theorem advance_saved (s : State) (n : Nat) : (advance s n).saved = s.saved := rfl
@[simp] theorem advance_tlb (s : State) (n : Nat) : (advance s n).tlb = s.tlb := rfl
@[simp] theorem advance_pubs (s : State) (n : Nat) : (advance s n).pubs = s.pubs := rfl
@[simp] theorem advance_linePubs (s : State) (n : Nat) : (advance s n).linePubs = s.linePubs := rfl
@[simp] theorem advance_shadows (s : State) (n : Nat) : (advance s n).shadows = s.shadows := rfl
@[simp] theorem advance_stalls (s : State) (n : Nat) : (advance s n).stalls = s.stalls := rfl
@[simp] theorem advance_spill (s : State) (n : Nat) : (advance s n).spill = s.spill := rfl
@[simp] theorem advance_replies (s : State) (n : Nat) : (advance s n).replies = s.replies := rfl
@[simp] theorem advance_answers (s : State) (n : Nat) : (advance s n).answers = s.answers := rfl
@[simp] theorem advance_nextSeq (s : State) (n : Nat) : (advance s n).nextSeq = s.nextSeq := rfl
@[simp] theorem advance_moves (s : State) (n : Nat) : (advance s n).moves = s.moves := rfl
@[simp] theorem advance_moved (s : State) (n : Nat) : (advance s n).moved = s.moved := rfl
@[simp] theorem advance_pins (s : State) (n : Nat) : (advance s n).pins = s.pins := rfl
@[simp] theorem advance_forwards (s : State) (n : Nat) : (advance s n).forwards = s.forwards := rfl
@[simp] theorem advance_packets (s : State) (n : Nat) : (advance s n).packets = s.packets := rfl
@[simp] theorem advance_combines (s : State) (n : Nat) : (advance s n).combines = s.combines := rfl
@[simp] theorem advance_ports (s : State) (n : Nat) : (advance s n).ports = s.ports := rfl
@[simp] theorem advance_lasers (s : State) (n : Nat) : (advance s n).lasers = s.lasers := rfl
@[simp] theorem advance_peers (s : State) (n : Nat) : (advance s n).peers = s.peers := rfl
@[simp] theorem advance_lost (s : State) (n : Nat) : (advance s n).lost = s.lost := rfl
@[simp] theorem advance_delays (s : State) (n : Nat) : (advance s n).delays = s.delays := rfl
@[simp] theorem advance_badBytes (s : State) (n : Nat) : (advance s n).badBytes = s.badBytes := rfl
@[simp] theorem advance_lasting (s : State) (n : Nat) : (advance s n).lasting = s.lasting := rfl
@[simp] theorem advance_laneErrors (s : State) (n : Nat) : (advance s n).laneErrors = s.laneErrors := rfl
@[simp] theorem advance_frameErrors (s : State) (n : Nat) : (advance s n).frameErrors = s.frameErrors := rfl
@[simp] theorem advance_power (s : State) (n : Nat) : (advance s n).power = s.power := rfl
@[simp] theorem advance_turns (s : State) (n : Nat) : (advance s n).turns = s.turns := rfl
@[simp] theorem advance_agenda (s : State) (n : Nat) : (advance s n).agenda = s.agenda := rfl
@[simp] theorem advance_tick (s : State) (n : Nat) : (advance s n).tick = s.tick := rfl

@[simp] theorem retire_core (s : State) (n : Nat) : (retire s n).core = s.core := rfl
@[simp] theorem retire_die (s : State) (n : Nat) : (retire s n).die = s.die := rfl
@[simp] theorem retire_others (s : State) (n : Nat) : (retire s n).others = s.others := rfl
@[simp] theorem retire_otherCores (s : State) (n : Nat) : (retire s n).otherCores = s.otherCores := rfl
@[simp] theorem retire_otherDies (s : State) (n : Nat) : (retire s n).otherDies = s.otherDies := rfl
@[simp] theorem retire_memory (s : State) (n : Nat) : (retire s n).memory = s.memory := rfl
@[simp] theorem retire_time (s : State) (n : Nat) : (retire s n).time = s.time := rfl
@[simp] theorem retire_regs (s : State) (n : Nat) : (retire s n).regs = s.regs := rfl
@[simp] theorem retire_membership (s : State) (n : Nat) : (retire s n).membership = s.membership := rfl
@[simp] theorem retire_hostq (s : State) (n : Nat) : (retire s n).hostq = s.hostq := rfl
@[simp] theorem retire_hqTurn (s : State) (n : Nat) : (retire s n).hqTurn = s.hqTurn := rfl
@[simp] theorem retire_reqs (s : State) (n : Nat) : (retire s n).reqs = s.reqs := rfl
@[simp] theorem retire_nextGang (s : State) (n : Nat) : (retire s n).nextGang = s.nextGang := rfl
@[simp] theorem retire_posts (s : State) (n : Nat) : (retire s n).posts = s.posts := rfl
@[simp] theorem retire_slots (s : State) (n : Nat) : (retire s n).slots = s.slots := rfl
@[simp] theorem retire_arrq (s : State) (n : Nat) : (retire s n).arrq = s.arrq := rfl
@[simp] theorem retire_arrived (s : State) (n : Nat) : (retire s n).arrived = s.arrived := rfl
@[simp] theorem retire_incoming (s : State) (n : Nat) : (retire s n).incoming = s.incoming := rfl
@[simp] theorem retire_transit (s : State) (n : Nat) : (retire s n).transit = s.transit := rfl
@[simp] theorem retire_pool (s : State) (n : Nat) : (retire s n).pool = s.pool := rfl
@[simp] theorem retire_barriers (s : State) (n : Nat) : (retire s n).barriers = s.barriers := rfl
@[simp] theorem retire_events (s : State) (n : Nat) : (retire s n).events = s.events := rfl
@[simp] theorem retire_ringDropped (s : State) (n : Nat) : (retire s n).ringDropped = s.ringDropped := rfl
@[simp] theorem retire_saved (s : State) (n : Nat) : (retire s n).saved = s.saved := rfl
@[simp] theorem retire_tlb (s : State) (n : Nat) : (retire s n).tlb = s.tlb := rfl
@[simp] theorem retire_pubs (s : State) (n : Nat) : (retire s n).pubs = s.pubs := rfl
@[simp] theorem retire_linePubs (s : State) (n : Nat) : (retire s n).linePubs = s.linePubs := rfl
@[simp] theorem retire_shadows (s : State) (n : Nat) : (retire s n).shadows = s.shadows := rfl
@[simp] theorem retire_stalls (s : State) (n : Nat) : (retire s n).stalls = s.stalls := rfl
@[simp] theorem retire_spill (s : State) (n : Nat) : (retire s n).spill = s.spill := rfl
@[simp] theorem retire_replies (s : State) (n : Nat) : (retire s n).replies = s.replies := rfl
@[simp] theorem retire_answers (s : State) (n : Nat) : (retire s n).answers = s.answers := rfl
@[simp] theorem retire_nextSeq (s : State) (n : Nat) : (retire s n).nextSeq = s.nextSeq := rfl
@[simp] theorem retire_moves (s : State) (n : Nat) : (retire s n).moves = s.moves := rfl
@[simp] theorem retire_moved (s : State) (n : Nat) : (retire s n).moved = s.moved := rfl
@[simp] theorem retire_pins (s : State) (n : Nat) : (retire s n).pins = s.pins := rfl
@[simp] theorem retire_forwards (s : State) (n : Nat) : (retire s n).forwards = s.forwards := rfl
@[simp] theorem retire_packets (s : State) (n : Nat) : (retire s n).packets = s.packets := rfl
@[simp] theorem retire_combines (s : State) (n : Nat) : (retire s n).combines = s.combines := rfl
@[simp] theorem retire_ports (s : State) (n : Nat) : (retire s n).ports = s.ports := rfl
@[simp] theorem retire_lasers (s : State) (n : Nat) : (retire s n).lasers = s.lasers := rfl
@[simp] theorem retire_peers (s : State) (n : Nat) : (retire s n).peers = s.peers := rfl
@[simp] theorem retire_lost (s : State) (n : Nat) : (retire s n).lost = s.lost := rfl
@[simp] theorem retire_delays (s : State) (n : Nat) : (retire s n).delays = s.delays := rfl
@[simp] theorem retire_badBytes (s : State) (n : Nat) : (retire s n).badBytes = s.badBytes := rfl
@[simp] theorem retire_lasting (s : State) (n : Nat) : (retire s n).lasting = s.lasting := rfl
@[simp] theorem retire_laneErrors (s : State) (n : Nat) : (retire s n).laneErrors = s.laneErrors := rfl
@[simp] theorem retire_frameErrors (s : State) (n : Nat) : (retire s n).frameErrors = s.frameErrors := rfl
@[simp] theorem retire_power (s : State) (n : Nat) : (retire s n).power = s.power := rfl
@[simp] theorem retire_turns (s : State) (n : Nat) : (retire s n).turns = s.turns := rfl
@[simp] theorem retire_agenda (s : State) (n : Nat) : (retire s n).agenda = s.agenda := rfl
@[simp] theorem retire_tick (s : State) (n : Nat) : (retire s n).tick = s.tick := rfl

/-! The program counter after an instruction of `n` bytes, outside a frame and inside one (R136, R180). -/

theorem advance_outside (s : State) (n : Nat) (h : s.hart.lap = none) : advance s n = withHart s fun x => { x with pc := x.pc + toWord n } := by
  simp only [advance, withHart, h]

theorem advance_inside (s : State) (n : Nat) (l : Lap) (h : s.hart.lap = some l) : advance s n = withHart s fun x => { x with lap := l.next } := by
  simp only [advance, withHart, h]

theorem retire_outside (s : State) (n : Nat) (h : s.hart.lap = none) :
    retire s n = withHart s fun x => { x with pc := x.pc + toWord n, instret := x.instret + 1, waiting := false } := by
  unfold retire
  rw [advance_outside s n h]
  rfl

/-! Scalar registers (R9, R258). -/

@[simp] theorem rx_zero (s : State) : rx s 0 = 0 := rfl

@[simp] theorem wx_zero (s : State) (v : Word) : wx s 0 v = s := rfl

theorem wx_main (s : State) {r : Nat} (v : Word) (h0 : r ≠ 0) (h : ¬(s.hart.nh ∧ 24 ≤ r)) :
    wx s r v = withHart s fun x => { x with x := vset x.x r v } := by
  unfold wx wxIn
  rw [if_neg h0, if_neg h]

theorem wx_shadow (s : State) {r : Nat} (v : Word) (h0 : r ≠ 0) (h : s.hart.nh ∧ 24 ≤ r) :
    wx s r v = withHart s fun x => { x with shadow := vset x.shadow (r - 24) v } := by
  unfold wx wxIn
  rw [if_neg h0, if_pos h]

@[simp] theorem wx_core (s : State) (r : Nat) (v : Word) : (wx s r v).core = s.core := by unfold wx wxIn; split_ifs <;> rfl
@[simp] theorem wx_die (s : State) (r : Nat) (v : Word) : (wx s r v).die = s.die := by unfold wx wxIn; split_ifs <;> rfl
@[simp] theorem wx_others (s : State) (r : Nat) (v : Word) : (wx s r v).others = s.others := by unfold wx wxIn; split_ifs <;> rfl
@[simp] theorem wx_otherCores (s : State) (r : Nat) (v : Word) : (wx s r v).otherCores = s.otherCores := by unfold wx wxIn; split_ifs <;> rfl
@[simp] theorem wx_otherDies (s : State) (r : Nat) (v : Word) : (wx s r v).otherDies = s.otherDies := by unfold wx wxIn; split_ifs <;> rfl
@[simp] theorem wx_memory (s : State) (r : Nat) (v : Word) : (wx s r v).memory = s.memory := by unfold wx wxIn; split_ifs <;> rfl
@[simp] theorem wx_time (s : State) (r : Nat) (v : Word) : (wx s r v).time = s.time := by unfold wx wxIn; split_ifs <;> rfl
@[simp] theorem wx_regs (s : State) (r : Nat) (v : Word) : (wx s r v).regs = s.regs := by unfold wx wxIn; split_ifs <;> rfl
@[simp] theorem wx_membership (s : State) (r : Nat) (v : Word) : (wx s r v).membership = s.membership := by unfold wx wxIn; split_ifs <;> rfl
@[simp] theorem wx_hostq (s : State) (r : Nat) (v : Word) : (wx s r v).hostq = s.hostq := by unfold wx wxIn; split_ifs <;> rfl
@[simp] theorem wx_hqTurn (s : State) (r : Nat) (v : Word) : (wx s r v).hqTurn = s.hqTurn := by unfold wx wxIn; split_ifs <;> rfl
@[simp] theorem wx_reqs (s : State) (r : Nat) (v : Word) : (wx s r v).reqs = s.reqs := by unfold wx wxIn; split_ifs <;> rfl
@[simp] theorem wx_nextGang (s : State) (r : Nat) (v : Word) : (wx s r v).nextGang = s.nextGang := by unfold wx wxIn; split_ifs <;> rfl
@[simp] theorem wx_posts (s : State) (r : Nat) (v : Word) : (wx s r v).posts = s.posts := by unfold wx wxIn; split_ifs <;> rfl
@[simp] theorem wx_slots (s : State) (r : Nat) (v : Word) : (wx s r v).slots = s.slots := by unfold wx wxIn; split_ifs <;> rfl
@[simp] theorem wx_arrq (s : State) (r : Nat) (v : Word) : (wx s r v).arrq = s.arrq := by unfold wx wxIn; split_ifs <;> rfl
@[simp] theorem wx_arrived (s : State) (r : Nat) (v : Word) : (wx s r v).arrived = s.arrived := by unfold wx wxIn; split_ifs <;> rfl
@[simp] theorem wx_incoming (s : State) (r : Nat) (v : Word) : (wx s r v).incoming = s.incoming := by unfold wx wxIn; split_ifs <;> rfl
@[simp] theorem wx_transit (s : State) (r : Nat) (v : Word) : (wx s r v).transit = s.transit := by unfold wx wxIn; split_ifs <;> rfl
@[simp] theorem wx_pool (s : State) (r : Nat) (v : Word) : (wx s r v).pool = s.pool := by unfold wx wxIn; split_ifs <;> rfl
@[simp] theorem wx_barriers (s : State) (r : Nat) (v : Word) : (wx s r v).barriers = s.barriers := by unfold wx wxIn; split_ifs <;> rfl
@[simp] theorem wx_events (s : State) (r : Nat) (v : Word) : (wx s r v).events = s.events := by unfold wx wxIn; split_ifs <;> rfl
@[simp] theorem wx_ringDropped (s : State) (r : Nat) (v : Word) : (wx s r v).ringDropped = s.ringDropped := by unfold wx wxIn; split_ifs <;> rfl
@[simp] theorem wx_saved (s : State) (r : Nat) (v : Word) : (wx s r v).saved = s.saved := by unfold wx wxIn; split_ifs <;> rfl
@[simp] theorem wx_tlb (s : State) (r : Nat) (v : Word) : (wx s r v).tlb = s.tlb := by unfold wx wxIn; split_ifs <;> rfl
@[simp] theorem wx_pubs (s : State) (r : Nat) (v : Word) : (wx s r v).pubs = s.pubs := by unfold wx wxIn; split_ifs <;> rfl
@[simp] theorem wx_linePubs (s : State) (r : Nat) (v : Word) : (wx s r v).linePubs = s.linePubs := by unfold wx wxIn; split_ifs <;> rfl
@[simp] theorem wx_shadows (s : State) (r : Nat) (v : Word) : (wx s r v).shadows = s.shadows := by unfold wx wxIn; split_ifs <;> rfl
@[simp] theorem wx_stalls (s : State) (r : Nat) (v : Word) : (wx s r v).stalls = s.stalls := by unfold wx wxIn; split_ifs <;> rfl
@[simp] theorem wx_spill (s : State) (r : Nat) (v : Word) : (wx s r v).spill = s.spill := by unfold wx wxIn; split_ifs <;> rfl
@[simp] theorem wx_replies (s : State) (r : Nat) (v : Word) : (wx s r v).replies = s.replies := by unfold wx wxIn; split_ifs <;> rfl
@[simp] theorem wx_answers (s : State) (r : Nat) (v : Word) : (wx s r v).answers = s.answers := by unfold wx wxIn; split_ifs <;> rfl
@[simp] theorem wx_nextSeq (s : State) (r : Nat) (v : Word) : (wx s r v).nextSeq = s.nextSeq := by unfold wx wxIn; split_ifs <;> rfl
@[simp] theorem wx_moves (s : State) (r : Nat) (v : Word) : (wx s r v).moves = s.moves := by unfold wx wxIn; split_ifs <;> rfl
@[simp] theorem wx_moved (s : State) (r : Nat) (v : Word) : (wx s r v).moved = s.moved := by unfold wx wxIn; split_ifs <;> rfl
@[simp] theorem wx_pins (s : State) (r : Nat) (v : Word) : (wx s r v).pins = s.pins := by unfold wx wxIn; split_ifs <;> rfl
@[simp] theorem wx_forwards (s : State) (r : Nat) (v : Word) : (wx s r v).forwards = s.forwards := by unfold wx wxIn; split_ifs <;> rfl
@[simp] theorem wx_packets (s : State) (r : Nat) (v : Word) : (wx s r v).packets = s.packets := by unfold wx wxIn; split_ifs <;> rfl
@[simp] theorem wx_combines (s : State) (r : Nat) (v : Word) : (wx s r v).combines = s.combines := by unfold wx wxIn; split_ifs <;> rfl
@[simp] theorem wx_ports (s : State) (r : Nat) (v : Word) : (wx s r v).ports = s.ports := by unfold wx wxIn; split_ifs <;> rfl
@[simp] theorem wx_lasers (s : State) (r : Nat) (v : Word) : (wx s r v).lasers = s.lasers := by unfold wx wxIn; split_ifs <;> rfl
@[simp] theorem wx_peers (s : State) (r : Nat) (v : Word) : (wx s r v).peers = s.peers := by unfold wx wxIn; split_ifs <;> rfl
@[simp] theorem wx_lost (s : State) (r : Nat) (v : Word) : (wx s r v).lost = s.lost := by unfold wx wxIn; split_ifs <;> rfl
@[simp] theorem wx_delays (s : State) (r : Nat) (v : Word) : (wx s r v).delays = s.delays := by unfold wx wxIn; split_ifs <;> rfl
@[simp] theorem wx_badBytes (s : State) (r : Nat) (v : Word) : (wx s r v).badBytes = s.badBytes := by unfold wx wxIn; split_ifs <;> rfl
@[simp] theorem wx_lasting (s : State) (r : Nat) (v : Word) : (wx s r v).lasting = s.lasting := by unfold wx wxIn; split_ifs <;> rfl
@[simp] theorem wx_laneErrors (s : State) (r : Nat) (v : Word) : (wx s r v).laneErrors = s.laneErrors := by unfold wx wxIn; split_ifs <;> rfl
@[simp] theorem wx_frameErrors (s : State) (r : Nat) (v : Word) : (wx s r v).frameErrors = s.frameErrors := by unfold wx wxIn; split_ifs <;> rfl
@[simp] theorem wx_power (s : State) (r : Nat) (v : Word) : (wx s r v).power = s.power := by unfold wx wxIn; split_ifs <;> rfl
@[simp] theorem wx_turns (s : State) (r : Nat) (v : Word) : (wx s r v).turns = s.turns := by unfold wx wxIn; split_ifs <;> rfl
@[simp] theorem wx_agenda (s : State) (r : Nat) (v : Word) : (wx s r v).agenda = s.agenda := by unfold wx wxIn; split_ifs <;> rfl
@[simp] theorem wx_tick (s : State) (r : Nat) (v : Word) : (wx s r v).tick = s.tick := by unfold wx wxIn; split_ifs <;> rfl

@[simp] theorem wx_hart_run (s : State) (r : Nat) (v : Word) : (wx s r v).hart.run = s.hart.run := by unfold wx wxIn; split_ifs <;> rfl
@[simp] theorem wx_hart_cx (s : State) (r : Nat) (v : Word) : (wx s r v).hart.cx = s.hart.cx := by unfold wx wxIn; split_ifs <;> rfl
@[simp] theorem wx_hart_cy (s : State) (r : Nat) (v : Word) : (wx s r v).hart.cy = s.hart.cy := by unfold wx wxIn; split_ifs <;> rfl
@[simp] theorem wx_hart_psize (s : State) (r : Nat) (v : Word) : (wx s r v).hart.psize = s.hart.psize := by unfold wx wxIn; split_ifs <;> rfl
@[simp] theorem wx_hart_lanes (s : State) (r : Nat) (v : Word) : (wx s r v).hart.lanes = s.hart.lanes := by unfold wx wxIn; split_ifs <;> rfl
@[simp] theorem wx_hart_lbase (s : State) (r : Nat) (v : Word) : (wx s r v).hart.lbase = s.hart.lbase := by unfold wx wxIn; split_ifs <;> rfl
@[simp] theorem wx_hart_idx (s : State) (r : Nat) (v : Word) : (wx s r v).hart.idx = s.hart.idx := by unfold wx wxIn; split_ifs <;> rfl
@[simp] theorem wx_hart_pc (s : State) (r : Nat) (v : Word) : (wx s r v).hart.pc = s.hart.pc := by unfold wx wxIn; split_ifs <;> rfl
@[simp] theorem wx_hart_bricks (s : State) (r : Nat) (v : Word) : (wx s r v).hart.bricks = s.hart.bricks := by unfold wx wxIn; split_ifs <;> rfl
@[simp] theorem wx_hart_btag (s : State) (r : Nat) (v : Word) : (wx s r v).hart.btag = s.hart.btag := by unfold wx wxIn; split_ifs <;> rfl
@[simp] theorem wx_hart_stagDirty (s : State) (r : Nat) (v : Word) : (wx s r v).hart.stagDirty = s.hart.stagDirty := by unfold wx wxIn; split_ifs <;> rfl
@[simp] theorem wx_hart_stagValid (s : State) (r : Nat) (v : Word) : (wx s r v).hart.stagValid = s.hart.stagValid := by unfold wx wxIn; split_ifs <;> rfl
@[simp] theorem wx_hart_masks (s : State) (r : Nat) (v : Word) : (wx s r v).hart.masks = s.hart.masks := by unfold wx wxIn; split_ifs <;> rfl
@[simp] theorem wx_hart_streams (s : State) (r : Nat) (v : Word) : (wx s r v).hart.streams = s.hart.streams := by unfold wx wxIn; split_ifs <;> rfl
@[simp] theorem wx_hart_offs (s : State) (r : Nat) (v : Word) : (wx s r v).hart.offs = s.hart.offs := by unfold wx wxIn; split_ifs <;> rfl
@[simp] theorem wx_hart_adj (s : State) (r : Nat) (v : Word) : (wx s r v).hart.adj = s.hart.adj := by unfold wx wxIn; split_ifs <;> rfl
@[simp] theorem wx_hart_bshape (s : State) (r : Nat) (v : Word) : (wx s r v).hart.bshape = s.hart.bshape := by unfold wx wxIn; split_ifs <;> rfl
@[simp] theorem wx_hart_vtype (s : State) (r : Nat) (v : Word) : (wx s r v).hart.vtype = s.hart.vtype := by unfold wx wxIn; split_ifs <;> rfl
@[simp] theorem wx_hart_scratch (s : State) (r : Nat) (v : Word) : (wx s r v).hart.scratch = s.hart.scratch := by unfold wx wxIn; split_ifs <;> rfl
@[simp] theorem wx_hart_fpctl (s : State) (r : Nat) (v : Word) : (wx s r v).hart.fpctl = s.hart.fpctl := by unfold wx wxIn; split_ifs <;> rfl
@[simp] theorem wx_hart_rseed (s : State) (r : Nat) (v : Word) : (wx s r v).hart.rseed = s.hart.rseed := by unfold wx wxIn; split_ifs <;> rfl
@[simp] theorem wx_hart_cycle (s : State) (r : Nat) (v : Word) : (wx s r v).hart.cycle = s.hart.cycle := by unfold wx wxIn; split_ifs <;> rfl
@[simp] theorem wx_hart_instret (s : State) (r : Nat) (v : Word) : (wx s r v).hart.instret = s.hart.instret := by unfold wx wxIn; split_ifs <;> rfl
@[simp] theorem wx_hart_perf (s : State) (r : Nat) (v : Word) : (wx s r v).hart.perf = s.hart.perf := by unfold wx wxIn; split_ifs <;> rfl
@[simp] theorem wx_hart_priv (s : State) (r : Nat) (v : Word) : (wx s r v).hart.priv = s.hart.priv := by unfold wx wxIn; split_ifs <;> rfl
@[simp] theorem wx_hart_depth (s : State) (r : Nat) (v : Word) : (wx s r v).hart.depth = s.hart.depth := by unfold wx wxIn; split_ifs <;> rfl
@[simp] theorem wx_hart_nh (s : State) (r : Nat) (v : Word) : (wx s r v).hart.nh = s.hart.nh := by unfold wx wxIn; split_ifs <;> rfl
@[simp] theorem wx_hart_nlap (s : State) (r : Nat) (v : Word) : (wx s r v).hart.nlap = s.hart.nlap := by unfold wx wxIn; split_ifs <;> rfl
@[simp] theorem wx_hart_tvec (s : State) (r : Nat) (v : Word) : (wx s r v).hart.tvec = s.hart.tvec := by unfold wx wxIn; split_ifs <;> rfl
@[simp] theorem wx_hart_tscr0 (s : State) (r : Nat) (v : Word) : (wx s r v).hart.tscr0 = s.hart.tscr0 := by unfold wx wxIn; split_ifs <;> rfl
@[simp] theorem wx_hart_tscr1 (s : State) (r : Nat) (v : Word) : (wx s r v).hart.tscr1 = s.hart.tscr1 := by unfold wx wxIn; split_ifs <;> rfl
@[simp] theorem wx_hart_ptroot (s : State) (r : Nat) (v : Word) : (wx s r v).hart.ptroot = s.hart.ptroot := by unfold wx wxIn; split_ifs <;> rfl
@[simp] theorem wx_hart_ctxid (s : State) (r : Nat) (v : Word) : (wx s r v).hart.ctxid = s.hart.ctxid := by unfold wx wxIn; split_ifs <;> rfl
@[simp] theorem wx_hart_bank0 (s : State) (r : Nat) (v : Word) : (wx s r v).hart.bank0 = s.hart.bank0 := by unfold wx wxIn; split_ifs <;> rfl
@[simp] theorem wx_hart_bank1 (s : State) (r : Nat) (v : Word) : (wx s r v).hart.bank1 = s.hart.bank1 := by unfold wx wxIn; split_ifs <;> rfl
@[simp] theorem wx_hart_bank2 (s : State) (r : Nat) (v : Word) : (wx s r v).hart.bank2 = s.hart.bank2 := by unfold wx wxIn; split_ifs <;> rfl
@[simp] theorem wx_hart_swap (s : State) (r : Nat) (v : Word) : (wx s r v).hart.swap = s.hart.swap := by unfold wx wxIn; split_ifs <;> rfl
@[simp] theorem wx_hart_inflight (s : State) (r : Nat) (v : Word) : (wx s r v).hart.inflight = s.hart.inflight := by unfold wx wxIn; split_ifs <;> rfl
@[simp] theorem wx_hart_held (s : State) (r : Nat) (v : Word) : (wx s r v).hart.held = s.hart.held := by unfold wx wxIn; split_ifs <;> rfl
@[simp] theorem wx_hart_lap (s : State) (r : Nat) (v : Word) : (wx s r v).hart.lap = s.hart.lap := by unfold wx wxIn; split_ifs <;> rfl
@[simp] theorem wx_hart_ir1 (s : State) (r : Nat) (v : Word) : (wx s r v).hart.ir1 = s.hart.ir1 := by unfold wx wxIn; split_ifs <;> rfl
@[simp] theorem wx_hart_ir2 (s : State) (r : Nat) (v : Word) : (wx s r v).hart.ir2 = s.hart.ir2 := by unfold wx wxIn; split_ifs <;> rfl
@[simp] theorem wx_hart_irPair (s : State) (r : Nat) (v : Word) : (wx s r v).hart.irPair = s.hart.irPair := by unfold wx wxIn; split_ifs <;> rfl
@[simp] theorem wx_hart_irPc (s : State) (r : Nat) (v : Word) : (wx s r v).hart.irPc = s.hart.irPc := by unfold wx wxIn; split_ifs <;> rfl
@[simp] theorem wx_hart_chan (s : State) (r : Nat) (v : Word) : (wx s r v).hart.chan = s.hart.chan := by unfold wx wxIn; split_ifs <;> rfl
@[simp] theorem wx_hart_rdesc (s : State) (r : Nat) (v : Word) : (wx s r v).hart.rdesc = s.hart.rdesc := by unfold wx wxIn; split_ifs <;> rfl
@[simp] theorem wx_hart_rnext (s : State) (r : Nat) (v : Word) : (wx s r v).hart.rnext = s.hart.rnext := by unfold wx wxIn; split_ifs <;> rfl
@[simp] theorem wx_hart_rop (s : State) (r : Nat) (v : Word) : (wx s r v).hart.rop = s.hart.rop := by unfold wx wxIn; split_ifs <;> rfl
@[simp] theorem wx_hart_rdisp (s : State) (r : Nat) (v : Word) : (wx s r v).hart.rdisp = s.hart.rdisp := by unfold wx wxIn; split_ifs <;> rfl
@[simp] theorem wx_hart_slotN (s : State) (r : Nat) (v : Word) : (wx s r v).hart.slotN = s.hart.slotN := by unfold wx wxIn; split_ifs <;> rfl
@[simp] theorem wx_hart_deadline (s : State) (r : Nat) (v : Word) : (wx s r v).hart.deadline = s.hart.deadline := by unfold wx wxIn; split_ifs <;> rfl
@[simp] theorem wx_hart_lateEn (s : State) (r : Nat) (v : Word) : (wx s r v).hart.lateEn = s.hart.lateEn := by unfold wx wxIn; split_ifs <;> rfl
@[simp] theorem wx_hart_vlmax (s : State) (r : Nat) (v : Word) : (wx s r v).hart.vlmax = s.hart.vlmax := by unfold wx wxIn; split_ifs <;> rfl
@[simp] theorem wx_hart_own (s : State) (r : Nat) (v : Word) : (wx s r v).hart.own = s.hart.own := by unfold wx wxIn; split_ifs <;> rfl
@[simp] theorem wx_hart_snap (s : State) (r : Nat) (v : Word) : (wx s r v).hart.snap = s.hart.snap := by unfold wx wxIn; split_ifs <;> rfl
@[simp] theorem wx_hart_stamp (s : State) (r : Nat) (v : Word) : (wx s r v).hart.stamp = s.hart.stamp := by unfold wx wxIn; split_ifs <;> rfl
@[simp] theorem wx_hart_joins (s : State) (r : Nat) (v : Word) : (wx s r v).hart.joins = s.hart.joins := by unfold wx wxIn; split_ifs <;> rfl
@[simp] theorem wx_hart_arrival (s : State) (r : Nat) (v : Word) : (wx s r v).hart.arrival = s.hart.arrival := by unfold wx wxIn; split_ifs <;> rfl
@[simp] theorem wx_hart_request (s : State) (r : Nat) (v : Word) : (wx s r v).hart.request = s.hart.request := by unfold wx wxIn; split_ifs <;> rfl
@[simp] theorem wx_hart_elems (s : State) (r : Nat) (v : Word) : (wx s r v).hart.elems = s.hart.elems := by unfold wx wxIn; split_ifs <;> rfl
@[simp] theorem wx_hart_lateDue (s : State) (r : Nat) (v : Word) : (wx s r v).hart.lateDue = s.hart.lateDue := by unfold wx wxIn; split_ifs <;> rfl
@[simp] theorem wx_hart_stalledPub (s : State) (r : Nat) (v : Word) : (wx s r v).hart.stalledPub = s.hart.stalledPub := by unfold wx wxIn; split_ifs <;> rfl
@[simp] theorem wx_hart_pinned (s : State) (r : Nat) (v : Word) : (wx s r v).hart.pinned = s.hart.pinned := by unfold wx wxIn; split_ifs <;> rfl
@[simp] theorem wx_hart_frame (s : State) (r : Nat) (v : Word) : (wx s r v).hart.frame = s.hart.frame := by unfold wx wxIn; split_ifs <;> rfl
@[simp] theorem wx_hart_tag (s : State) (r : Nat) (v : Word) : (wx s r v).hart.tag = s.hart.tag := by unfold wx wxIn; split_ifs <;> rfl
@[simp] theorem wx_hart_src (s : State) (r : Nat) (v : Word) : (wx s r v).hart.src = s.hart.src := by unfold wx wxIn; split_ifs <;> rfl
@[simp] theorem wx_hart_restored (s : State) (r : Nat) (v : Word) : (wx s r v).hart.restored = s.hart.restored := by unfold wx wxIn; split_ifs <;> rfl
@[simp] theorem wx_hart_waiting (s : State) (r : Nat) (v : Word) : (wx s r v).hart.waiting = s.hart.waiting := by unfold wx wxIn; split_ifs <;> rfl

end Sys2Proof.Laws
end

