-- ==== Sys2Proof/Laws/Access.lean ====
section
/-!
SUPPORT. What the shared operations over memory can change, once each, and that each keeps the canonical form of memory.
-/

namespace Sys2Proof.Laws

open Sys2Proof.Machine

/-! Requests, counts, reads and writes of a hart: the fields that may differ. -/

theorem haltPort_frame (s : State) (p sub : Nat) : ∃ ports events agenda, haltPort s p sub = { s with ports, events, agenda } :=
  ⟨_, _, _, rfl⟩

/-- A request at once changes the ports, and what the stop of one leaves; within the module nothing. -/
theorem sent_frame (s : State) (pa n : Nat) : ∃ ports events agenda, sent s pa n = { s with ports, events, agenda } := by
  unfold sent
  split
  · exact ⟨_, _, _, rfl⟩
  · split
    · exact ⟨_, _, _, rfl⟩
    · split
      · exact haltPort_frame _ _ _
      · exact ⟨_, _, _, rfl⟩

theorem sent_own {s : State} {pa : Nat} (n : Nat) (h : paModule pa = ownModule s) : sent s pa n = s := if_pos h

/-- A request changes the ports and what the stop of one leaves, and may put its note of lateness into the agenda. -/
theorem request_frame (deadline : Word) (s : State) (pa n : Nat) :
    ∃ ports events agenda, request deadline s pa n = { s with ports, events, agenda } := by
  obtain ⟨ports, events, agenda, h⟩ := sent_frame s (homeAddr s pa) n
  unfold request
  rw [h]
  dsimp only
  split <;> exact ⟨_, _, _, rfl⟩

theorem stopSpent_frame (s : State) (pa f : Nat) : ∃ ports events agenda, stopSpent s pa f = { s with ports, events, agenda } := by
  unfold stopSpent
  split
  · exact ⟨_, _, _, rfl⟩
  · split
    · split
      · exact haltPort_frame _ _ _
      · exact ⟨_, _, _, rfl⟩
    · exact ⟨_, _, _, rfl⟩

theorem touch_frame (s : State) (pa kind : Nat) : ∃ hot, touch s pa kind = { s with core := { s.core with hot } } := ⟨_, rfl⟩

theorem keepSnap_frame (s : State) (loc pa : Nat) :
    ∃ snap near, keepSnap s loc pa = { s with hart := { s.hart with snap }, die := { s.die with near } } := by
  unfold keepSnap
  split
  · exact ⟨_, _, rfl⟩
  · split <;> exact ⟨_, _, rfl⟩

/-- What a fetch leaves in the near cache. -/
theorem cacheElem_frame (s t : State) (va pa : Nat) : ∃ near, cacheElem s va pa t = { t with die := { t.die with near } } := by
  unfold cacheElem
  generalize List.range 8 = l
  induction l generalizing t with
  | nil => exact ⟨_, rfl⟩
  | cons i l ih =>
    rw [List.foldl_cons]
    dsimp only
    split
    · exact ih _
    · exact ih t

theorem keepNear_frame (s : State) (loc pa : Nat) :
    ∃ snap near, keepNear s loc pa = { s with hart := { s.hart with snap }, die := { s.die with near } } := by
  unfold keepNear
  split <;> exact ⟨_, _, rfl⟩

/-- What a read leaves, by either way to keep it, is the snapshot and the near cache. -/
theorem keepBytes_frame {keep : State → Nat → Nat → State}
    (hk : ∀ s loc pa, ∃ snap near, keep s loc pa = { s with hart := { s.hart with snap }, die := { s.die with near } }) (n : Nat) :
    ∀ (s : State) (va pa : Nat), ∃ snap near, keepBytes keep s va pa n = { s with hart := { s.hart with snap }, die := { s.die with near } } := by
  induction n with
  | zero => exact fun s _ _ => ⟨_, _, rfl⟩
  | succ n ih =>
    intro s va pa
    obtain ⟨snap, near, h⟩ : ∃ snap near, keepByte keep s va pa = { s with hart := { s.hart with snap }, die := { s.die with near } } := by
      unfold keepByte
      split
      · exact ⟨_, _, rfl⟩
      · exact hk _ _ _
    obtain ⟨snap', near', h'⟩ := ih { s with hart := { s.hart with snap }, die := { s.die with near } } (va + 1) (pa + 1)
    exact ⟨snap', near', by rw [keepBytes, h, h']⟩

theorem hartWrite_frame (bs : List Byte) : ∀ (s : State) (va pa : Nat), ∃ own, hartWrite s va pa bs = { s with hart := { s.hart with own } } := by
  induction bs with
  | nil => exact fun s _ _ => ⟨_, rfl⟩
  | cons b bs ih =>
    intro s va pa
    obtain ⟨own, h⟩ := ih (withHart s fun h => { h with own := tset h.own (hartLoc s va) ⟨b, pa, false, false⟩ }) (va + 1) (pa + 1)
    exact ⟨own, h⟩

/-! Writes at homes: the fields that may differ. -/

@[simp] theorem emitModule_memory (s : State) (typ : Nat) (p0 p1 : Word) : (emitModule s typ p0 p1).memory = s.memory := rfl

theorem onNear_frame (s : State) (f : Table NearCopy → Table NearCopy) :
    ∃ near otherDies, onNear s f = { s with die := { s.die with near }, otherDies } := ⟨_, _, rfl⟩

theorem locWrite_frame (s : State) (loc pa : Nat) (bs : List Byte) : ∃ near otherDies,
    locWrite s loc pa bs = { s with memory := softPuts s s.memory (homeAddr s pa) bs, die := { s.die with near }, otherDies } := ⟨_, _, rfl⟩

/-- A line stamped keeps its value as a shadow where a phase needs it, takes the next publication stamp and is waited at no more. -/
theorem stampLines_frame (s : State) (lines : List Nat) : ∃ shadows pubs linePubs stalls,
    stampLines s lines = { s with shadows, pubs, linePubs, stalls } := by
  unfold stampLines
  generalize lines.dedup = ls
  induction ls generalizing s with
  | nil => exact ⟨_, _, _, _, rfl⟩
  | cons l ls ih =>
    obtain ⟨sh, p, lp, st, h⟩ := ih (stampLine s l)
    exact ⟨sh, p, lp, st, by rw [List.foldl_cons, h]; rfl⟩

theorem homeWrite_frame (s : State) (pa : Nat) (bs : List Byte) : ∃ near otherDies,
    homeWrite s pa bs = { s with memory := mputs s.memory (homeAddr s pa) bs, die := { s.die with near }, otherDies } := ⟨_, _, rfl⟩

theorem outsideWrite_frame (s : State) (pa : Nat) (bs : List Byte) : ∃ near otherDies,
    outsideWrite s pa bs = { s with memory := softPuts s s.memory (homeAddr s pa) bs, die := { s.die with near }, otherDies } := ⟨_, _, rfl⟩

/-! The canonical form of memory is kept. -/

theorem wf_softPuts (s : State) (bs : List Byte) : ∀ {m : Memory} (pa : Nat), m.wf = true → (softPuts s m pa bs).wf = true := by
  induction bs with
  | nil => exact fun _ h => h
  | cons b bs ih => exact fun pa h => ih (pa + 1) (wf_mput _ _ h)

/-- What a home byte holds after software has written: the new bits but for the read-only ones. -/
theorem mget_softPuts (s : State) (bs : List Byte) : ∀ {m : Memory} (pa : Nat), m.wf = true → ∀ a,
    mget (softPuts s m pa bs) a = if pa ≤ a ∧ a < pa + bs.length then softByte s m a (bs.getD (a - pa) 0) else mget m a := by
  induction bs with
  | nil =>
    intro m pa _ a
    rw [if_neg (by simp)]
    rfl
  | cons b bs ih =>
    intro m pa h a
    rw [softPuts, ih (pa + 1) (wf_mput _ _ h) a]
    by_cases h1 : a = pa
    · subst h1
      rw [if_neg (by omega), if_pos (by simp), mget_mput_same h]
      simp
    · by_cases h2 : pa + 1 ≤ a ∧ a < pa + 1 + bs.length
      · rw [if_pos h2, if_pos (by simp only [List.length_cons]; omega)]
        obtain ⟨k, hk⟩ : ∃ k, a - pa = k + 1 := ⟨a - pa - 1, by omega⟩
        rw [show a - (pa + 1) = k by omega, hk, List.getD_cons_succ]
        unfold softByte
        rw [mget_mput_other h _ h1]
      · rw [if_neg h2, if_neg (by simp only [List.length_cons]; omega), mget_mput_other h _ h1]

theorem wf_homeWrite {s : State} (pa : Nat) (bs : List Byte) (h : s.memory.wf = true) : (homeWrite s pa bs).memory.wf = true := wf_mputs _ _ h

theorem wf_outsideWrite {s : State} (pa : Nat) (bs : List Byte) (h : s.memory.wf = true) : (outsideWrite s pa bs).memory.wf = true :=
  wf_softPuts _ _ _ h

theorem wf_locWrite {s : State} (loc pa : Nat) (bs : List Byte) (h : s.memory.wf = true) : (locWrite s loc pa bs).memory.wf = true :=
  wf_softPuts _ _ _ h

theorem wf_stampLines {s : State} (lines : List Nat) (h : s.memory.wf = true) : (stampLines s lines).memory.wf = true := by
  obtain ⟨_, _, _, _, e⟩ := stampLines_frame s lines
  rw [e]
  exact h

theorem wf_dropVersions {s : State} (pa n : Nat) (h : s.memory.wf = true) : (dropVersions s pa n).memory.wf = true :=
  wf_foldl _ (fun _ _ h => wf_mputN _ _ _ h) _ h

theorem wf_writeWindow {s : State} (x : Window) (h : s.memory.wf = true) : (writeWindow s x).memory.wf = true := by
  unfold writeWindow
  rw [dropNearPA_memory]
  apply wf_mputN
  apply wf_mputN
  apply wf_mputN
  apply wf_mputN
  exact h

theorem wf_putOwn {s : State} (bs : Table OwnByte) (h : s.memory.wf = true) : (putOwn s bs).memory.wf = true :=
  wf_foldl _ (fun _ _ h => wf_mput _ _ h) bs h

theorem wf_sent {s : State} (pa n : Nat) (h : s.memory.wf = true) : (sent s pa n).memory.wf = true := by
  obtain ⟨_, _, _, e⟩ := sent_frame s pa n
  rw [e]
  exact h

theorem wf_request {s : State} (deadline : Word) (pa n : Nat) (h : s.memory.wf = true) : (request deadline s pa n).memory.wf = true := by
  obtain ⟨_, _, _, e⟩ := request_frame deadline s pa n
  rw [e]
  exact h

theorem wf_stopSpent {s : State} (pa f : Nat) (h : s.memory.wf = true) : (stopSpent s pa f).memory.wf = true := by
  obtain ⟨_, _, _, e⟩ := stopSpent_frame s pa f
  rw [e]
  exact h

theorem wf_ringDropped {s : State} (l : List Nat) (h : s.memory.wf = true) : ({ s with ringDropped := l } : State).memory.wf = true := h

theorem wf_errorEntry {s : State} (ctxid : BitVec 32) (kind cause sub len addr peer info : Nat) (h : s.memory.wf = true) :
    (errorEntry s ctxid kind cause sub len addr peer info).memory.wf = true := by
  unfold errorEntry
  extract_lets ring tail head lost s1 a d1 s2
  split
  · split
    · exact wf_homeWrite _ _ h
    · exact wf_homeWrite _ _ h
  · refine wf_ringDropped (s := homeWrite s2 ring (leBytes 8 (tail + 1))) _ ?_
    apply wf_homeWrite
    exact wf_homeWrite _ _ h

theorem wf_lineFailed {s : State} (line : Nat) (mine : Table OwnByte) (f : AccFault) (h : s.memory.wf = true) :
    (lineFailed s line mine f).memory.wf = true := by
  unfold lineFailed writeBackFailed
  rw [emitModule_memory]
  apply wf_errorEntry
  exact wf_stopSpent _ _ h

theorem wf_stampLine {s : State} (line : Nat) (h : s.memory.wf = true) : (stampLine s line).memory.wf = true := by
  unfold stampLine
  exact h

theorem wf_publishLine {s : State} (line : Nat) (bs : Table OwnByte) (h : s.memory.wf = true) : (publishLine s line bs).memory.wf = true := by
  unfold publishLine
  dsimp only
  split
  · exact wf_lineFailed _ _ _ h
  · exact wf_request _ _ _ (wf_putOwn _ (wf_stampLine line h))

theorem wf_evictLine {s : State} (line : Nat) (bs : Table OwnByte) (h : s.memory.wf = true) : (evictLine s line bs).memory.wf = true := by
  unfold evictLine
  dsimp only
  split
  · exact wf_lineFailed _ _ _ h
  · exact wf_request _ _ _ (wf_putOwn _ h)

theorem wf_respill {s : State} (old new : Nat) {m : Memory} (h : m.wf = true) : (respill s old new m).wf = true :=
  wf_foldl _ (fun _ _ h => wf_mputN _ _ _ h) _ h

theorem relocate_memory (s : State) (old new : Nat) : (relocate s old new).memory = s.memory := by
  unfold relocate
  rfl

theorem wf_carryPage {s : State} (old new : Nat) (h : s.memory.wf = true) : (carryPage s old new).memory.wf = true := by
  unfold carryPage
  exact wf_sent _ _ (wf_respill _ _ (wf_mreplace _ _ _ ((relocate_memory s old new).symm ▸ h)))

theorem wf_receivePage {s : State} (old frame : Nat) (bytes : Memory) (times : List Word) (replies : Table Reply) (h : s.memory.wf = true) :
    (receivePage s old frame bytes times replies).memory.wf = true := by
  unfold receivePage
  rw [dropNearPA_memory]
  apply wf_mreplace
  rw [relocate_memory]
  exact h

theorem wf_flushCount {s : State} {m : Memory} (k n : Nat) (h : m.wf = true) : (flushCount s m k n).wf = true := by
  unfold flushCount addHotness
  dsimp only
  split
  · exact h
  · split
    · exact wf_mputN _ _ _ h
    · exact wf_mputN _ _ _ (wf_mputN _ _ _ h)

theorem wf_frameImage {s : State} (h : s.memory.wf = true) : (frameImage s).wf = true := by
  have hb : ∀ {m : Memory}, m.wf = true → (saveBricks s.hart (framePlace s s.hart.frame.toNat) m).wf = true := by
    intro m hm
    unfold saveBricks
    refine wf_foldl _ (fun m _ hm => ?_) _ hm
    dsimp only
    split
    · exact wf_foldl _ (fun _ _ hm => wf_mreplace _ _ _ hm) _ hm
    · exact hm
  have hs : ∀ {m : Memory}, m.wf = true → (saveScratch s.hart (framePlace s s.hart.frame.toNat) m).wf = true := by
    intro m hm
    unfold saveScratch
    refine wf_foldl _ (fun m _ hm => ?_) _ hm
    split
    · exact wf_foldl _ (fun _ _ hm => wf_mreplace _ _ _ hm) _ hm
    · exact hm
  have hc := wf_foldl (fun m d => mputN m (framePlace s s.hart.frame.toNat d.1) 8 d.2) (fun _ _ h => wf_mputN _ _ _ h) (controlDwords s) h
  unfold frameImage
  dsimp only
  split
  · exact wf_mreplace _ _ _ (wf_mputs _ _ (wf_mputs _ _ (hs (hb hc))))
  · exact hs (hb hc)

end Sys2Proof.Laws
end

