-- ==== Sys2Proof/Tests/Slice0.lean ====
section
/-!
SUPPORT. Tests: terms that WellFormed refuses, words of the manual, single steps whose results the manual works out, and, for every
statement with hypotheses, a concrete state and operands that meet them.
-/

namespace Sys2Proof.Tests

set_option Elab.async false

open Sys2Proof.Machine Sys2Proof.Claims

/-! WellFormed: a term for each kind of check, refused. -/

theorem test_registers_refused : [Instr.add 32 0 0, .add 0 32 0, .add 0 0 32, .clz 32 0, .clz 0 32, .csrrw 0 0 4096, .jal 32 0,
    .jal 0 2097152, .jalr 0 0 65536, .beq 32 0 0, .beq 0 32 0, .beq 0 0 8192, .addi 0 0 65536, .slli 0 0 64, .lui 0 2097152,
    .ldsS8 0 0 8192, .stsZ64 0 32 0].all (fun i => !wellFormed i) = true := by decide

theorem test_brick_fields_refused : [Instr.vadd 32 0 0 0 0 0 0, .vadd 0 32 0 0 0 0 0, .vadd 0 0 32 0 0 0 0, .vadd 0 0 0 8 0 0 0,
    .vadd 0 0 0 0 8 0 0, .vadd 0 0 0 0 0 2 0, .vadd 0 0 0 0 0 0 2, .vfadd 0 0 0 0 5 0 0, .vfadd 0 0 0 0 6 0 0, .vfadd 0 0 0 0 8 0 0,
    .vceq 8 0 0 0 0 0 0, .vmand 8 0 0 0, .vmand 0 8 0 0, .vmand 0 0 8 0, .vmpopc 8 0 0, .vcvt 0 0 12 0 0 0, .vpack 0 0 32 0 0 0,
    .vrsum 0 0 4 0 0 0, .vaddx 0 0 32 0 0 0, .vaddx 0 0 0 0 0 2, .vslide 0 0 32 0 0 0, .vslide 0 0 0 0 3 0, .vrot 0 0 0 0 3 0,
    .vmovx 0 0 0 2].all (fun i => !wellFormed i) = true := by decide

theorem test_pairs_refused : [Instr.ofs 16 0 0 0 0 0 0 0x4C811218, .ofs 0 0 0 0 0 0 4 0x4C811218, .ofs 0 0 0 0 0 0 0 0x70000000,
    .ofs 0 0 0 1 0 0 0 0x64216012, .ofs 0 0 0 0 0 0 0 (2 ^ 32 + 0x4C811218)].all (fun i => !wellFormed i) = true := by decide

theorem test_system_fields_refused : [Instr.setofs 0 0 0, .setofs 0 0 8, .adj 0 0 32 0, .adj 0 0 0 6, .sset 0 16, .vld 0 16 0 0,
    .vld 0 0 8 0, .vld 0 0 0 2, .vgath 0 0 0 2 0 0, .vgath 0 0 0 0 32 0, .spld 32 0 0 0, .atomAld 0 0 0 4 0 0 1 0, .atomAld 0 0 0 0 2 0 1 0,
    .atomAld 0 0 0 0 0 2 1 0, .atomAld 0 0 0 0 0 0 2 0, .atomAld 0 0 0 0 0 0 0 2, .atomAld 0 0 0 0 0 0 1 4, .phase 4, .bar 0 0 4,
    .mfmt 32 0, .mfmt 0 4, .wld 0 0 2 0 0, .wld 0 0 0 0 2, .mrow 0 4 0 0 0, .mrow 0 0 0 0 4, .azero 4, .ast 0 0 0 12 0, .ast 0 0 0 0 2,
    .cpset 0 4, .nlsend 0 0 0 4, .palloc 32 0, .mset 0 32, .accept 32, .lanemap 0 0 32].all (fun i => !wellFormed i) = true := by decide

/-! Decoding: a word of each family as the manual writes it, or made from its layout in the manual bit by bit. -/

/-- Whether a word decodes to an instruction. -/
def reads (w : Nat) (i : Instr) : Prop := decode (wordBytes w) = .ok (i, 4)

theorem test_decode_salu : reads 0x04642814 (.div 3 4 5) := by unfold reads; decide
theorem test_decode_addi : reads 0b00001000110001101000011101100100 (.addi 6 6 0x8764) := by unfold reads; decide
theorem test_decode_shifti : reads 0x186400BF (.srai 3 4 63) := by unfold reads; decide
theorem test_decode_lds : reads 0b00101000111010000111111111111110 (.ldsS16 7 8 0x1FFE) := by unfold reads; decide
theorem test_decode_sts : reads 0x2CE8C010 (.stsZ64 7 8 16) := by unfold reads; decide
theorem test_decode_br : reads 0b00110000101000000011111111111101 (.bne 5 0 0x1FFD) := by unfold reads; decide
theorem test_decode_jal : reads 0x34200005 (.jal 1 5) := by unfold reads; decide
theorem test_decode_csr : reads 0x3CA04001 (.csrrs 5 0 1) := by unfold reads; decide
theorem test_decode_vinta : reads 0b01000000011000010001000000000000 (.vadd 3 1 2 0 0 0 0) := by unfold reads; decide
theorem test_decode_vintb : reads 0b01000100011000010001000000000000 (.vand 3 1 2 0 0 0 0) := by unfold reads; decide
theorem test_decode_vfa : reads 0x49000018 (.vfadd 8 0 0 0 0 1 1) := by unfold reads; decide
theorem test_decode_vfb : reads 0b01001100100000010001001000011000 (.vfma 4 1 2 2 0 1 1) := by unfold reads; decide
theorem test_decode_vmask : reads 0x54A20105 (.vmpopc 5 2 1) := by unfold reads; decide
theorem test_decode_vcvt : reads 0b01011000011000100101100000010000 (.vcvt 3 2 11 0 0 1) := by unfold reads; decide
theorem test_decode_vred : reads 0x5CE31010 (.vrsum 7 3 2 0 0 1) := by unfold reads; decide
theorem test_decode_vfx : reads 0x64216012 (.vfmulx 1 1 12 0 0 1) := by unfold reads; decide
theorem test_decode_vcmpx : reads 0x6864001A (.vcltx 3 4 0 0 1 1) := by unfold reads; decide
theorem test_decode_vmovx : reads 0x6C40000A (.vcoordX 2 0 0 1) := by unfold reads; decide
theorem test_decode_vperm : reads 0b01110000110001011110100000010001 (.vslide 6 5 29 0 0 1) := by unfold reads; decide
theorem test_decode_vcfg : reads 0x7409011A (.adj 0 9 3 2) := by unfold reads; decide
theorem test_decode_sset : reads 0x78890022 (.sbase 4 9 2) := by unfold reads; decide
theorem test_decode_vld : reads 0b01111100101001000100100000000000 (.vldAdv 5 2 1 0) := by unfold reads; decide
theorem test_decode_vgath : reads 0x84A64182 (.vgath 5 3 1 0 6 1) := by unfold reads; decide
theorem test_decode_atom : reads 0x8CA73571 (.atomCas 5 7 6 3 1 0 0 1) := by unfold reads; decide
theorem test_decode_order : reads 0x90042810 (.bar 4 5 0) := by unfold reads; decide
theorem test_decode_parcel : reads 0x94A83003 (.post 5 8 6) := by unfold reads; decide
theorem test_decode_mcfg : reads 0x98814000 (.mset 4 5) := by unfold reads; decide
theorem test_decode_mtile : reads 0x9C01949E (.wld 6 20 1 7 1) := by unfold reads; decide
theorem test_decode_mrow : reads 0b10100000101100100100101000000000 (.mrow 5 2 9 1 1) := by unfold reads; decide
theorem test_decode_copy : reads 0xA4A6000A (.cpwait 5 6 2) := by unfold reads; decide
theorem test_decode_route : reads 0xA8A60004 (.rtdrop 5 6) := by unfold reads; decide
theorem test_decode_task : reads 0xACA63802 (.taskdone 5 6 7) := by unfold reads; decide
theorem test_decode_queue : reads 0xB0A63801 (.qtake 5 6 7) := by unfold reads; decide
theorem test_decode_nlink : reads 0xB4660007 (.nlrecv 3 6 0 3) := by unfold reads; decide
theorem test_decode_event : reads 0xB8A63803 (.setdl 5 6 7) := by unfold reads; decide
theorem test_decode_sys : reads 0xBC000000 .ecall := by unfold reads; decide
theorem test_decode_pair : decode (wordBytes 0xFC003C00 ++ wordBytes 0x4C811218) = .ok (.ofs 0 0 0 15 0 0 0 0x4C811218, 8) := by decide

/-- The bits of a table row reach the decoder, and the loader puts them where the next step fetches (log 8). -/
theorem test_table_word : decodeTableWord 32 0x04642814 = some (.div 3 4 5) ∧ decodeTableWord 32 0xBC000002 = some .trapret := by decide

theorem test_loader_steps : (match step (State.reset.withFetchWord 32 0x08C68764) with
    | .next t => decide (t.hart.x[6] = 0xFFFFFFFFFFFF8764) && decide (t.hart.instret = 1)
    | _ => false) = true := by decide +kernel

/-! States that the tests and witnesses start from. -/

/-- A running hart of 4 lanes with a shape of 2 elements, and one cached block of 512 MiB from address 0 that allows every access. -/
def small : State :=
  { State.reset with
    hart := { Hart.reset with run := .running, psize := 4, lanes := 4, bshape := 0x100010002, tvec := 0x8000, pc := 0x1000 }
    tlb := [⟨0, 0, true, true, 0, 0, true, true, true, true, true, none⟩] }

/-- The same without the cached block: every translation fails, since the tables are empty. -/
def bare : State := { small with tlb := [] }

/-- The same in the privileged view, at depth 1. -/
def inTrap : State := { small with hart := { small.hart with priv := true, depth := 1 } }

/-- Scalar registers set; an element type set; bytes of a brick set; memory set. -/
def holds (rs : List (Nat × Word)) (s : State) : State := rs.foldl (fun s p => wx s p.1 p.2) s
def typed (t : Word) (s : State) : State := { s with hart := { s.hart with vtype := t } }
def filled (reg : Nat) (vs : List (Nat × Nat)) (s : State) : State :=
  { s with hart := { s.hart with bricks := vs.foldl (fun m p => mput m (8192 * reg + p.1) (BitVec.ofNat 8 p.2)) s.hart.bricks } }
def inMemory (m : Memory) (s : State) : State := { s with memory := m }

/-- The state after an instruction. -/
def after (i : Instr) (s : State) : State :=
  match exec i s with
  | .next t => t
  | _ => State.reset

def elem (s : State) (reg e n : Nat) : Nat := elemAt s.hart.bricks s.hart.lanes n reg e

/-! Scalar instructions. -/

/-- The worked values of the manual under R139. -/
theorem test_div : rx (after (.div 3 4 5) (holds [(4, -7), (5, 2)] small)) 3 = -3 := by decide
theorem test_rem : rx (after (.rem 3 4 5) (holds [(4, -7), (5, 2)] small)) 3 = -1 := by decide
theorem test_divZ : rx (after (.divZ 3 4 5) (holds [(4, 0xFFFFFFFFFFFFFFF9), (5, 2)] small)) 3 = 0x7FFFFFFFFFFFFFFC := by decide
theorem test_div_by_zero : rx (after (.div 3 4 5) (holds [(4, 5)] small)) 3 = -1 := by decide
theorem test_remZ_by_zero : rx (after (.remZ 3 4 5) (holds [(4, 5)] small)) 3 = 5 := by decide
theorem test_div_overflow : rx (after (.div 3 4 5) (holds [(4, 0x8000000000000000), (5, -1)] small)) 3 = 0x8000000000000000 := by decide
theorem test_mulh : rx (after (.mulh 3 4 5) (holds [(4, -1), (5, -1)] small)) 3 = 0 := by decide
theorem test_mulhZ : rx (after (.mulhZ 3 4 5) (holds [(4, -1), (5, -1)] small)) 3 = 0xFFFFFFFFFFFFFFFE := by decide
theorem test_clz : rx (after (.clz 3 4) (holds [(4, 1)] small)) 3 = 63 := by decide

/-- R138: a shift amount is taken modulo 64, so 65 shifts by 1; R140: a negative immediate, and a wrap. -/
theorem test_sll_wraps : rx (after (.sll 3 4 5) (holds [(4, 3), (5, 65)] small)) 3 = 6 := by decide
theorem test_addi_wraps : rx (after (.addi 3 4 0xFFFF) small) 3 = 0xFFFFFFFFFFFFFFFF := by decide
theorem test_x0_discards : (after (.addi 0 0 5) small).hart.x[0] = 0 := by decide

/-- R143, R144: offsets count words from the branch; jalr links the next word and goes to an aligned target. -/
theorem test_beq_back : (after (.beq 0 0 8191) small).hart.pc = 0xFFC := by decide
theorem test_jal_link : rx (after (.jal 1 5) small) 1 = 0x1004 ∧ (after (.jal 1 5) small).hart.pc = 0x1014 := by decide

/-- R141: a halfword is sign-extended, the lower address holds the low byte. -/
theorem test_ldsS16 : rx (after (.ldsS16 7 8 0x1FFE) (holds [(8, 0x2002)] (inMemory [(0x2000, 0x34), (0x2001, 0x92)] small))) 7 =
    0xFFFFFFFFFFFF9234 := by decide +kernel

/-- R53, R54: a store is seen by its own hart and not yet in memory. -/
theorem test_sts_own : let t := after (.stsZ8 7 8 0) (holds [(7, 0x1FF), (8, 0x2000)] small)
    hartByte t 0x2000 0x2000 = 0xFF ∧ mget t.memory 0x2000 = 0 := by decide +kernel

/-- R145: csrrs with a register other than X0 sets bits and answers the old value. -/
theorem test_csrrs : rx (after (.csrrs 5 6 0x001) (holds [(6, 8)] small)) 5 = 0 ∧
    (after (.csrrs 5 6 0x001) (holds [(6, 8)] small)).hart.fpctl = 8 := by decide

/-- R302 to R305: an ecall saves the next address in bank 0, goes one level deeper and fetches at TVEC; trapret goes back. -/
theorem test_ecall : let t := after .ecall small
    t.hart.bank0.cause = 14 ∧ t.hart.bank0.rpc = 0x1004 ∧ t.hart.depth = 1 ∧ t.hart.priv = true ∧ t.hart.pc = 0x8000 := by decide +kernel
theorem test_trapret : let t := after .trapret (after .ecall small)
    t.hart.depth = 0 ∧ t.hart.priv = false ∧ t.hart.pc = 0x1004 := by decide +kernel

/-! Witnesses for the statements about scalar instructions, traps and configuration. -/

theorem small_canTrap : CanTrap small := ⟨rfl, by decide⟩

theorem witness_registers : (31 < 32 ∧ small.hart.nh = false) ∧
    { small.hart with nh := true }.nh = true ∧ 24 ≤ 24 ∧ (24 : Nat) ≠ 0 ∧ (23 : Nat) ≠ 24 := by decide

theorem witness_scalarArithmetic : wellFormed (.div 31 31 0) = true ∧ small.hart.lap = none ∧
    scalarResult small (.div 31 31 0) = some (31, -1) ∧ wellFormed (.srai 31 0 63) = true ∧
    immediateResult small (.srai 31 0 63) = some (31, 0) := ⟨rfl, rfl, by decide, rfl, by decide⟩

/-- Memory none of whose bytes has failed gives every read its bytes. -/
theorem clean_readable {s : State} (va pa n : Nat) (h : s.badBytes = []) : Readable s va pa n := fun k _ hk => by
  simp [Spoilt, uncorrectable, h] at hk

theorem witness_scalarLoad : wellFormed (.ldsS16 7 8 0x1FFE) = true ∧ small.hart.lap = none ∧
    loadForm (.ldsS16 7 8 0x1FFE) = some (2, true, 7, 8, 0x1FFE) ∧ accessAddr (holds [(8, 2)] small) 8 0x1FFE % 2 = 0 ∧
    translate (hartView (holds [(8, 2)] small)) 0 0 (holds [(8, 2)] small) = (holds [(8, 2)] small, .ok 0) ∧
    Readable (holds [(8, 2)] small) 0 0 2 := ⟨rfl, rfl, rfl, by decide, rfl, clean_readable _ _ _ rfl⟩

theorem witness_scalarStore : wellFormed (.stsZ64 7 8 16) = true ∧ small.hart.lap = none ∧
    storeForm (.stsZ64 7 8 16) = some (8, 7, 8, 16) ∧ accessAddr small 8 16 % 8 = 0 ∧
    translate (hartView small) 1 16 small = (small, .ok 16) := ⟨rfl, rfl, rfl, by decide, rfl⟩

theorem witness_scalarTraps : CanTrap small ∧ accessAddr small 8 1 % 2 ≠ 0 ∧ accessAddr bare 8 2 % 2 = 0 ∧
    translate (hartView bare) 0 2 bare = (bare, .error { cause := 6 }) ∧
    translate (hartView bare) 1 2 bare = (bare, .error { cause := 6 }) ∧
    (asWord ((rx (holds [(6, 2)] small) 6).toInt + signedField 16 0 * 4)).toNat % 4 ≠ 0 :=
  ⟨small_canTrap, by decide, by decide, rfl, rfl, by decide⟩

theorem witness_control : Aligned small.hart.pc ∧ wellFormed (.bne 5 0 0x1FFD) = true ∧
    branchForm small (.bne 5 0 0x1FFD) = some (false, 0x1FFD) ∧ branchForm small (.bge 5 0 4096) = some (true, 4096) ∧
    Aligned (asWord ((rx small 6).toInt + signedField 16 65535 * 4)) := ⟨rfl, rfl, rfl, rfl, rfl⟩

theorem witness_csr : csrForm small (.csrrs 5 0 0x001) = some (5, 0x001, false, fun old => old ||| rx small 0) ∧ InView small 0x001 ∧
    InView inTrap 0x92B ∧ ¬ Refused 0x011 11 ∧ Refused 0x011 12 ∧ ¬ InView small 0x801 ∧ ¬ InView inTrap 0x003 ∧
    Refused 0x010 0x100010000 ∧ small.hart.depth ≤ 2 :=
  ⟨rfl, .inl (by decide), .inr ⟨by decide, rfl⟩, by simp [Refused], .inr (by decide), by simp [InView, openNumbers, small, Hart.reset],
    by simp [InView, openNumbers, closedNumbers, recordNumbers], .inl ⟨rfl, 0, by decide, .inl (by decide)⟩, by decide⟩

theorem witness_trapEntry : small.hart.depth < 2 ∧ small.hart.held = none ∧ small.hart.run = .running ∧
    ¬ ((14 : Nat) = 6 ∧ false = true) ∧ (255 < 256 ∧ 3 < 4 ∧ small.hart.lanes ≤ 32 ∧ ([] : List Entry).length ≤ 4) := by decide

/-- An instruction in flight: a vadd with one committed group, in a frame. -/
def entry : Entry :=
  { pc := 0x1000, w1 := 0x40611000, w2 := 0, pair := false, cnt := [0], bmap := 0, gs := 0, lap := some (65535, 15)
    cap := Machine.capture (typed 0 small) ⟨0, 0, 0⟩ ⟨0, 0, 0⟩ 0 0 0 0 0 }

/-- A held fault of a load at address 2. -/
def fault : Held :=
  { cause := 6, sub := 0, acc := 0, elem := 0, addr := 2, po := false, w1 := 0x7C040000, w2 := 0, pair := false, lg := 0, sec := 6
    bmap := 0, behind := 0 }

def faulted : State := { small with hart := { small.hart with inflight := [entry], held := some fault } }

theorem witness_trapRecord : faulted.hart.held = some fault ∧ (∀ e ∈ faulted.hart.inflight, e.cnt.length ≤ 4 ∧ ∀ c ∈ e.cnt, c < 65536) ∧
    faulted.hart.inflight[0]? = some entry ∧ entry.cnt[0]? = some 0 ∧ entry.lap = some (65535, 15) ∧ { entry with lap := none }.lap = none :=
  ⟨rfl, by decide +kernel, rfl, rfl, rfl, rfl⟩

theorem witness_illegal : CanTrap small ∧ small.hart.priv = false ∧ inTrap.hart.priv = true ∧
    CanTrap { small with hart := { small.hart with priv := true } } ∧ { small.hart with priv := true }.depth = 0 ∧
    inTrap.hart.depth = 0 + 1 := ⟨small_canTrap, rfl, rfl, ⟨rfl, by decide⟩, rfl, rfl⟩

theorem witness_swap : ({ cause := 6, po := true, rpc := 0, w1 := 0 } : Trap).po = true ∧ small.hart.held = none ∧
    small.memory.wf = true ∧ { small.hart with depth := 2 }.depth = 2 := by decide

theorem witness_configuration : wellFormed (.adj 0 9 3 2) = true ∧ small.hart.lap = none ∧
    (∃ old legal new, configuration small (.adj 0 9 3 2) = some (0, 9, old, legal, new) ∧ legal 6 ∧ ¬ legal 8 ∧ ¬ legal 0x107) ∧
    ∃ old legal new, configuration small (.vtype 5 6) = some (5, 6, old, legal, new) ∧ legal 11 ∧ ¬ legal 12 :=
  ⟨rfl, rfl, ⟨_, _, _, rfl, by decide, by decide, by decide⟩,
    ⟨_, _, _, rfl, by simp [Refused], fun h => h (.inr ⟨rfl, by decide⟩)⟩⟩

theorem witness_vlset : small.hart.lap = none ∧ granted small 0 = 0 ∧ granted small 5 = 5 ∧ granted small 9000 = 256 := by decide

/-- A vadd behind the pc, so that a frame can be captured. -/
def framed : State := inMemory [(0x1005, 0x10), (0x1006, 0x61), (0x1007, 0x40)] (holds [(6, 65536), (8, 1)] small)

theorem witness_lap : Aligned framed.hart.pc ∧ fetchFrame (framed.hart.pc + 4) ((rx framed 7).toNat / 2 ^ 24 % 16 + 1) framed =
      (framed, .ok [(0x40611000, none)]) ∧ (rx framed 6).toNat ≤ 65536 ∧ 65536 < (rx (holds [(6, 65537)] framed) 6).toNat ∧
    (∀ p ∈ [((0x40611000 : Nat), (none : Option Nat))], FrameWord p) ∧
    StridesStay (capturedFrame framed 6 7 [(0x40611000, none)]) :=
  ⟨rfl, rfl, by decide, by decide, by
    simp only [List.mem_singleton, forall_eq, FrameWord]
    exact ⟨by decide, by decide, .vadd 3 1 2 0 0 0 0, rfl⟩, by
    intro k _ p hp
    obtain rfl := List.mem_singleton.mp hp
    rw [show (capturedFrame framed 6 7 [(0x40611000, none)]).sd = 0 from rfl,
      show (capturedFrame framed 6 7 [(0x40611000, none)]).s1 = 0 from rfl,
      show (capturedFrame framed 6 7 [(0x40611000, none)]).s2 = 0 from rfl]
    simp only [Int.mul_zero]
    decide⟩

/-! Witnesses for the statements about bricks. -/

/-- A hart whose elements fill its lanes, and one with one element too many (R15). -/
def full : State := { small with hart := { small.hart with bshape := 0x100010400, vtype := 0 } }
def tooMany : State := { small with hart := { small.hart with bshape := 0x100010401, vtype := 0 } }

theorem typed_ready : BrickReady (typed 0 small) ∧ BrickReady (typed 7 small) ∧ BrickReady (typed 11 small) :=
  ⟨⟨rfl, ⟨by decide, by decide, rfl, rfl⟩, by decide⟩, ⟨rfl, ⟨by decide, by decide, rfl, rfl⟩, by decide⟩,
    ⟨rfl, ⟨by decide, by decide, rfl, rfl⟩, by decide⟩⟩

theorem no_halo {l : List Word} {P : Prop} (h : l.all (fun w => decide (w.toNat % 16 < 6)) = true) :
    ∀ w ∈ l, w.toNat % 16 ≠ 7 ∧ (w.toNat % 16 = 6 → P) := by
  intro w hw
  have := of_decide_eq_true (List.all_eq_true.mp h w hw)
  exact ⟨by omega, by omega⟩

theorem full_ready : BrickReady full := ⟨rfl, ⟨by decide, by decide, rfl, rfl⟩, by decide⟩

theorem witness_integerBrick : wellFormed (.vadd 31 1 2 7 3 0 0) = true ∧ (∃ o, intOp full (.vadd 31 1 2 7 3 0 0) = some o ∧
    ClassFits full o.cls ∧ OffsetZero full o.offset) ∧ BrickReady full ∧
    ∃ o, intOp (typed 7 small) (.vsrax 3 1 31 0 0 1) = some o ∧ ClassFits (typed 7 small) o.cls ∧ OffsetZero (typed 7 small) o.offset :=
  ⟨rfl, ⟨_, rfl, ⟨fun _ => by decide, fun h => absurd h (by decide)⟩, .inr (by decide)⟩, full_ready,
    ⟨_, rfl, ⟨fun _ => by decide, fun h => absurd h (by decide)⟩, .inl rfl⟩⟩

theorem witness_floatBrick : wellFormed (.vfma 3 1 2 0 7 0 1) = true ∧ (∃ o, floatOp (typed 8 small) (.vfma 3 1 2 0 7 0 1) = some o ∧
    ClassFits (typed 8 small) o.cls) ∧ BrickReady (typed 11 small) ∧ ∃ o, floatOp (typed 11 small) (.vfdivx 3 1 4 0 4 0) = some o ∧
      ClassFits (typed 11 small) o.cls :=
  ⟨rfl, ⟨_, rfl, ⟨fun h => absurd h (by decide), fun _ => by decide⟩⟩, typed_ready.2.2,
    ⟨_, rfl, ⟨fun h => absurd h (by decide), fun _ => by decide⟩⟩⟩

/-- A prefix that displaces the first source by 1 and the second by -1 along x, under the zero override. -/
def displaced : Displaced := { i := .ofs 1 0 0 15 0 0 1 0x40611000, bytes := 8, off1 := ⟨1, 0, 0⟩, off2 := ⟨-1, 0, 0⟩, ovr := 1 }

/-- The same by an offset entry. -/
def byEntry : Displaced := { i := .vadd 3 1 2 0 1 0 0, bytes := 4, off1 := ⟨0, 0, 0⟩, off2 := ⟨1, -1, 0⟩, ovr := 0 }
def withEntry : State := { typed 0 small with hart := { (typed 0 small).hart with offs := #v[0, 0x0F1, 0, 0, 0, 0, 0, 0] } }

theorem witness_displaced : ∃ o, wellFormed (.vadd 3 1 2 0 0 0 0) = true ∧ intOp (typed 0 small) (.vadd 3 1 2 0 0 0 0) = some o ∧
    DisplacedAs (typed 0 small) (.vadd 3 1 2 0 0 0 0) o.offset displaced ∧ displaced.ovr < 4 ∧ ClassFits (typed 0 small) o.cls ∧
    displaced.SourceFits (typed 0 small) o.src1 displaced.off1 o.dest ∧
    (∀ r, o.src2 = some r → displaced.SourceFits (typed 0 small) r displaced.off2 o.dest) ∧ (o.src2 = none → displaced.off2 = ⟨0, 0, 0⟩) :=
  ⟨_, rfl, rfl, .inr ⟨1, 0, 0, 15, 0, 0, 0x40611000, rfl, rfl, by decide, by decide, by decide, by decide, by decide, by decide, by decide, rfl, rfl⟩,
    by decide, ⟨fun _ => by decide, fun h => absurd h (by decide)⟩, ⟨by decide +kernel, no_halo (by decide +kernel)⟩,
    fun r h => by cases h; exact ⟨by decide +kernel, no_halo (by decide +kernel)⟩, fun h => nomatch h⟩

theorem witness_displaced_entry : ∃ o, intOp withEntry (.vadd 3 1 2 0 1 0 0) = some o ∧
    DisplacedAs withEntry (.vadd 3 1 2 0 1 0 0) o.offset byEntry ∧ BrickReady withEntry ∧ ClassFits withEntry o.cls ∧
    byEntry.SourceFits withEntry o.src1 byEntry.off1 o.dest ∧ ∀ r, o.src2 = some r → byEntry.SourceFits withEntry r byEntry.off2 o.dest :=
  ⟨_, rfl, .inl ⟨rfl, rfl, rfl, rfl, rfl⟩, ⟨rfl, ⟨by decide, by decide, rfl, rfl⟩, by decide⟩,
    ⟨fun _ => by decide, fun h => absurd h (by decide)⟩, ⟨by decide +kernel, no_halo (by decide +kernel)⟩,
    fun r h => by cases h; exact ⟨by decide +kernel, no_halo (by decide +kernel)⟩⟩

theorem witness_offsetReads : (31 < 32 ∧ 1 < count small) ∧ (-2 : Int).natAbs ≤ extent small.hart.bshape 0 ∧
    (1 : Int).natAbs ≤ extent small.hart.bshape 1 ∧ (0 : Int).natAbs ≤ extent small.hart.bshape 2 ∧ byEntry.ovr = 0 ∧ OwnFaces small ∧
    0 < 3 ∧ displaced.ovr = 0 + 1 ∧ { displaced with ovr := 3 }.ovr = 2 + 1 :=
  ⟨by decide, by decide, by decide, by decide, rfl, by unfold OwnFaces; decide +kernel, by decide, rfl, rfl⟩

theorem witness_brickChecks : CanTrap tooMany ∧ 256 * tooMany.hart.lanes < count tooMany * elemSize tooMany ∧
    (∃ o, intOp (typed 8 small) (.vadd 3 1 2 0 0 0 0) = some o ∧ ¬ ClassFits (typed 8 small) o.cls) ∧
    (∃ o, floatOp (typed 7 small) (.vfadd 3 1 2 0 0 0 0) = some o ∧ ¬ ClassFits (typed 7 small) o.cls) ∧
    let s := { withEntry with hart := { withEntry.hart with offs := #v[0, 0x003, 0, 0, 0, 0, 0, 0] } }
    ∃ o, intOp s (.vadd 3 1 2 0 1 0 0) = some o ∧ o.src2.isSome = true ∧ o.offset ≠ 0 ∧
      extent s.hart.bshape 0 < (signedField 4 ((s.hart.offs[o.offset]?.getD 0).toNat % 16)).natAbs :=
  ⟨⟨rfl, by decide⟩, by decide, ⟨_, rfl, fun h => absurd (h.1 rfl) (by decide)⟩, ⟨_, rfl, fun h => absurd (h.2 rfl) (by decide)⟩,
    _, rfl, rfl, by decide, by decide⟩

/-- Too many elements for a compare; a class that vcun and a bitwise reduction do not take; an offset of a compare beyond the extent. -/
theorem witness_otherChecks : wellFormed (.vceqx 1 1 4 0 0 0) = true ∧ otherClass (.vceqx 1 1 4 0 0 0) = some (0, 0) ∧
    (otherClass (.vcun 1 1 2 0 0 0 0) = some (2, 0) ∧ ¬ ClassFits (typed 7 small) 2) ∧
    (otherClass (.vrand 3 1 0 0 0) = some (1, 0) ∧ ¬ ClassFits (typed 8 small) 1) ∧ otherClass (.vceq 1 1 2 0 1 0 0) = some (0, 1) ∧
    EntryBeyond { withEntry with hart := { withEntry.hart with offs := #v[0, 0x003, 0, 0, 0, 0, 0, 0] } } 1 ∧ ¬ EntryBeyond withEntry 1 :=
  ⟨rfl, rfl, ⟨rfl, fun h => absurd (h.2 rfl) (by decide)⟩, ⟨rfl, fun h => absurd (h.1 rfl) (by decide)⟩, rfl, by unfold EntryBeyond; decide,
    by unfold EntryBeyond; decide⟩

theorem witness_conversion : wellFormed (.vcvt 3 1 7 0 0 0) = true ∧
    (∃ f l, convertFill (typed 0 small) (inPlace (typed 0 small)) (.vcvt 3 1 7 0 0 0) = some (f, l) ∧ l) ∧ elemType (typed 0 small) < 12 ∧
    (∃ f l, convertFill (typed 0 small) (inPlace (typed 0 small)) (.vcvt 3 3 7 0 0 0) = some (f, l) ∧ ¬ l) ∧
    (∃ f l, convertFill full (inPlace full) (.vcvt 3 1 7 0 0 0) = some (f, l) ∧ ¬ l) ∧ small.hart.depth < 2 :=
  ⟨rfl, ⟨_, _, rfl, by decide⟩, by decide, ⟨_, _, rfl, by decide⟩, ⟨_, _, rfl, by decide⟩, by decide⟩

theorem witness_pack : wellFormed (.vpack 3 1 16 7 4 0) = true ∧ BrickReady (typed 11 small) ∧ elemType (typed 11 small) < 12 ∧
    PackedFits (typed 11 small) (codeElem 16).width ∧ ((3 : Nat) = 1 → (codeElem 16).width = elemWidth (typed 11 small)) :=
  ⟨rfl, typed_ready.2.2, by decide, by unfold PackedFits; decide, fun h => absurd h (by decide)⟩

/-- A packed brick that does not fit, and one that overlaps its source with another width. -/
theorem witness_packTraps : ¬ PackedFits full (codeElem 0).width ∧ (codeElem 16).width ≠ elemWidth (typed 11 small) ∧
    wellFormed (.vpack 1 1 16 0 0 0) = true ∧ wellFormed (.vpack 3 1 0 0 0 0) = true ∧ CanTrap full ∧ CanTrap (typed 11 small) :=
  ⟨by unfold PackedFits; decide, by decide, rfl, rfl, ⟨rfl, by decide⟩, ⟨rfl, by decide⟩⟩

theorem witness_reduction : wellFormed (.vrsum 3 1 3 1 4 0) = true ∧
    (∃ f c, reduceFill (typed 11 small) (inPlace (typed 11 small)) (.vrsum 3 1 3 1 4 0) = some (f, c) ∧ ClassFits (typed 11 small) c) ∧
    ∃ f c, reduceFill (typed 7 small) (inPlace (typed 7 small)) (.vrxor 3 1 0 0 0) = some (f, c) ∧ ClassFits (typed 7 small) c :=
  ⟨rfl, ⟨_, _, rfl, ⟨fun h => absurd h (by decide), fun h => absurd h (by decide)⟩⟩,
    ⟨_, _, rfl, ⟨fun _ => by decide, fun h => absurd h (by decide)⟩⟩⟩

theorem witness_permute : wellFormed (.vslide 3 1 16 0 2 0) = true ∧
    (∃ f l, permuteFill (typed 0 small) (.vslide 3 1 16 0 2 0) = some (f, l) ∧ l) ∧
    (∃ f l, permuteFill (typed 0 small) (.vgidx 3 1 3 0 0 0) = some (f, l) ∧ ¬ l) ∧
    (∃ f l, permuteFill (typed 0 small) (.vtrxy 3 1 0 0) = some (f, l) ∧ ¬ l) ∧ small.hart.depth < 2 :=
  ⟨rfl, ⟨_, _, rfl, by decide⟩, ⟨_, _, rfl, by decide⟩, ⟨_, _, rfl, by decide⟩, by decide⟩

theorem witness_compare : wellFormed (.vcun 7 1 2 0 0 0 0) = true ∧
    (∃ f, compareMarks (typed 8 small) (inPlace (typed 8 small)) (inPlace (typed 8 small)) (.vcun 7 1 2 0 0 0 0) = some f ∧
        ClassFits (typed 8 small) f.cls ∧ OffsetZero (typed 8 small) f.offset) ∧
    ∃ f, compareMarks (typed 7 small) (inPlace (typed 7 small)) (inPlace (typed 7 small)) (.vcgex 0 1 31 7 0 1) = some f ∧
        ClassFits (typed 7 small) f.cls ∧ OffsetZero (typed 7 small) f.offset :=
  ⟨rfl, ⟨_, rfl, ⟨fun h => absurd h (by decide), fun _ => by decide⟩, .inl rfl⟩,
    ⟨_, rfl, ⟨fun h => absurd h (by decide), fun h => absurd h (by decide)⟩, .inl rfl⟩⟩

theorem witness_mask : wellFormed (.vmandn 7 0 6 3) = true ∧ (∃ f, maskMarks small (.vmandn 7 0 6 3) = some f) ∧ BrickReady (typed 0 small) ∧
    (7 < 8 ∧ markedElems (typed 0 small) 0 0 = [0, 1] ∧ markedElems (typed 0 small) 0 1 = []) :=
  ⟨rfl, ⟨_, rfl⟩, typed_ready.1, by decide, by decide +kernel, by decide +kernel⟩

theorem witness_extract : wellFormed (.vextx 31 1 4 0 0) = true ∧ (rx (holds [(4, 1)] small) 4).toNat < count (holds [(4, 1)] small) ∧
    count (holds [(4, 2)] small) ≤ (rx (holds [(4, 2)] small) 4).toNat ∧ small.hart.depth < 2 :=
  ⟨rfl, by decide, by decide, by decide⟩

/-- Prefixes that displace the first source by 1, or both sources, or none, before a word. -/
def beforeOne (j : Instr) : Displaced := { i := .ofs 1 0 0 0 0 0 0 (encode j), bytes := 8, off1 := ⟨1, 0, 0⟩, off2 := ⟨0, 0, 0⟩, ovr := 0 }
def beforeBoth (j : Instr) : Displaced := { i := .ofs 1 0 0 15 0 0 1 (encode j), bytes := 8, off1 := ⟨1, 0, 0⟩, off2 := ⟨-1, 0, 0⟩, ovr := 1 }
def beforeNone (j : Instr) : Displaced := { i := .ofs 0 0 0 0 0 0 0 (encode j), bytes := 8, off1 := ⟨0, 0, 0⟩, off2 := ⟨0, 0, 0⟩, ovr := 0 }

theorem before_reads {s : State} {j : Instr} (h : decodeWord (encode j) = .ok j) :
    DisplacedAs s j 0 (beforeOne j) ∧ DisplacedAs s j 0 (beforeBoth j) ∧ DisplacedAs s j 0 (beforeNone j) :=
  ⟨.inr ⟨1, 0, 0, 0, 0, 0, _, rfl, rfl, h, by decide, by decide, by decide, by decide, by decide, by decide, rfl, rfl⟩,
    .inr ⟨1, 0, 0, 15, 0, 0, _, rfl, rfl, h, by decide, by decide, by decide, by decide, by decide, by decide, rfl, rfl⟩,
    .inr ⟨0, 0, 0, 0, 0, 0, _, rfl, rfl, h, by decide, by decide, by decide, by decide, by decide, by decide, rfl, rfl⟩⟩

theorem witness_prefixed :
    (let j := Instr.vceq 1 1 2 0 0 0 0
     wellFormed j = true ∧ DisplacedAs (typed 0 small) j 0 (beforeBoth j) ∧ (beforeBoth j).Fits (typed 0 small) j none ∧
      ∃ f, compareMarks (typed 0 small) (inPlace (typed 0 small)) (inPlace (typed 0 small)) j = some f ∧ f.offset = 0 ∧ f.cls = 0) ∧
    (let j := Instr.vcvt 3 1 7 0 0 0
     wellFormed j = true ∧ DisplacedAs (typed 0 small) j 0 (beforeOne j) ∧ (beforeOne j).Fits (typed 0 small) j (some 3)) ∧
    (let j := Instr.vrsum 3 1 0 0 0 0
     wellFormed j = true ∧ DisplacedAs (typed 0 small) j 0 (beforeOne j) ∧ (beforeOne j).Fits (typed 0 small) j (some 3)) ∧
    (let j := Instr.vpack 3 1 16 0 0 0
     wellFormed j = true ∧ DisplacedAs (typed 11 small) j 0 (beforeOne j) ∧ (beforeOne j).Fits (typed 11 small) j (some 3)) ∧
    let j := Instr.vextx 31 1 4 0 0
    wellFormed j = true ∧ DisplacedAs (typed 0 small) j 0 (beforeOne j) ∧ (beforeOne j).Fits (typed 0 small) j none :=
  ⟨⟨rfl, (before_reads rfl).2.1, ⟨⟨by decide +kernel, no_halo (by decide +kernel)⟩, ⟨by decide +kernel, no_halo (by decide +kernel)⟩⟩,
      _, rfl, rfl, rfl⟩,
    ⟨rfl, (before_reads rfl).1, ⟨by decide +kernel, no_halo (by decide +kernel)⟩, rfl⟩,
    ⟨rfl, (before_reads rfl).1, ⟨by decide +kernel, no_halo (by decide +kernel)⟩, rfl⟩,
    ⟨rfl, (before_reads rfl).1, ⟨by decide +kernel, no_halo (by decide +kernel)⟩, rfl⟩,
    ⟨rfl, (before_reads rfl).1, ⟨by decide +kernel, no_halo (by decide +kernel)⟩, rfl⟩⟩

theorem witness_prefixChecks : wellFormed (.vmand 1 2 3 0) = true ∧ prefixFields (.vmand 1 2 3 0) = some (false, false, false) ∧
    DisplacedAs small (.vmand 1 2 3 0) 0 (beforeOne (.vmand 1 2 3 0)) ∧ (beforeOne (.vmand 1 2 3 0)).off1 ≠ ⟨0, 0, 0⟩ ∧
    DisplacedAs (typed 0 small) (.vmand 1 2 3 0) 0 (beforeNone (.vmand 1 2 3 0)) ∧ prefixFields (.vunpk 3 1 16 0 0 0) = some (false, false, true) ∧
    DisplacedAs (typed 0 small) (.vmpopc 1 2 0) 0 (beforeNone (.vmpopc 1 2 0)) ∧ (∃ f, maskMarks small (.vmand 1 2 3 0) = some f) :=
  ⟨rfl, rfl, (before_reads rfl).1, by decide, (before_reads rfl).2.2, rfl, (before_reads rfl).2.2, _, rfl⟩

/-- Faces of register 1 on the x axis: towards lower x another hart's register 2, towards higher x a scratchpad halo or a stream. -/
def facing (w : Word) : State :=
  { typed 0 small with hart := { (typed 0 small).hart with adj := ((typed 0 small).hart.adj.setIfInBounds 6 0x225).setIfInBounds 7 w } }

theorem witness_faces : standing (facing 0x400006) 1 1 ⟨1, 0, 0⟩ = (.scratch 64 0, 0, 0, 0) ∧
    standing (facing 0x27) 1 1 ⟨1, 0, 0⟩ = (.stream 2, 0, 0, 0) ∧
    standing (facing 0) 1 1 ⟨1, 0, 0⟩ = (.zero, 0, 0, 0) ∧ standing (facing 0) 1 0 ⟨-1, 0, 0⟩ = (.reg (some 1) 2, 1, 0, 0) ∧
    standing (facing 0) 1 0 ⟨1, 0, 0⟩ = (.reg none 1, 1, 0, 0) ∧ coreHartIdx (facing 0) 1 = none ∧ 1 ≤ (facing 0).hart.lanes ∧ 1 < count (facing 0) ∧
    (1 : Int).natAbs ≤ extent (facing 0).hart.bshape 0 := by decide +kernel

/-- Sources that may not be read at their offsets: beyond the extent, through a face to a hart that is not there, through a stream of another element
size, and from the destination itself. -/
theorem witness_misfits : { displaced with ovr := 0 }.Misfits (facing 0) 1 ⟨3, 0, 0⟩ (some 3) ∧
    { displaced with ovr := 0 }.Misfits (facing 0) 1 ⟨-1, 0, 0⟩ (some 3) ∧ { displaced with ovr := 0 }.Misfits (typed 2 (facing 0x27)) 1 ⟨1, 0, 0⟩ (some 3) ∧
    { displaced with ovr := 0 }.Misfits (facing 0) 1 ⟨1, 0, 0⟩ (some 1) ∧
    prefixFields (.vceq 1 1 2 0 0 0 0) = some (true, true, true) ∧ otherClass (.vceq 1 1 2 0 0 0 0) = some (0, 0) ∧ CanTrap (facing 0) :=
  ⟨.inl (by decide), .inr (.inr (.inr (.inl ⟨0x225, by decide +kernel, by decide, fun h hh =>
      absurd (hh.symm.trans (by decide +kernel : coreHartIdx (facing 0) 1 = none)) nofun⟩))),
    .inr (.inr (.inr (.inr (.inl ⟨0x27, by decide +kernel, by decide, by decide +kernel⟩)))),
    .inr (.inr (.inr (.inr (.inr ⟨by decide, 1, rfl, by decide +kernel⟩)))), rfl, rfl, ⟨rfl, by decide⟩⟩

/-- Every kind of format, mode and value that the statement about numbers speaks of. -/
theorem witness_numbers : IsElem (.int 8 true) ∧ IsElem (.flt e4m3) ∧ IsElem (.tap 8 2) ∧ IsElem .tapAlt ∧ f16 ∈ vectorFloats ∧ (4 : Nat) ≤ 4 ∧
    2 ^ 32 - 1 < 2 ^ 32 ∧ (Machine.Num.nan true).isNaN = true ∧ (Machine.Num.inf true).isNaN = false ∧ (Machine.Num.fin false 3 2).isNaN = false := by
  refine ⟨⟨by decide, by decide⟩, ?_, ?_, trivial, ?_, by decide, by decide, rfl, rfl, rfl⟩
  · unfold IsElem floatFormats vectorFloats
    decide
  · unfold IsElem
    decide
  · unfold vectorFloats
    decide

/-! Worked values of the manual (R159): s8, a = 100, b = 60. -/

def pairOf (a b : Nat) : State := filled 1 [(0, a)] (filled 2 [(0, b)] (typed 0 small))

theorem test_vadd : elem (after (.vadd 3 1 2 0 0 0 0) (pairOf 100 60)) 3 0 1 = 160 := by decide +kernel
theorem test_vaddSat : elem (after (.vaddSat 3 1 2 0 0 0 0) (pairOf 100 60)) 3 0 1 = 127 := by decide +kernel
theorem test_vmul : elem (after (.vmul 3 1 2 0 0 0 0) (pairOf 100 60)) 3 0 1 = 112 := by decide +kernel
theorem test_vmulh : elem (after (.vmulh 3 1 2 0 0 0 0) (pairOf 100 60)) 3 0 1 = 23 := by decide +kernel
theorem test_vmulSat : elem (after (.vmulSat 3 1 2 0 0 0 0) (pairOf 100 60)) 3 0 1 = 127 := by decide +kernel

/-- R157: an inactive element keeps its bytes. -/
theorem test_masked : elem (after (.vadd 3 1 2 1 0 0 0) (filled 3 [(0, 9)] (pairOf 100 60))) 3 0 1 = 9 := by decide +kernel

/-- R74, R78: 1 + 1 in f32, in mode rne. -/
theorem test_vfadd : elem (after (.vfadd 3 1 1 0 0 0 0) (filled 1 [(2, 0x80), (3, 0x3F)] (typed 10 small))) 3 0 4 = 0x40000000 := by
  decide +kernel

/-- R75: a division by zero sets dz and gives an infinity. -/
theorem test_vfdiv : let t := after (.vfdiv 3 1 2 0 0 0 0) (filled 1 [(2, 0x80), (3, 0x3F)] (typed 10 small))
    elem t 3 0 4 = 0x7F800000 ∧ t.hart.fpctl.getLsbD 11 = true := by decide +kernel

/-- R170: an integer sum goes to the first element of its line. -/
theorem test_vrsum : elem (after (.vrsum 3 1 0 0 0 0) (filled 1 [(0, 5), (256, 7)] (typed 4 small))) 3 0 1 = 12 := by decide +kernel

/-- R165: -0 equals +0. -/
theorem test_vceq : (after (.vceq 1 1 2 0 0 0 0) (filled 1 [(3, 0x80)] (typed 10 small))).hart.masks[1].getLsbD 0 = true := by decide +kernel

/-- R172: a slide by 1 along x brings element 0 to position 1 and leaves 0 behind. -/
theorem test_vslide : let t := after (.vslide 3 1 1 0 0 0) (filled 1 [(0, 5), (256, 7)] (typed 4 small))
    elem t 3 1 1 = 5 ∧ elem t 3 0 1 = 0 := by decide +kernel

/-! Witnesses for the statements about memory, phases and parcels. -/

/-- What the witnesses ask of a state: the block of small alone translates, no page moves, no byte has failed; requests meet the delays listed. -/
def PlainBut (ds : List Delay) (s : State) : Prop :=
  s.tlb = small.tlb ∧ s.regs.winb = 0 ∧ s.regs.modid = 0 ∧ (s.hart.cx = 0 ∧ s.hart.cy = 0) ∧ s.delays = ds ∧ s.badBytes = [] ∧ s.forwards = [] ∧
    s.moves = []

abbrev Plain := PlainBut []

theorem plain_small : Plain small := by unfold Plain PlainBut; decide +kernel

/-- The block of small as another core's. -/
def blockOf (core : Nat) : Cached := ⟨core, 0, true, true, 0, 0, true, true, true, true, true, none⟩

/-- Every address of the block is translated to itself, and its home, which is here, answers unless it is late. -/
theorem block_locates {s : State} {v : View} (ht : s.tlb = [blockOf v.core]) (hw : s.regs.winb = 0) (acc va : Nat) (ha : va < 2 ^ 29) :
    locate v acc va s = (s, .ok va) := by
  have h1 : va < 36028797018963968 := by omega
  have h2 : va / 536870912 = 0 := by omega
  have h3 : va % 536870912 = va := by omega
  have h5 : va % 17592186044416 = va := by omega
  have h6 : ¬ 16492674416640 ≤ va := by omega
  have h7 : allowed acc v.priv true true true true = true := by unfold allowed; split <;> simp
  simp [locate, windowOf, windows, cachedFor, ht, hw, blockOf, h1, h2, h3, h5, h6, h7, checkPlace, ownTransit, inRegisters, paLocal]

theorem reaches_here {s : State} (hm : s.regs.modid = 0) (hf : s.forwards = []) (pa : Nat) (ha : pa < 2 ^ 29) :
    reachHome s pa = (s, if overdue s pa then .error { cause := 11, sub := 1, data := true } else .ok pa) := by
  have h4 : pa / 17592186044416 % 4096 = 0 := by omega
  cases ho : overdue s pa <;>
    simp [reachHome, stopSpent, meetHome, homeFails, homeFailsFor, unreachableFor, remoteTransit, homeAddr, hf, paModule, ownModule, hm, h4, ho]

theorem block_translates {s : State} {v : View} (ht : s.tlb = [blockOf v.core]) (hw : s.regs.winb = 0) (hm : s.regs.modid = 0) (hf : s.forwards = [])
    (acc va : Nat) (ha : va < 2 ^ 29) :
    translate v acc va s = (s, if overdue s va then .error { cause := 11, sub := 1, data := true } else .ok va) := by
  simp only [Machine.translate, block_locates ht hw acc va ha, reaches_here hm hf va ha]

theorem view_locates {ds : List Delay} {s : State} (h : PlainBut ds s) {v : View} (hv : v.core = 0) (acc va : Nat) (ha : va < 2 ^ 29) :
    locate v acc va s = (s, .ok va) := block_locates (by rw [h.1, hv]; rfl) h.2.1 acc va ha

theorem view_translates {ds : List Delay} {s : State} (h : PlainBut ds s) {v : View} (hv : v.core = 0) (acc va : Nat) (ha : va < 2 ^ 29) :
    translate v acc va s = (s, if overdue s va then .error { cause := 11, sub := 1, data := true } else .ok va) :=
  block_translates (by rw [h.1, hv]; rfl) h.2.1 h.2.2.1 h.2.2.2.2.2.2.1 acc va ha

theorem plain_core {ds : List Delay} {s : State} (h : PlainBut ds s) : s.hart.coreNo = 0 := by
  simp [Hart.coreNo, Machine.coreNo, h.2.2.2.1]

theorem plain_translates {ds : List Delay} {s : State} (h : PlainBut ds s) (acc va : Nat) (ha : va < 2 ^ 29) :
    translate (hartView s) acc va s = (s, if overdue s va then .error { cause := 11, sub := 1, data := true } else .ok va) :=
  view_translates h (plain_core h) acc va ha

theorem plain_locates {ds : List Delay} {s : State} (h : PlainBut ds s) (acc va : Nat) (ha : va < 2 ^ 29) :
    locate (hartView s) acc va s = (s, .ok va) := view_locates h (plain_core h) acc va ha

theorem in_time {ds : List Delay} {s : State} (h : PlainBut ds s) {pa : Nat} (hd : ∀ d ∈ ds, d.line ≠ pa / 128 ∨ d.queued = true) :
    overdue s pa = false := by
  unfold overdue delayOf
  rw [h.2.2.2.2.1]
  split
  · next d hf =>
    rcases hd d (List.mem_of_find?_eq_some hf) with h | h
    · exact absurd (by simpa using List.find?_some hf) h
    · rw [h]
      rfl
  · rfl

/-- An access in time is placed at its own address. -/
theorem plain_placed {ds : List Delay} {s : State} (h : PlainBut ds s) (acc : Nat) {va : Nat} (ha : va < 2 ^ 29)
    (hd : ∀ d ∈ ds, d.line ≠ va / 128 ∨ d.queued = true) : Placed s acc va va :=
  ⟨plain_locates h acc va ha, by rw [reaches_here h.2.2.1 h.2.2.2.2.2.2.1 va ha, in_time h hd]; rfl⟩

/-- Its port, within the module, always has room. -/
theorem plain_room {ds : List Delay} {s : State} (h : PlainBut ds s) {pa : Nat} (ha : pa < 2 ^ 29) (data : Nat) :
    portFull s (homeAddr s pa) data = false := by
  have h4 : pa / 17592186044416 % 4096 = 0 := by omega
  simp [portFull, homeAddr, h.2.2.2.2.2.2.1, paModule, ownModule, h.2.2.1, h4]

theorem plain_readable {ds : List Delay} {s : State} (h : PlainBut ds s) (va pa n : Nat) : Readable s va pa n := clean_readable va pa n h.2.2.2.2.2.1

theorem plain_engineReadable {ds : List Delay} {s : State} (h : PlainBut ds s) (v : View) (va pa n : Nat) : EngineReadable s v va pa n :=
    fun k _ _ => by
  simp [uncorrectable, h.2.2.2.2.2.1]

theorem plain_correctable {ds : List Delay} {s : State} (h : PlainBut ds s) (pa n : Nat) : uncorrectable s pa n = false :=
    by simp [uncorrectable, h.2.2.2.2.2.1]

theorem plain_still {ds : List Delay} {s : State} (h : PlainBut ds s) (pa : Nat) : moving s pa = false := by simp [moving, h.2.2.2.2.2.2.2]

/-- What a read leaves. -/
theorem read_frame (va pa : Nat → Nat) (n kind e : Nat) (s : State) : ∃ perf snap near hot ports events agenda,
    readStep va pa n kind e s = { s with
      hart := { s.hart with perf, snap }, die := { s.die with near }, core := { s.core with hot }, ports, events, agenda } := by
  unfold readStep readLeft
  split
  · obtain ⟨_, _, _, h1⟩ := Laws.request_frame s.hart.deadline (addPerf s 3 1) (pa e) 0
    obtain ⟨_, _, h2⟩ := Laws.keepBytes_frame Laws.keepSnap_frame 8 (request s.hart.deadline (addPerf s 3 1) (pa e) 0) (va e / 8 * 8) (pa e / 8 * 8)
    obtain ⟨_, h3⟩ := Laws.cacheElem_frame s (keepElem keepSnap (request s.hart.deadline (addPerf s 3 1) (pa e) 0) (va e) (pa e)) (va e) (pa e)
    rw [h3]
    unfold keepElem
    rw [h2, h1]
    exact ⟨_, _, _, _, _, _, _, rfl⟩
  · obtain ⟨perf, h1⟩ : ∃ perf, missAnyway s (va e) = { s with hart := { s.hart with perf } } := by
      unfold missAnyway
      split <;> exact ⟨_, rfl⟩
    obtain ⟨_, _, h2⟩ := Laws.keepBytes_frame Laws.keepNear_frame 8 (missAnyway s (va e)) (va e / 8 * 8) (pa e / 8 * 8)
    unfold keepElem
    rw [h2, h1]
    exact ⟨_, _, _, _, _, _, _, rfl⟩

/-- Accesses leave such a state such a state. -/
theorem plain_read {ds : List Delay} (va pa : Nat →
    Nat) (n kind e : Nat) {s : State} (h : PlainBut ds s) : PlainBut ds (readStep va pa n kind e s) := by
  obtain ⟨_, _, _, _, _, _, _, hr⟩ := read_frame va pa n kind e s
  rw [hr]
  exact h

theorem plain_request {ds : List Delay} (d : Word) (pa n : Nat) {s : State} (h : PlainBut ds s) : PlainBut ds (request d s pa n) := by
  obtain ⟨_, _, _, h1⟩ := Laws.request_frame d s pa n
  rw [h1]
  exact h

theorem plain_touch {ds : List Delay} {s : State} (pa kind : Nat) (h : PlainBut ds s) : PlainBut ds (touch s pa kind) := h

theorem plain_packet {ds : List Delay} (acc n data : Nat) (els : List Nat) (addr : Nat → Int) (e : Nat) {s : State} (h : PlainBut ds s) :
    PlainBut ds (packetLeft acc n data els addr e s) := by
  unfold packetLeft
  dsimp only
  split
  · split
    · exact plain_request _ _ _ h
    · exact h
  · exact h

theorem plain_write {ds : List Delay} (va pa : Nat → Nat) (bs : Nat → List Byte) (kind e : Nat) {s : State} (h : PlainBut ds s) :
    PlainBut ds (writeStep va pa bs kind e s) := by
  obtain ⟨_, h1⟩ := Laws.hartWrite_frame (bs e) s (va e) (pa e)
  unfold writeStep
  rw [h1]
  exact h

theorem plain_kept {ds : List Delay} (pa old : Nat) {s : State} (h : PlainBut ds s) : PlainBut ds (keepReply s pa old) := by
  unfold keepReply
  split <;> exact h

theorem plain_atomic {ds : List Delay} (op n : Nat) (va pa v cmp : Nat → Nat) (kind e : Nat) {s : State} (h : PlainBut ds s) :
    PlainBut ds (atomicStep op n va pa v cmp kind e s) := by
  have hw : ∀ bs, PlainBut ds (locWrite s (hartLoc s (va e)) (pa e) bs) := fun bs => by
    obtain ⟨_, _, h1⟩ := Laws.locWrite_frame s (hartLoc s (va e)) (pa e) bs
    rw [h1]
    exact h
  exact plain_request (ds := ds) _ _ _ (plain_kept _ _ (hw _))

theorem plain_scatter {ds : List Delay} (n : Nat) (els : List Nat) (addr : Nat → Int) (pa : Nat → Nat) (bs : Nat → List Byte) (e : Nat) {s : State}
    (h : PlainBut ds s) : PlainBut ds (scatterStep n els addr pa bs e s) := by
  have h1 : ∀ lines, PlainBut ds (stampLines s lines) := fun lines => by
    obtain ⟨_, _, _, _, h1⟩ := Laws.stampLines_frame s lines
    rw [h1]
    exact h
  exact plain_packet _ _ _ _ _ _ (h1 _)

theorem plain_unqueued {s : State} (h : Plain s) (pa : Nat) : queuesAt s pa = false := by simp [queuesAt, delayOf, h.2.2.2.2.1]

/-- No request is late where nothing is. -/
theorem plain_prompt {s : State} (h : Plain s) (acc n : Nat) (els : List Nat) (addr : Nat → Int) (e : Nat) : ¬ PacketLate s acc n els addr e := by
  rintro ⟨_, _, pa, _, ho⟩
  rw [in_time h (by simp)] at ho
  exact nomatch ho

/-- What several reads leave. -/
theorem reads_frame (va pa : Nat → Nat) (n kind : Nat) : ∀ (els : List Nat) (s : State), ∃ perf snap near hot ports events agenda,
    readAll s els va pa n kind = { s with
      hart := { s.hart with perf, snap }, die := { s.die with near }, core := { s.core with hot }, ports, events, agenda }
  | [], s => ⟨_, _, _, _, _, _, _, rfl⟩
  | e :: es, s => by
    obtain ⟨_, _, _, _, _, _, _, h1⟩ := read_frame va pa n kind e s
    obtain ⟨_, _, _, _, _, _, _, h2⟩ := reads_frame va pa n kind es (readStep va pa n kind e s)
    rw [show readAll s (e :: es) va pa n kind = readAll (readStep va pa n kind e s) es va pa n kind from rfl, h2, h1]
    exact ⟨_, _, _, _, _, _, _, rfl⟩

theorem reads_plain {ds : List Delay} (va pa : Nat → Nat) (n kind : Nat) (els : List Nat) {s : State} (h : PlainBut ds s) :
    PlainBut ds (readAll s els va pa n kind) := by
  obtain ⟨_, _, _, _, _, _, _, hr⟩ := reads_frame va pa n kind els s
  rw [hr]
  exact h

/-- A hart that has written nothing has nothing to publish, after reads too. -/
theorem publishes {s : State} (h : s.hart.own = []) : publishCounted s = ({ s with hart := { s.hart with own := [], stalledPub := none } }, true) := by
  simp [publishCounted, publish, unsent, linesOf, h, withHart]

theorem reads_publish {s : State} (hp : Plain s) (h : s.hart.own = []) (els : List Nat) (va pa : Nat → Nat) (n kind : Nat) :
    ∃ u, publishCounted (readAll s els va pa n kind) = (u, true) ∧ Plain u ∧ u.memory = s.memory ∧ u.posts = s.posts ∧
      u.die.tasks = s.die.tasks := by
  obtain ⟨_, _, _, _, _, _, _, hr⟩ := reads_frame va pa n kind els s
  rw [hr]
  exact ⟨_, publishes h, hp, rfl, rfl, rfl⟩

/-- A condition that such states meet is met all along accesses that leave them such. -/
theorem all_along {ds : List Delay} {step : Nat → State → State} {P : State → Prop} (hs : ∀ e {u}, PlainBut ds u → PlainBut ds (step e u))
    (hp : ∀ u, PlainBut ds u → P u) : ∀ (els : List Nat) (s : State), PlainBut ds s → AllAlong step P els s
  | [], s, h => hp s h
  | e :: es, s, h => ⟨hp s h, all_along hs hp es (step e s) (hs e h)⟩

theorem apart_of {l : List Nat} {f : Nat → Nat} {n : Nat} (h : ∀ d ∈ l, ∀ e ∈ l, d ≠ e → f d + n ≤ f e ∨ f e + n ≤ f d) :
    Apart (· ∈ l) f n := fun d e hd he => h d hd e he

/-- A stream register: base, stride and extent along x, position, element size code, look-ahead. -/
def aStream (base stride ext pos size ahead : Nat) : BitVec 512 :=
  BitVec.ofNat 512 (base + stride * 2 ^ 64 + 2 ^ 256 * (ext + 2 ^ 32 + 2 ^ 64 + size * 2 ^ 96 + ahead * 2 ^ 104 + pos * 2 ^ 128))

/-- Elements of s32 with stream register 2 set: both elements lie in it, at two addresses or at one; indices in brick 6, offsets in brick 7. -/
def withStream (r : BitVec 512) (s : State) : State := { s with hart := { s.hart with streams := s.hart.streams.setIfInBounds 2 r } }
def streaming : State := filled 6 [(256, 1)] (filled 7 [(256, 16)] (withStream (aStream 0x2000 4 2 0 2 1) (typed 2 small)))
def piled : State := withStream (aStream 0x2000 0 2 0 2 0) (typed 2 small)

theorem streaming_ready : BrickReady streaming ∧ BrickReady piled ∧ StreamFits streaming 2 ∧ StreamFits piled 2 := by
  refine ⟨⟨rfl, ⟨by decide, by decide, by decide +kernel, rfl⟩, by decide⟩, ⟨rfl, ⟨by decide, by decide, rfl, rfl⟩, by decide⟩, ?_, ?_⟩ <;>
    (unfold StreamFits; decide +kernel)

theorem streaming_plain : Plain streaming ∧ Plain (streamed streaming true 2) ∧ Plain (streamed streaming false 2) ∧
    Plain (streamed piled false 2) := by unfold Plain PlainBut; decide +kernel

/-- Reads through faces that end in a scratchpad byte, good or lost, and in the memory of a stream. -/
theorem witness_haloReads : scratchSpoilt small 1 64 = false ∧
    scratchSpoilt { small with core := { small.core with badScratch := [16384 * 1 + 64] } } 1 64 = true ∧
    Plain (withStream (aStream 0x2000 1 2 0 0 0) (facing 0x27)) := by
  unfold Plain PlainBut
  decide +kernel

/-- The elements that streaming and piled access, by stream, by index and in the scratchpad. -/
theorem streaming_places : (activeElems streaming 0 (insideTensor streaming 2)).map (tensorAddr streaming 2) = [0x2000, 0x2004] ∧
    (activeElems piled 0 (insideTensor piled 2)).map (tensorAddr piled 2) = [0x2000, 0x2000] ∧
    (activeElems streaming 0 fun _ => true).map (indexed streaming 2 0 6) = [0x2000, 0x2004] ∧
    (activeElems streaming 0 fun _ => true).map (elemOf streaming 7) = [0, 16] ∧ elemSize streaming = 4 ∧ elemSize piled = 4 := by
  decide +kernel

/-- An address of the block that is aligned for 4 bytes and whose home answers in time is legal and translated. -/
theorem served_at {ds : List Delay} {s : State} {f : Nat → Int} {l : List Nat} {as : List Int} (hl : l.map f = as) (hn : elemSize s = 4)
    (ha : ∀ a ∈ as, (a % 4 = 0 ∧ 0 ≤ a ∧ a < 2 ^ 29) ∧ ∀ d ∈ ds, d.line ≠ a.toNat / 128 ∨ d.queued = true) {u : State} (hu : PlainBut ds u)
    (acc e : Nat) (he : e ∈ l) : Legal s (f e) ∧ Placed u acc (f e).toNat (f e).toNat ∧ (f e).toNat < 2 ^ 29 := by
  obtain ⟨⟨h1, h2, h3⟩, h4⟩ := ha (f e) (hl ▸ List.mem_map_of_mem he)
  exact ⟨⟨by rw [hn]; exact h1, h2, by omega⟩, plain_placed hu acc (by omega) h4, by omega⟩

/-- A plain read that is placed is served. -/
theorem read_served {ds : List Delay} {u : State} (hu : PlainBut ds u) {va : Nat} (h : Placed u 0 va va) (n : Nat) : ReadServed u va va n :=
  ⟨h.1, rfl, fun _ => h.2, plain_readable hu _ _ _⟩

/-- A condition before and after each of some accesses. -/
structure Along (step : Nat → State → State) (P : State → Prop) (els : List Nat) (s : State) : Prop where
  all : AllAlong step P els s

abbrev ServedAlong (s : State) (a : Access) : Prop := Along a.step (fun u => ∀ e ∈ a.els s, a.served u e) (a.els s) a.start

/-- The addresses of a stream's elements, each its own home. -/
abbrev streamPA (s : State) (sn e : Nat) : Nat := (tensorAddr s sn e).toNat

/-- Elements of a stream in the block whose homes answer in time. -/
def InBlock (s : State) (sn : Nat) (l : List Nat) : Prop := ∀ u, Plain u → ∀ acc, ∀ e ∈ l,
  Legal s (tensorAddr s sn e) ∧ Placed u acc (tensorAddr s sn e).toNat (tensorAddr s sn e).toNat ∧ (tensorAddr s sn e).toNat < 2 ^ 29

theorem loads_from {s u0 : State} {adv : Bool} {vd sn m : Nat} (h0 : Plain u0) (h : InBlock s sn (activeElems s m (insideTensor s sn))) :
    Along (accessOf.loads s (streamPA s sn) adv vd sn m).step
      (fun u => ∀ e ∈ (accessOf.loads s (streamPA s sn) adv vd sn m).els s, (accessOf.loads s (streamPA s sn) adv vd sn m).served u e)
      ((accessOf.loads s (streamPA s sn) adv vd sn m).els s) u0 :=
  ⟨all_along (plain_read _ _ _ _) (fun u hu e he => have h := h u hu 0 e he
    ⟨h.1, read_served hu h.2.1 _, fun _ => plain_room hu h.2.2 0⟩) _ _ h0⟩

theorem loads_along {s : State} {adv : Bool} {vd sn m : Nat} (h0 : Plain (streamed s adv sn))
    (h : InBlock s sn (activeElems s m (insideTensor s sn))) : ServedAlong s (accessOf.loads s (streamPA s sn) adv vd sn m) := loads_from h0 h

theorem stores_along {s : State} {adv : Bool} {vd sn m : Nat} (h0 : Plain (streamed s adv sn))
    (h : InBlock s sn (activeElems s m (insideTensor s sn))) : ServedAlong s (accessOf.stores s (streamPA s sn) adv vd sn m) :=
  ⟨all_along (plain_write _ _ _ _) (fun u hu e he => ⟨(h u hu 1 e he).1, (h u hu 1 e he).2.1⟩) _ _ h0⟩

theorem streaming_block : InBlock streaming 2 (activeElems streaming 0 (insideTensor streaming 2)) := fun _ hu acc e he =>
  served_at streaming_places.1 streaming_places.2.2.2.2.1 (by decide) hu acc e he

theorem piled_block : InBlock piled 2 (activeElems piled 0 (insideTensor piled 2)) := fun _ hu acc e he =>
  served_at streaming_places.2.1 streaming_places.2.2.2.2.2 (by decide) hu acc e he

theorem witness_streamLoad : wellFormed (.vldAdv 5 2 0 0) = true ∧ AccessIssues streaming (.vldAdv 5 2 0 0) ∧
    ∃ a, accessOf streaming (streamPA streaming 2) (.vldAdv 5 2 0 0) = some a ∧ ServedAlong streaming a :=
  ⟨rfl, streaming_ready.2.2.1, _, rfl, loads_along streaming_plain.2.1 streaming_block⟩

/-- Two elements of one address: the higher one stays (R52). -/
theorem witness_streamStore : wellFormed (.vst 5 2 0 0) = true ∧ AccessIssues piled (.vst 5 2 0 0) ∧
    ∃ a, accessOf piled (streamPA piled 2) (.vst 5 2 0 0) = some a ∧ ServedAlong piled a :=
  ⟨rfl, streaming_ready.2.2.2, _, rfl, stores_along streaming_plain.2.2.2 piled_block⟩

theorem witness_gather : wellFormed (.vgath 5 2 0 0 6 1) = true ∧ AccessIssues streaming (.vgath 5 2 0 0 6 1) ∧
    ∃ a, accessOf streaming (fun e => (indexed streaming 2 0 6 e).toNat) (.vgath 5 2 0 0 6 1) = some a ∧ ServedAlong streaming a :=
  ⟨rfl, ⟨streaming_ready.2.2.1, by decide⟩, _, rfl, ⟨all_along (fun e _ hu => plain_touch _ _ (plain_packet _ _ _ _ _ e hu)) (fun u hu e he =>
    have h := served_at streaming_places.2.2.1 streaming_places.2.2.2.2.1 (by decide) hu 0 e he
    ⟨h.1, h.2.1, plain_room hu h.2.2 0, plain_prompt hu _ _ _ _ _, plain_engineReadable hu _ _ _ _⟩) _ _ streaming_plain.2.2.1⟩⟩

theorem fits_scratch {f : Nat → Nat} {l : List Nat} {as : List Nat} (hl : l.map f = as) (ha : ∀ a ∈ as, a % 4 = 0 ∧ a + 4 ≤ 16384)
    (acc e : Nat) (he : e ∈ l) (v : AccFault) : ¬ OffsetFaults streaming acc (e % streaming.hart.lanes) (f e) v := by
  obtain ⟨h1, h2⟩ := ha (f e) (hl ▸ List.mem_map_of_mem he)
  unfold OffsetFaults
  rw [streaming_places.2.2.2.2.1]
  rintro (h | h | h)
  · exact h.1 h1
  · omega
  · obtain ⟨k, -, h⟩ := h.2.2.2.1
    have hb : streaming.core.badScratch = [] := by decide +kernel
    simp [scratchSpoilt, hb] at h

theorem witness_scratch : wellFormed (.spld 5 0 7 0) = true ∧ AccessIssues streaming (.spld 5 0 7 0) ∧ wellFormed (.spst 5 0 7 0) = true ∧
    (∃ a, accessOf streaming id (.spld 5 0 7 0) = some a ∧ ∀ e ∈ a.els streaming, a.served streaming e) ∧
    ∃ a, accessOf streaming id (.spst 5 0 7 0) = some a ∧ ∀ e ∈ a.els streaming, a.served streaming e :=
  ⟨rfl, by unfold AccessIssues; decide, rfl, ⟨_, rfl, fs 0⟩, ⟨_, rfl, fs 1⟩⟩
where
  fs (acc : Nat) : ∀ e ∈ activeElems streaming 0 (fun _ => true), ∀ f,
      ¬ OffsetFaults streaming acc (e % streaming.hart.lanes) (elemOf streaming 7 e) f :=
    fun e he f => fits_scratch streaming_places.2.2.2.1 (by decide) acc e he f

/-! Forms whose lane groups stop together, and faults. -/

/-- Old values for the atomics at 0x2000, 0x2004 and 0x2080, reached from X4 by the indices in bricks 6 and 7; 5 in X5. -/
def counting : State :=
  filled 6 [(256, 1)] (filled 7 [(256, 32)] (inMemory [(0x2000, 5), (0x2004, 7), (0x2080, 9)] (holds [(4, 0x2000), (5, 3)] (typed 2 small))))

/-- The same where the line of 0x2080 answers too late, and where atomics to the line of 0x2000 wait in a queue. -/
def lateLine : List Delay := [{ line := 65, wait := 9000, accept := 0, queued := false, acts := false }]
def queueLine : List Delay := [{ line := 64, wait := 100, accept := 0, queued := true, acts := false }]
def tardy : State := { counting with delays := lateLine }
def queueing : State := { counting with delays := queueLine }

theorem counting_ready : BrickReady counting ∧ BrickReady tardy ∧ Plain counting ∧ PlainBut lateLine tardy ∧ PlainBut queueLine queueing ∧
    elemSize counting = 4 ∧ elemSize tardy = 4 := by
  refine ⟨⟨rfl, ⟨by decide, by decide, by decide +kernel, rfl⟩, by decide⟩, ⟨rfl, ⟨by decide, by decide, by decide +kernel, rfl⟩, by decide⟩,
    ?_, ?_, ?_, ?_, ?_⟩ <;> (try unfold Plain) <;> (try unfold PlainBut) <;> decide +kernel

theorem counting_places : (activeElems counting 0 fun _ => true).map (atomicPlace counting 4 6) = [0x2000, 0x2004] ∧
    ([0] : List Nat).map (atomicPlace tardy 4 7) = [0x2000] ∧ atomicPlace tardy 4 7 1 = 0x2080 ∧
    (activeElems tardy 0 fun _ => true) = [0, 1] := by decide +kernel

/-- Without a shadow no line waits for a second one. -/
theorem unblocked {s : State} (h : s.shadows = []) (l : Nat) : shadowBlocks s l = false := by simp [shadowBlocks, h]

/-- Two elements of one group go where no line has a shadow. -/
theorem groups_of {step : Nat → State → State} {n lanes : Nat} {els : List Nat} {addr : Nat → Int} {s : State} (he : els = [0, 1])
    (h : s.shadows = []) (hl : 1 < lanes) : GroupsGo step n lanes els addr els s := by
  subst he
  refine ⟨fun _ x _ _ l _ => unblocked h l, fun h => absurd (h 0 (by simp) ?_) (by decide), trivial⟩
  rw [Nat.div_eq_of_lt hl, Nat.div_eq_of_lt (by omega)]

theorem witness_scatter : wellFormed (.vscat 5 2 0 0 6 1) = true ∧ GroupedIssues streaming (.vscat 5 2 0 0 6 1) ∧
    ∃ a, groupedOf streaming (fun e => (indexed streaming 2 0 6 e).toNat) (.vscat 5 2 0 0 6 1) = some a ∧ ServedAlong streaming a ∧
      Apart (· ∈ a.els streaming) (fun e => (a.addr e).toNat) (elemSize streaming) ∧
      GroupsGo a.step (elemSize streaming) streaming.hart.lanes (a.els streaming) a.addr (a.els streaming) a.start :=
  ⟨rfl, streaming_ready.2.2.1, _, rfl, ⟨all_along (plain_scatter _ _ _ _ _) (fun u hu e he =>
    have h := served_at streaming_places.2.2.1 streaming_places.2.2.2.2.1 (by decide) hu 1 e he
    ⟨h.1, h.2.1, plain_still hu _, plain_room hu h.2.2 0, plain_prompt hu _ _ _ _ _, plain_correctable hu _ _⟩) _ _ streaming_plain.2.2.1⟩,
    apart_of (by decide +kernel), groups_of (by decide +kernel) (by decide +kernel) (by decide)⟩

theorem witness_vectorAtomic : wellFormed (.atomCas 3 4 6 1 0 0 1 0) = true ∧
    atomicRow (.atomCas 3 4 6 1 0 0 1 0) = some (10, 3, 4, 6, 0, 0, 1, 0) ∧ GroupedIssues counting (.atomCas 3 4 6 1 0 0 1 0) ∧
    Released counting counting 0 ∧
    ∃ a, groupedOf counting (fun e => (atomicPlace counting 4 6 e).toNat) (.atomCas 3 4 6 1 0 0 1 0) = some a ∧ ServedAlong counting a ∧
      Apart (· ∈ a.els counting) (fun e => (a.addr e).toNat) (elemSize counting) ∧
      Apart (· ∈ a.els counting) (fun e => homeAddr counting (atomicPlace counting 4 6 e).toNat) (elemSize counting) :=
  ⟨rfl, rfl, by unfold GroupedIssues; decide, .inl ⟨rfl, rfl⟩, _, rfl, ⟨all_along (plain_atomic _ _ _ _ _ _ _) (fun u hu e he =>
    have h := served_at counting_places.1 counting_ready.2.2.2.2.2.1 (by decide) hu (atomicAccess 10) e he
    ⟨h.1, h.2.1, plain_unqueued hu _, plain_still hu _, plain_room hu h.2.2 0, plain_correctable hu _ _⟩) _ _ counting_ready.2.2.1⟩, apart_of (by decide +kernel),
    apart_of (by decide +kernel)⟩

/-- A stream, and indices in brick 8, whose second element is misaligned, and the fault of its elements. -/
def slanted : State := filled 8 [(256, 6)] (withStream (aStream 0x2000 2 2 0 2 0) (typed 2 small))
def second (f : AccFault) (e : Nat) : Option AccFault := if e = 1 then some f else none

theorem slanted_ready : BrickReady slanted ∧ Plain (streamed slanted false 2) ∧ elemSize slanted = 4 ∧ StreamFits slanted 2 := by
  refine ⟨⟨rfl, ⟨by decide, by decide, by decide +kernel, rfl⟩, by decide⟩, ?_, ?_, ?_⟩
  · unfold Plain PlainBut
    decide +kernel
  · decide
  · unfold StreamFits
    decide +kernel

theorem slanted_places : ([0] : List Nat).map (tensorAddr slanted 2) = [0x2000] ∧ tensorAddr slanted 2 1 = 0x2002 ∧
    (activeElems slanted 0 (insideTensor slanted 2)) = [0, 1] ∧ ([0] : List Nat).map (indexed slanted 2 1 8) = [0x2000] ∧
    indexed slanted 2 1 8 1 = 0x2006 ∧ (activeElems slanted 0 fun _ => true) = [0, 1] := by decide +kernel

theorem second_only {g : AccFault} {x : Nat} {f : AccFault} (h : second g x = some f) : x = 1 ∧ f = g := by
  unfold second at h
  split at h
  · exact ⟨‹_›, (Option.some.inj h).symm⟩
  · exact nomatch h

theorem second_of {g : AccFault} {x : Nat} (h : (second g x).isSome = true) : x = 1 := by
  obtain ⟨f, hf⟩ := Option.isSome_iff_exists.mp h
  exact (second_only hf).1

theorem first_of {g : AccFault} {l : List Nat} (hl : l = [0, 1]) {e : Nat} (he : e ∈ l) (hn : second g e = none) : e ∈ [0] := by
  subst hl
  rcases List.mem_cons.mp he with rfl | he
  · exact List.mem_singleton.mpr rfl
  · obtain rfl := List.mem_singleton.mp he
    exact nomatch hn

/-- A load whose second element faults at its address (R39): the condition of the statement, all along. -/
theorem fault_along {s : State} {vd sn m : Nat} {bad : Nat → Option AccFault} {els : List Nat}
    (h0 : Plain (streamed s false sn)) (hb : ∀ x f, bad x = some f → f.sub ≠ 6 ∧ (∀ u, AddressFaults u 0 (elemSize s) (tensorAddr s sn x) f) ∧
      (tensorAddr s sn x).toNat < 2 ^ 29)
    (h : InBlock s sn (els.filter fun e => (bad e).isNone)) (a : Access) (ha : a = accessOf.loads s (streamPA s sn) false vd sn m) :
    Along (fun e u => match bad e with
      | some f => if f.sub = 6 then a.loses e u else u
      | none => a.step e u)
    (fun u => (∀ e ∈ els, bad e = none → a.served u e) ∧ ∀ x f, bad x = some f → a.faults u x f) els a.start := by
  subst ha
  refine ⟨all_along (ds := []) (fun e u hu => ?_) (fun u hu => ⟨fun e he hn => ?_, fun x f hf => ⟨.inl ((hb x f hf).2.1 u), fun p hp _ => ?_⟩⟩) _ _ h0⟩
  · split
    · next f hf =>
      rw [if_neg (hb e f hf).1]
      exact hu
    · exact plain_read (fun e => (tensorAddr s sn e).toNat) (streamPA s sn) (elemSize s) (streamKind s sn) e hu
  · have h := h u hu 0 e (List.mem_filter.mpr ⟨he, by rw [hn]; rfl⟩)
    exact ⟨h.1, read_served hu h.2.1 _, fun _ => plain_room hu h.2.2 0⟩
  · rw [plain_locates hu 0 _ (hb x f hf).2.2] at hp
    exact plain_room hu (Except.ok.inj hp ▸ (hb x f hf).2.2) 0

/-- Element 0 of the group is loaded and element 1 faults. -/
theorem witness_elementFault : wellFormed (.vld 5 2 0 0) = true ∧ AccessIssues slanted (.vld 5 2 0 0) ∧
    (∃ x, (second { cause := 3 } x).isSome = true) ∧
    ∃ a, accessOf slanted (streamPA slanted 2) (.vld 5 2 0 0) = some a ∧
      (∀ x, (second { cause := 3 } x).isSome = true → x ∈ a.els slanted ∧ x / slanted.hart.lanes = 0) ∧
      ∃ els, els = (a.els slanted).filter (fun e => decide (e / slanted.hart.lanes ≤ 0)) ∧
        Along (fun e u => match second { cause := 3 } e with
          | some f => if f.sub = 6 then a.loses e u else u
          | none => a.step e u)
        (fun u => (∀ e ∈ els, second { cause := 3 } e = none → a.served u e) ∧ ∀ x f, second { cause := 3 } x = some f → a.faults u x f)
        els a.start :=
  ⟨rfl, slanted_ready.2.2.2, ⟨1, rfl⟩, accessOf.loads slanted (streamPA slanted 2) false 5 2 0, rfl, fun x hx => by
    obtain rfl := second_of hx
    refine ⟨?_, by decide⟩
    unfold Access.els accessOf.loads
    rw [slanted_places.2.2.1]
    decide, [0, 1], by
    unfold Access.els accessOf.loads
    rw [slanted_places.2.2.1]
    decide, fault_along slanted_ready.2.1 (fun x f hf => by
      obtain ⟨rfl, rfl⟩ := second_only hf
      refine ⟨by decide, fun u => .inl ⟨?_, rfl⟩, by rw [slanted_places.2.1]; decide⟩
      rw [slanted_places.2.1, slanted_ready.2.2.1]
      decide) (fun _ hu acc e he =>
        served_at slanted_places.1 slanted_ready.2.2.1 (by decide) hu acc e
          (first_of rfl (List.mem_filter.mp he).1 (Option.isNone_iff_eq_none.mp (List.mem_filter.mp he).2))) _ rfl⟩

/-- Nothing of a scatter's group is sent when its second element is misaligned. -/
theorem witness_groupCheck : wellFormed (.vscat 5 2 0 1 8 0) = true ∧ GroupedIssues slanted (.vscat 5 2 0 1 8 0) ∧
    (∃ x, (second { cause := 3 } x).isSome = true) ∧
    ∃ a, groupedOf slanted (fun e => (indexed slanted 2 1 8 e).toNat) (.vscat 5 2 0 1 8 0) = some a ∧
      (∀ x, (second { cause := 3 } x).isSome = true → x ∈ a.els slanted ∧ x / slanted.hart.lanes = 0) ∧
      Apart (· ∈ a.els slanted) (fun e => (a.addr e).toNat) (elemSize slanted) ∧
      (a.els slanted).filter (fun e => decide (e / slanted.hart.lanes < 0)) = [] ∧
      (∀ e ∈ (a.els slanted).filter (fun e => decide (e / slanted.hart.lanes ≤ 0) && (second { cause := 3 } e).isNone), a.served a.start e) ∧
      ∀ x f, second { cause := 3 } x = some f → a.faults a.start x f := by
  refine ⟨rfl, slanted_ready.2.2.2, ⟨1, rfl⟩, _, rfl, fun x hx => ?_, apart_of (by decide +kernel), ?_, fun e he => ?_, fun x f hf => ?_⟩
  · obtain rfl := second_of hx
    exact ⟨by show 1 ∈ activeElems slanted 0 fun _ => true; rw [slanted_places.2.2.2.2.2]; decide, by decide⟩
  · show (activeElems slanted 0 fun _ => true).filter _ = []
    rw [slanted_places.2.2.2.2.2]
    decide
  · obtain ⟨h1, h2⟩ := List.mem_filter.mp he
    have hn := Option.isNone_iff_eq_none.mp ((Bool.and_eq_true _ _).mp h2).2
    have hu := slanted_ready.2.1
    have h := served_at slanted_places.2.2.2.1 slanted_ready.2.2.1 (by decide) hu 1 e
      (first_of slanted_places.2.2.2.2.2 h1 hn)
    exact ⟨h.1, h.2.1, plain_still hu _, plain_room hu h.2.2 0, plain_prompt hu _ _ _ _ _, plain_correctable hu _ _⟩
  · obtain ⟨rfl, rfl⟩ := second_only hf
    refine .inl ⟨?_, rfl⟩
    show indexed slanted 2 1 8 1 % (elemSize slanted : Int) ≠ 0
    rw [slanted_places.2.2.2.2.1, slanted_ready.2.2.1]
    decide

/-- The home of an atomic's second element does not answer in time (R359): its first element has acted. -/
theorem witness_failedAtomic : wellFormed (.atomSwap 3 4 7 1 0 0 1 0) = true ∧
    atomicRow (.atomSwap 3 4 7 1 0 0 1 0) = some (9, 3, 4, 7, 0, 0, 1, 0) ∧ Returns 9 ∧ GroupedIssues tardy (.atomSwap 3 4 7 1 0 0 1 0) ∧
    ∃ a bad, bad = second { cause := 11, sub := 1, data := true } ∧
      groupedOf tardy (fun e => (atomicPlace tardy 4 7 e).toNat) (.atomSwap 3 4 7 1 0 0 1 0) = some a ∧
      (∀ x, (bad x).isSome = true → x ∈ a.els tardy ∧ x / tardy.hart.lanes = 0) ∧
      Apart (· ∈ a.els tardy) (fun e => (a.addr e).toNat) (elemSize tardy) ∧
      Apart (· ∈ a.els tardy) (fun e => homeAddr tardy (atomicPlace tardy 4 7 e).toNat) (elemSize tardy) ∧
      ∃ ok, ok = (a.els tardy).filter (fun e => decide (e / tardy.hart.lanes ≤ 0) && (bad e).isNone) ∧
        Along a.step (fun u => (∀ e ∈ ok, a.served u e) ∧ ∀ x f, bad x = some f → Legal tardy (a.addr x) ∧ f.data = true ∧
          locate (hartView u) (atomicAccess 9) (a.addr x).toNat u = (u, .ok (atomicPlace tardy 4 7 x).toNat) ∧
          queuesAt u (atomicPlace tardy 4 7 x).toNat = false ∧ moving u (atomicPlace tardy 4 7 x).toNat = false ∧
          portFull u (homeAddr u (atomicPlace tardy 4 7 x).toNat) 0 = false ∧
          reachHome u (atomicPlace tardy 4 7 x).toNat = (u, .error f) ∧ actsAnyway u (atomicPlace tardy 4 7 x).toNat f = false) ok tardy := by
  refine ⟨rfl, rfl, by unfold Returns; decide, by unfold GroupedIssues; decide, _, _, rfl, rfl, fun x hx => ?_, ?_, ?_, [0], ?_,
    ⟨all_along (ds := lateLine) (plain_atomic _ _ _ _ _ _ _) (fun u hu => ⟨fun e he => ?_, fun x f hf => ?_⟩) _ _ counting_ready.2.2.2.1⟩⟩
  · obtain rfl := second_of hx
    exact ⟨by show 1 ∈ activeElems tardy 0 fun _ => true; rw [counting_places.2.2.2]; decide, by decide⟩
  · exact apart_of (by decide +kernel)
  · exact apart_of (by decide +kernel)
  · show [0] = (activeElems tardy 0 fun _ => true).filter _
    rw [counting_places.2.2.2]
    decide
  · have h := served_at counting_places.2.1 counting_ready.2.2.2.2.2.2 (by decide) hu (atomicAccess 9) e he
    obtain rfl := List.mem_singleton.mp he
    exact ⟨h.1, h.2.1, by
      show queuesAt u (atomicPlace tardy 4 7 0).toNat = false
      rw [show atomicPlace tardy 4 7 0 = 0x2000 by decide +kernel]
      unfold queuesAt delayOf
      rw [hu.2.2.2.2.1]
      decide, plain_still hu _, plain_room hu h.2.2 0, plain_correctable hu _ _⟩
  · obtain ⟨rfl, rfl⟩ := second_only hf
    have h1 : overdue u 0x2080 = true := by
      unfold overdue delayOf promise
      rw [hu.2.2.2.2.1, show ownModule u = 0 by unfold ownModule; rw [hu.2.2.1]]
      decide
    have h2 : ∀ p : Nat, actsAnyway u p { cause := 11, sub := 1, data := true } = false := fun p => by
      unfold actsAnyway delayOf
      rw [hu.2.2.2.2.1]
      cases hf : lateLine.find? fun d => d.line == p / 128 with
      | none => simp
      | some d =>
        obtain rfl := List.mem_singleton.mp (List.mem_of_find?_eq_some hf)
        simp
    refine ⟨?_, rfl, ?_⟩
    · show Legal tardy (atomicPlace tardy 4 7 1)
      rw [counting_places.2.2.1]
      exact ⟨by rw [counting_ready.2.2.2.2.2.2]; decide, by decide, by decide⟩
    · rw [counting_places.2.2.1]
      refine ⟨?_, ?_, plain_still hu _, plain_room hu (by decide) 0, ?_, h2 _⟩
      · show locate _ _ (atomicPlace tardy 4 7 1).toNat u = _
        rw [counting_places.2.2.1]
        exact plain_locates hu _ _ (by decide)
      · unfold queuesAt delayOf
        rw [hu.2.2.2.2.1]
        decide
      · rw [reaches_here hu.2.2.1 hu.2.2.2.2.2.2.1 _ (by decide)]
        show (u, if overdue u 0x2080 = true then _ else _) = _
        rw [h1]
        rfl

theorem counting_publishes : publishCounted counting = (counting, true) := by rfl

theorem counting_at (acc : Nat) : Placed counting acc 0x2000 0x2000 := plain_placed counting_ready.2.2.1 acc (by decide) (by simp)

theorem witness_scalarAtomic : wellFormed (.atomAadd 0 4 5 1 1 1 0 1) = true ∧ counting.hart.lap = none ∧ counting.hart.request = none ∧
    atomicRow (.atomAadd 0 4 5 1 1 1 0 1) = some (1, 0, 4, 5, 1, 1, 0, 1) ∧ Released counting counting 1 ∧ Released counting counting 0 ∧
    (rx counting 4).toNat % 8 = 0 ∧ (rx counting 4).toNat < 2 ^ 55 ∧
    Placed counting (atomicAccess 1) 0x2000 0x2000 ∧ moving counting 0x2000 = false ∧ portFull counting (homeAddr counting 0x2000) 0 = false ∧
    queuesAt counting 0x2000 = false ∧ uncorrectable counting 0x2000 8 = false :=
  ⟨rfl, rfl, rfl, rfl, .inr ⟨rfl, counting_publishes⟩, .inl ⟨rfl, rfl⟩, by decide, by decide, counting_at _, rfl, by decide +kernel, rfl, rfl⟩

/-- An atomic that waits in a queue for its service. -/
theorem witness_queuedAtomic : (rx queueing 4).toNat = 0x2000 ∧ queueing.hart.request = none ∧
    Placed queueing 3 0x2000 0x2000 ∧ moving queueing 0x2000 = false ∧ queuesAt queueing 0x2000 = true ∧
    Returns 9 ∧ ¬ Returns 1 :=
  ⟨by decide, rfl, plain_placed counting_ready.2.2.2.2.1 3 (by decide) (by decide), rfl, rfl, by unfold Returns; decide,
    by unfold Returns; decide⟩

/-- A scalar atomic at a misaligned address, at one whose data is lost, at one whose home is late, and one that awaits its reply. -/
def tardyAt (a : Word) : State := wx tardy 4 a
def lossy : State := { counting with badBytes := [0x2001] }
def awaiting : State := { small with hart := { small.hart with request := some ⟨5, 0, 9, 8, 3, 0, 0x2000, 0x2000⟩ } }

theorem witness_scalarAtomicTraps : CanTrap counting ∧ AddressFaults counting (atomicAccess 9) 8 0x2001 { cause := 3 } ∧
    (Returns 9 ∧ (rx lossy 4).toNat % 8 = 0 ∧ locate (hartView lossy) (atomicAccess 9) 0x2000 lossy = (lossy, .ok 0x2000) ∧
      moving lossy 0x2000 = false ∧ portFull lossy (homeAddr lossy 0x2000) 0 = false ∧ reachHome lossy 0x2000 = (lossy, .ok 0x2000) ∧
      queuesAt lossy 0x2000 = false ∧ uncorrectable lossy 0x2000 8 = true ∧ paModule 0x2000 = ownModule lossy) ∧
    ((rx (tardyAt 0x2080) 4).toNat = 0x2080 ∧ (tardyAt 0x2080).hart.request = none ∧
      locate (hartView (tardyAt 0x2080)) 3 0x2080 (tardyAt 0x2080) = (tardyAt 0x2080, .ok 0x2080) ∧
      reachHome (tardyAt 0x2080) 0x2080 = (tardyAt 0x2080, .error { cause := 11, sub := 1, data := true }) ∧
      actsAnyway (tardyAt 0x2080) 0x2080 { cause := 11, sub := 1, data := true } = false) ∧
    awaiting.hart.request.isSome = true :=
  ⟨⟨rfl, by decide⟩, .inl ⟨by decide, rfl⟩, ⟨by unfold Returns; decide, by decide, rfl, rfl, by decide +kernel, by rfl, rfl, by decide +kernel, rfl⟩,
    ⟨by decide, rfl, by rfl, by rfl, by rfl⟩, rfl⟩

/-- Eight dwords at 0x2000, for a stream register. -/
theorem witness_streamRegisters : 15 < 16 ∧ counting.hart.lap = none ∧ (rx counting 4).toNat % 64 = 0 ∧ CanTrap counting ∧
    (rx (holds [(4, 0x2020)] small) 4).toNat % 64 ≠ 0 := ⟨by decide, rfl, by decide, ⟨rfl, by decide⟩, by decide⟩

/-- A byte that an open phase reads older than its home: a version kept for it. -/
def behindHome : State :=
  { small with
    memory := [(0x2000, 9)], pubs := 5, linePubs := [(64, 5)], hart := { small.hart with stamp := 4 }
    shadows := [⟨64, 5, 2, BitVec.allOnes 128, .replicate 128 7⟩] }

theorem witness_version : ownByte behindHome.hart (hartLoc behindHome 0x2000) = none ∧
    tfind behindHome.hart.snap (hartLoc behindHome 0x2000) = none ∧ tfind behindHome.die.near (hartLoc behindHome 0x2000) = none ∧
    (∃ v ∈ versions behindHome, v.line = homeAddr behindHome 0x2000 / 128 ∧
      v.born ≤ behindHome.hart.stamp ∧ behindHome.hart.stamp < v.stamp ∧ v.mask.getLsbD 0 = true) ∧ (versions behindHome).length = 1 ∧
    hartByte behindHome 0x2000 0x2000 = 7 := by decide +kernel

/-- A hart with a deadline that has passed, at a line with a delay. -/
theorem witness_late : LateBy tardy 1 0x2080 := ⟨by decide, _, rfl, by decide⟩

/-! Phases, barriers, parcels. -/

/-- A byte written and not published; the same while an older version of its line is still needed, so that its publication waits. -/
def writing : State := { small with hart := { small.hart with own := [(0x2000, ⟨7, 0x2000, false, false⟩)], ctxid := 9 } }
def aShadow : Shadow := ⟨64, 5, 2, BitVec.allOnes 128, .replicate 128 7⟩
def held : State :=
  { writing with
    pubs := 5, linePubs := [(64, 5)], shadows := [aShadow], saved := [{ Hart.reset with stamp := 4 }]
    hart := { writing.hart with stalledPub := some 65 } }

theorem writing_lines : unpublished writing = [(0x2000, ⟨7, 0x2000, false, false⟩)] ∧ publishedLines writing = [64] ∧
    publishedLines held = [64] := by decide +kernel

/-- The home of the one byte of writing takes it. -/
theorem takes_of {s : State} {bs : Table OwnByte} {p : Nat × OwnByte} (h : bs = [p]) (hs : s.ports = [])
    (hp : let l := homeAddr s p.2.pa / 128 * 128
      (∀ f ∈ [1, 2], homeFailsFor s l f = none) ∧ remoteTransit s l = false ∧ homeAddr s p.2.pa ∉ s.badBytes)
    (hw : paModule (homeAddr s p.2.pa) = ownModule s) : TakesBytes s bs := by
  subst h
  refine ⟨fun q => .inr ?_, fun q hq => ?_, fun q hq r hr => ?_⟩
  · simp [portOf, hs, tget]
  · rwa [List.mem_singleton.mp hq]
  · rw [List.mem_singleton.mp hq, List.mem_singleton.mp hr]
    exact ⟨fun _ => rfl, .inr (.inl hw)⟩

theorem writing_takes : TakesBytes writing (unpublished writing) := takes_of writing_lines.1 rfl (by decide +kernel) rfl

theorem witness_phases : writing.hart.lap = none ∧ (∃ sc < 4, (Instr.phase 3) = .phase sc) ∧ Publishable writing ∧
    ∃ l ∈ publishedLines held, lineWaits held l = true := by
  refine ⟨rfl, ⟨3, by decide, rfl⟩, ⟨rfl, fun l => by simp [writing, small, State.reset, tget], ?_, writing_takes⟩, ?_⟩
  · rw [writing_lines.2.1]
    exact fun l hl => by obtain rfl := List.mem_singleton.mp hl; decide +kernel
  · rw [writing_lines.2.2]
    exact ⟨64, List.mem_singleton.mpr rfl, by decide +kernel⟩

theorem witness_phaseStart : (∃ h ∈ held.saved, h.stamp < tget held.linePubs 64 0) ∧
    StaysOpen held aShadow.stamp := ⟨by decide, .inr (by decide)⟩

/-- A barrier instance that waits for its second hart, and a hart that has arrived. -/
def meeting : State := { small with hart := { small.hart with ctxid := 9 }, barriers := [⟨0, 0, 255, 2, [4]⟩] }
def arrivedAt (done : Bool) : State := { meeting with hart := { meeting.hart with arrival := some ⟨0, 0, 255, done⟩, waiting := true } }
def met : State := { arrivedAt false with barriers := [⟨0, 0, 255, 2, [4, 9]⟩] }

theorem witness_barriers : (meeting.hart.lap = none ∧ meeting.hart.arrival = none) ∧ (255 ≤ 255 ∧ 8 ≤ scopeLimit 0 ∧ scopeLimit 0 < 9 ∧ 255 < 256) ∧
    publishCounted meeting = (meeting, true) ∧ openAt meeting 0 0 254 = none ∧ openAt meeting 0 0 255 = some ⟨0, 0, 255, 2, [4]⟩ ∧
    (arrivedAt true).hart.arrival = some ⟨0, 0, 255, true⟩ ∧ (arrivedAt false).hart.arrival = some ⟨0, 0, 255, false⟩ ∧
    CanTrap meeting ∧ scopePart meeting 0 = 0 :=
  ⟨⟨rfl, rfl⟩, by decide, rfl, rfl, rfl, rfl, rfl, ⟨rfl, by decide⟩, rfl⟩

theorem witness_barrierEnds : fullAt met 0 0 255 = some ⟨0, 0, 255, 2, [4, 9]⟩ ∧ met.hart.run = .running ∧ met.hart.waiting = true ∧
    met.hart.lap = none ∧ met.hart.arrival = some ⟨0, 0, 255, false⟩ ∧ met.hart.ctxid ∈ [(4 : BitVec 32), 9] ∧
    (∀ h ∈ met.others, h.ctxid ∉ [(4 : BitVec 32), 9]) ∧ fullAt meeting 0 0 255 = none ∧ fullAt met 0 0 254 = none :=
  ⟨rfl, rfl, rfl, rfl, rfl, by decide, by decide, rfl, rfl⟩

/-- A phase that waits for its publication. -/
def waiting (w : Bool) : State :=
  { small with hart := { small.hart with stalledPub := some 65, waiting := w, ir1 := 0x90000003 } }

theorem witness_publicationEvents : (waiting true).hart.stalledPub.isSome = true ∧ (∃ u, publishCounted (waiting true) = (u, true)) ∧
    (∃ sc, decodeWord (waiting true).hart.ir1 = .ok (.phase sc)) ∧ (∃ u, publishCounted (waiting false) = (u, true)) ∧
    (writing.memory.wf = true ∧ writing.hart.run = .running) ∧ TakesBytes writing (bytesOf writing 64) :=
  ⟨rfl, ⟨_, rfl⟩, ⟨3, by decide⟩, ⟨_, rfl⟩, ⟨rfl, rfl⟩, takes_of (p := (0x2000, ⟨7, 0x2000, false, false⟩)) (by decide +kernel) rfl
    (by decide +kernel) rfl⟩

theorem unmoved_of {s : State} (h : s.forwards = []) : Unmoved s := fun a => by simp [homeAddr, h]

/-- A version that a stalled publication waits for, and room for it in the spill area. -/
theorem witness_spill : held.shadows.find? (fun y => y.line == 64) = some aShadow ∧
    (∃ h ∈ allHarts held, h.run ≠ .idle ∧ h.stalledPub.isSome = true ∧
      ∃ p ∈ h.own, p.2.pub = false ∧ p.2.home = false ∧ homeAddr held p.2.pa / 128 = 64) ∧
    held.spill.length < 1048576 ∧ held.memory.wf = true ∧ Unmoved held ∧ aShadow.bytes.length = 128 ∧ aShadow.line < 2 ^ 57 ∧
    aShadow.stamp < 2 ^ 64 ∧ aShadow.born < 2 ^ 64 ∧ (∀ x ∈ small.shadows, x.line ≠ 64) :=
  ⟨by decide, ⟨_, List.mem_cons_self, by decide, rfl, _, List.mem_cons_self, rfl, rfl, by decide⟩, by decide, rfl, unmoved_of rfl, by simp [aShadow],
    by norm_num [aShadow], by norm_num [aShadow], by norm_num [aShadow], nofun⟩

/-- A table of two windows: one free, one with a parcel of 64 KiB at 0x820000, whose pool is 256 KiB; a parcel that has arrived. -/
def freeWin : Window := { w := 1, base := 0x22000000, phys := 0, limit := 2, state := 6, psize := 0, gen := 7, asid := 0 }
def parcelWin : Window := { w := 2, base := 0x21000000, phys := 0x820000, limit := 2, state := 1, psize := 1, gen := 5, asid := 0 }
def parcels : State :=
  holds [(4, 0x21000008), (5, 65536), (6, 0x2100FFFF), (7, 0x21000000), (8, 0x20001)] <| [freeWin, parcelWin].foldl writeWindow
    { small with
      regs := { small.regs with winb := 0x400000, ppool := 0x800000, ppoolsz := 0x40000 }, pool := [(0x820000, 0x10000)]
      arrq := [(3, ⟨true, 0⟩)], arrived := [⟨77, 3, 0x810000, 2⟩], hart := { small.hart with ctxid := 9 } }

theorem parcels_windows : windows parcels = [freeWin, parcelWin] ∧ parcels.memory.wf = true := by decide +kernel

theorem parcels_chosen {u : Nat} (hu : u ≤ 2) : Chosen parcels u freeWin := by
  refine ⟨by rw [parcels_windows.1]; exact List.mem_cons_self, ⟨rfl, by decide, hu⟩, ?_⟩
  rw [parcels_windows.1]
  intro y hy h6
  rcases List.mem_cons.mp hy with rfl | hy
  · intros; exact Nat.le_refl _
  · obtain rfl := List.mem_singleton.mp hy
    exact absurd h6 (by decide)

theorem witness_palloc : parcels.hart.lap = none ∧ 1 ≤ (rx parcels 5).toNat ∧ (rx parcels 5).toNat ≤ 2 ^ 30 ∧ Unmoved parcels ∧
    (rx parcels 0).toNat = 0 ∧
    poolFree parcels (65536 * (((rx parcels 5).toNat + 65535) / 65536)) = some 0x800000 ∧ TableApart parcels freeWin 0x800000 65536 ∧
    (∀ x, ¬ Chosen parcels 3 x) ∧ poolFree parcels (65536 * 5) = none := by
  refine ⟨rfl, by decide, by decide, unmoved_of rfl, rfl, by decide +kernel, by unfold TableApart; decide +kernel, ?_, by decide +kernel⟩
  rintro x ⟨hx, ⟨h6, _, hl⟩, _⟩
  rw [parcels_windows.1] at hx
  rcases List.mem_cons.mp hx with rfl | hx
  · exact absurd hl (by decide)
  · obtain rfl := List.mem_singleton.mp hx
    exact absurd h6 (by decide)

theorem witness_parcelPointers : (rx parcels 4).toNat % 8 = 0 ∧ (rx parcels 4).toNat < 2 ^ 55 ∧ ParcelOver parcels 0x21000008 (some parcelWin) ∧
    Placed parcels 1 0x21000008 0x820008 ∧ ReadServed parcels 0x21000008 0x820008 8 ∧
    (parcelWin.base ≤ (rx parcels 6).toNat ∧ (rx parcels 6).toNat < parcelWin.base + 65536 * parcelWin.psize) ∧
    rx parcels 0 = 0 ∧ ¬ (parcelWin.base ≤ (rx parcels 5).toNat) ∧ ParcelOver parcels 0x2000 none ∧ CanTrap parcels ∧
    littleEndian (seenBytes parcels 0x21000008 0x820008 8) < 2 ^ 63 := by
  refine ⟨by decide, by decide, ?_, ⟨by rfl, by rfl⟩, ⟨by rfl, rfl, fun _ => by rfl, clean_readable _ _ _ rfl⟩, by decide, by decide, by decide, ?_,
    ⟨rfl, by decide⟩,
    by decide +kernel⟩
  all_goals
    unfold ParcelOver
    rw [parcels_windows.1]
    decide +kernel

/-- A pointer of a parcel, stored in it. -/
def pointing : State := { parcels with memory := mput (mput parcels.memory 0x820008 0x10) 0x82000F 0x80 }

theorem witness_storedPointer : 2 ^ 63 ≤ littleEndian (seenBytes pointing 0x21000008 0x820008 8) ∧
    littleEndian (seenBytes pointing 0x21000008 0x820008 8) / 2 ^ 40 % 2 ^ 23 = 0 ∧
    littleEndian (seenBytes pointing 0x21000008 0x820008 8) % 2 ^ 40 < 65536 * parcelWin.psize := by decide +kernel

theorem witness_parcelPost : ParcelAt parcels (rx parcels 7).toNat parcelWin ∧ (rx parcels 8).toNat < 2 ^ 32 ∧
    (rx parcels 8).toNat / 2 ^ 14 % 4 = 0 ∧ 2 ^ 32 ≤ (-1 : Word).toNat ∧ 16 ≤ Channel.incomplete { next := 20 } ∧
        Channel.incomplete ((parcels.hart.chan[(rx parcels 8).toNat / 2 ^ 12 % 4]?).getD {}) < 16 ∧
    (∃ u, publishCounted parcels = (u, true) ∧ u.memory.wf = true) ∧ ∀ x, ¬ ParcelAt parcels (rx parcels 5).toNat x := by
  refine ⟨?_, by decide, by decide, by decide, by decide, by decide, ⟨_, rfl, by decide +kernel⟩, ?_⟩
  · unfold ParcelAt
    rw [parcels_windows.1]
    decide +kernel
  · intro x
    unfold ParcelAt
    rw [parcels_windows.1, show (freeWin :: [parcelWin]).find? (fun y => (y.state == 1 || y.state == 4 || y.state == 5) &&
      y.asid == asidOf parcels.hart.ptroot && y.base == (rx parcels 5).toNat) = none by decide +kernel]
    exact nofun

/-- A port without room for a parcel, and the ways of a post: to this module, to one that is reached, to one that is not. -/
theorem witness_hand : portFull parcels ((rx parcels 8).toNat % 4096 * 2 ^ 44) (65536 * parcelWin.psize) = false ∧
    portFull { small with membership := 3, ports := [(0, { state := 3, replay := .replicate 2048 ⟨0, 1⟩ })] } (1 * 2 ^ 44) 65536 = true ∧
    (0 : Nat) = small.regs.modid % 4096 ∧ (1 : Nat) ≠ small.regs.modid % 4096 ∧
    unreachableFor { small with membership := 3, ports := [(0, { state := 3 })] } (1 * 2 ^ 44) (flitsOf 65536) = none ∧
    unreachableFor small (1 * 2 ^ 44) (flitsOf 65536) = some 4 := by decide +kernel

theorem witness_accept : parcels.arrived.find? (fun q => (tget parcels.arrq q.queue {}).en &&
      (tget parcels.arrq q.queue {}).asid == asidOf parcels.hart.ptroot) = some ⟨77, 3, 0x810000, 2⟩ ∧ Chosen parcels 2 freeWin ∧ (2 : Nat) < 2 ^ 15 ∧
    ∀ q ∈ small.arrived, ¬ ((tget small.arrq q.queue {}).en = true ∧ (tget small.arrq q.queue {}).asid = asidOf small.hart.ptroot) :=
  ⟨by decide +kernel, parcels_chosen (by decide), by decide, nofun⟩

/-- A parcel on its way to module 6 from window 2, and one received and not confirmed. -/
def sending : State :=
  { parcels with
    transit := [⟨2 * 2 ^ 40 + 5, 2, 3, 6, 1, 4, 9⟩], incoming := [⟨99, 3, 0x800000, 1⟩], regs := { parcels.regs with errb := 0x600000 }
    hart := { parcels.hart with ctxid := 9 } }

/-- A parcel for the own module, which its queue takes. -/
def homing : State := { sending with transit := [⟨2 * 2 ^ 40 + 5, 2, 3, 0, 1, 4, 9⟩] }

theorem witness_ownDelivery : homing.transit.find? (fun p => p.handle == 2 * 2 ^ 40 + 5) = some ⟨2 * 2 ^ 40 + 5, 2, 3, 0, 1, 4, 9⟩ ∧
    (0 : Nat) = homing.regs.modid % 4096 ∧ refusal homing 3 parcelWin.psize = none ∧ poolFree homing (65536 * parcelWin.psize) = some 0x800000 ∧
    TableApart homing parcelWin (localPA homing 0x800000) 65536 ∧ refusal homing 4 parcelWin.psize = some 7 := by
  refine ⟨by decide, by decide, by decide +kernel, by decide +kernel, ?_, by decide +kernel⟩
  unfold TableApart
  decide +kernel

theorem witness_confirmations : homing.memory.wf = true ∧ Unmoved homing ∧ homing.hart.run = .running ∧ homing.hart.ctxid = 9 ∧
    readWindow homing 2 = parcelWin ∧ parcelHandle homing parcelWin = 2 * 2 ^ 40 + 5 ∧ (tget sending.arrq 3 {}).en = true ∧
    (tget { sending with arrq := [] }.arrq 3 {}).en = false := by
  refine ⟨by decide +kernel, unmoved_of rfl, rfl, rfl, by decide +kernel, by decide +kernel, by decide, by decide⟩

theorem witness_deliveries : Unmoved sending ∧ sending.memory.wf = true ∧ 2 < 4096 ∧ 1 < 4 ∧
    sending.transit.find? (fun p => p.handle == 2 * 2 ^ 40 + 5) = some ⟨2 * 2 ^ 40 + 5, 2, 3, 6, 1, 4, 9⟩ ∧
    readWindow sending 2 = parcelWin ∧ parcelHandle sending parcelWin = 2 * 2 ^ 40 + 5 ∧ sending.hart.run = .running ∧
    sending.hart.ctxid = 9 ∧ (6 : Nat) ≠ sending.regs.modid % 4096 ∧ (255 < 256) ∧
    (mgetN sending.memory 0x604800 8 + 2 ^ 64 - mgetN sending.memory 0x604808 8) % 2 ^ 64 ≠ 63 ∧
    windowAddr sending 2 + 32 ≤ 0x604800 ∧ localPA sending (sending.regs.errb.toNat + 2048 * (9 % 65536)) = 0x604800 ∧
    sending.incoming.find? (fun q => q.handle == 99) = some ⟨99, 3, 0x800000, 1⟩ ∧ ∀ t ∈ sending.transit, t.handle ≠ 99 :=
  ⟨unmoved_of rfl, by decide +kernel⟩

/-! Witnesses for the statements about the matrix array and the links. -/

/-- The hart holds the array; rows of 16 elements of u8. -/
def array : State :=
  holds [(4, 0x2000), (5, 256), (6, 0x3F), (7, 0x10000)] { small with
    hart := { small.hart with bshape := 0x100010010, vtype := 4 }, core := { small.core with claimant := some 0 } }

theorem array_ready : BrickReady array ∧ HoldsArray array ∧ array.core.acc.wf = true :=
  ⟨⟨rfl, ⟨by decide, by decide, rfl, rfl⟩, by decide⟩, ⟨rfl, by decide⟩, rfl⟩

theorem witness_arrayState : array.hart.lap = none ∧ (31 < 32 ∧ 3 < 4) ∧ small.core.claimant = none ∧
    small.core.lastAsid ≠ some (asidOf small.hart.ptroot) ∧
    { small.core with lastAsid := some 0 }.lastAsid = some (asidOf small.hart.ptroot) ∧ array.core.claimant = some array.hart.idx ∧
    count small * elemSize small ≤ 256 * small.hart.lanes ∧ wellFormed (.mfmt 31 3) = true ∧ claimantForm (.mfmt 31 3) = true ∧
    CanTrap small ∧ small.core.claimant ≠ some small.hart.idx :=
  ⟨rfl, by decide, rfl, by decide, by decide, rfl, by decide, rfl, rfl, ⟨rfl, by decide⟩, by decide⟩

/-- A block of equal bytes. -/
theorem mget_block (b v n : Nat) (w : Byte) (a : Nat) : mget ((List.range' v n).map fun k => (b + k, w)) a =
    if b + v ≤ a ∧ a < b + v + n then w else 0 := by
  induction n generalizing v with
  | zero => simp [mget]
  | succ n ih =>
    rw [List.range'_succ, List.map_cons, mget]
    have := ih (v + 1)
    simp only [this]
    repeat' split
    all_goals first | rfl | omega

/-- The bytes of a sparse tile with pitch 256 whose groups keep their first two positions. -/
def sparse : State := { array with memory := (List.range' 0 512).map fun k => (0x4000 + k, 0x44) }
def sparseByte (o : Nat) : Byte := if 0x2000 ≤ o ∧ o < 0x2200 then 0x44 else 0

theorem sparse_seen (o : Nat) : [sparseByte o] = engineSeen sparse (0x2000 + o) (0x2000 + o) 1 := by
  have h : engineSeen sparse (0x2000 + o) (0x2000 + o) 1 = [mget sparse.memory (0x2000 + o)] := rfl
  rw [h, sparse, mget_block]
  simp only [sparseByte]
  congr 2
  simp only [eq_iff_iff]
  omega

theorem offset_small {o : Nat} : o ∈ tileOffsets 0 0 256 → o < 2 ^ 20 := by
  have h : (tileOffsets 0 0 256).all (fun o => decide (o < 2 ^ 20)) = true := by decide +kernel
  exact fun ho => of_decide_eq_true (List.all_eq_true.mp h o ho)

theorem offset_small_sparse {o : Nat} : o ∈ tileOffsets 0 1 256 → o < 2 ^ 20 := by
  have h : (tileOffsets 0 1 256).all (fun o => decide (o < 2 ^ 20)) = true := by decide +kernel
  exact fun ho => of_decide_eq_true (List.all_eq_true.mp h o ho)

/-- The bytes of a tile are read. -/
theorem tile_reads {s : State} {base pitch code sp : Nat} {byte : Nat → Byte} (h0 : Plain s) (hp : TilePitch code pitch) (hb : base % 16 = 0)
    (ho : ∀ o ∈ tileOffsets code sp pitch, base + o < 2 ^ 29) (hv : ∀ o, [byte o] = engineSeen s (base + o) (base + o) 1) :
    TileReads s base pitch code sp (base + ·) byte :=
  ⟨hp, hb, all_along (step := engineStep (base + ·)) (fun _ _ hu => plain_request _ _ _ hu) (fun u hu o h =>
    ⟨plain_placed hu 0 (ho o h) (by simp), plain_engineReadable hu _ _ _ _⟩) _ _ h0, fun o h => ⟨by have := ho o h; omega, hv o⟩⟩

theorem array_plain : Plain array ∧ Plain sparse := by unfold Plain PlainBut; decide +kernel

theorem witness_tile : wellFormed (.wld 4 0 0 5 1) = true ∧ array.hart.lap = none ∧ array.core.claimant = some array.hart.idx ∧
    TileReads array (rx array 4).toNat (rx array 5).toNat 0 0 (0x2000 + ·) (fun _ => 0) ∧ ValidMetadata (fun _ => 0) 0 256 :=
  ⟨rfl, rfl, rfl, tile_reads array_plain.1 ⟨by decide, by decide, by decide⟩ (by decide) (fun o ho => by
    have := offset_small ho
    show 0x2000 + o < _
    omega) (fun o => rfl), fun h => absurd h (by decide)⟩

theorem witness_sparseTile : wellFormed (.wld 4 0 1 5 0) = true ∧ BrickReady sparse ∧
    TileReads sparse (rx sparse 4).toNat (rx sparse 5).toNat 0 1 (0x2000 + ·) sparseByte ∧ ValidMetadata sparseByte 1 256 :=
  ⟨rfl, ⟨rfl, ⟨by decide, by decide, rfl, rfl⟩, by decide⟩, tile_reads array_plain.2 ⟨by decide, by decide, by decide⟩ (by decide)
    (fun o ho => by
      have := offset_small_sparse ho
      show 0x2000 + o < _
      omega) sparse_seen, fun _ => by decide +kernel⟩

/-- A wld in flight. -/
def tileEntry : Entry :=
  { entry with w1 := 0x9C010016, lap := none, cap := { Machine.capture array ⟨0, 0, 0⟩ ⟨0, 0, 0⟩ 0 0 0 0x2000 256 with sc1 := 0x2000, sc2 := 256 } }
def latching : State := { array with hart := { array.hart with inflight := [tileEntry] } }

theorem witness_tileArrives : latching.hart.run = .running ∧ latching.hart.inflight = [tileEntry] ∧ tileEntry.pair = false ∧
    (∃ xs xp tile, decodeWord tileEntry.w1 = .ok (.wld xs 0 0 xp tile)) ∧ tileEntry.cnt.headD 0 = 0 ∧
    TileReads latching tileEntry.cap.sc1.toNat tileEntry.cap.sc2.toNat 0 0 (0x2000 + ·) (fun _ => 0) :=
  ⟨rfl, rfl, rfl, ⟨4, 5, 1, by decide⟩, rfl, tile_reads array_plain.1 ⟨by decide, by decide, by decide⟩ (by decide) (fun o ho => by
    have := offset_small ho
    show 0x2000 + o < _
    omega) (fun o => rfl)⟩

theorem witness_heldTile : { latching with hart := { latching.hart with held := some fault } }.hart.held.isSome = true ∧ latching.hart.held = none :=
  ⟨rfl, rfl⟩

/-- Tiles that fault: one with a misaligned base, one at an address that no table maps, one with a byte that is lost, one whose metadata are all
zero. -/
def lostTile : State := { array with badBytes := [0x2005] }

theorem lost_placed {a : Nat} (ha : a < 2 ^ 29) : Placed lostTile 0 a a :=
  ⟨block_locates rfl rfl 0 a ha, reaches_here rfl rfl a ha⟩

theorem witness_badTiles : TilePitch 0 256 ∧ (rx (holds [(4, 0x2008)] array) 4).toNat % 16 ≠ 0 ∧
    (0 ∈ tileOffsets 0 0 256 ∧ servedIndex 0 0 256 0 = 0) ∧ AddressFaults bare 0 1 0x2000 { cause := 6 } ∧
    (∀ q ∈ tileOffsets 0 0 256, 0x2000 + q < 2 ^ 55 ∧ paModule (0x2000 + q) = ownModule lostTile ∧ Placed lostTile 0 (0x2000 + q) (0x2000 + q)) ∧
    (5 ∈ tileOffsets 0 0 256 ∧ servedIndex 0 0 256 5 = 1 ∧ uncorrectable lostTile 0x2005 1 = true ∧ uncorrectable lostTile 0x2004 1 = false) ∧
    TileReads array (rx array 4).toNat (rx array 5).toNat 0 1 (0x2000 + ·) (fun _ => 0) ∧
    (positions (fun _ => 0) 256 0 0).2 ≤ (positions (fun _ => 0) 256 0 0).1 := by
  refine ⟨⟨by decide, by decide, by decide⟩, by decide, ⟨by decide +kernel, by decide⟩, .inr (.inr ⟨by decide, by decide, by decide, by rfl⟩),
    fun q hq => ⟨?_, ?_, lost_placed (by have := offset_small hq; omega)⟩, ⟨by decide +kernel, by decide, by decide, by decide⟩, tile_reads array_plain.1 ⟨by decide, by decide, by decide⟩ (by decide) (fun o ho => ?_)
      (fun o => rfl), by decide⟩
  · have := offset_small hq
    omega
  · have := offset_small hq
    show (0x2000 + q) / 2 ^ 44 % 4096 = 0
    omega
  · have := offset_small_sparse ho
    show 0x2000 + o < _
    omega

theorem witness_tilePitch : (rx small 0).toNat < 8 * (codeElem 0).width ∧ (rx (holds [(4, 255)] small) 4).toNat % 16 ≠ 0 ∧
    2 ^ 32 ≤ (rx (holds [(4, 0x100000000)] small) 4).toNat ∧ CanTrap small := ⟨by decide, by decide, by decide, rfl, by decide⟩

/-- A format with block scales: codes of 4 bits, one scale for 32. -/
def scaled : State := { array with core := { array.core with afmt := #v[0, 0, 0, 16], w0 := { code := 16 } } }

theorem witness_mrow : wellFormed (.mrow 1 3 6 1 0) = true ∧ MrowFits array (rx array 6) 0 1 ∧ MrowFits scaled (rx scaled 6) 16 30 ∧
    ¬ MrowFits scaled (rx scaled 6) 16 31 ∧ ¬ MrowFits array (rx array 7) 0 1 ∧ ¬ MrowFits array (rx array 6) 16 1 := by
  unfold MrowFits PackedFits
  decide +kernel

/-- A condition that a statement asks for. -/
structure Meets (p : Prop) : Prop where
  all : p

theorem reads_of {s : State} (h0 : Plain s) {els : List Nat} {va : Nat → Nat} (h : ∀ e ∈ els, va e < 2 ^ 29) (n kind : Nat) :
    Meets (Reads s els va va n kind) :=
  ⟨all_along (plain_read _ _ _ _) (fun _ hu e he => read_served hu (plain_placed hu 0 (h e he) (by simp)) n) _ _ h0⟩

theorem writes_of {s : State} (h0 : Plain s) {els : List Nat} {va : Nat → Nat} (h : ∀ e ∈ els, va e < 2 ^ 29) (bs : Nat → List Byte) (kind : Nat) :
    Meets (Writes s els va va bs kind) :=
  ⟨all_along (plain_write _ _ _ _) (fun _ hu e he => plain_placed hu 1 (h e he) (by simp)) _ _ h0⟩

/-- The 64 bytes of a stream register read and written. -/
theorem witness_streamMoves : Meets (Reads counting (List.range 8) (0x2000 + 8 * ·) (0x2000 + 8 * ·) 8 1) ∧
    Meets (Writes counting (List.range 8) (0x2000 + 8 * ·) (0x2000 + 8 * ·)
      (fun k => storedBytes 8 (streamBits (streamOf counting 2) (64 * k) 64)) 1) :=
  ⟨reads_of counting_ready.2.2.1 near 8 1, writes_of counting_ready.2.2.1 near _ 1⟩
where
  near : ∀ k ∈ List.range 8, 0x2000 + 8 * k < 2 ^ 29 := fun k hk => by have := List.mem_range.mp hk; omega

theorem places_small (tr e n : Nat) (hn : n ≤ 4) (h : e ∈ List.range 4096) : accPlace 0x2000 256 n tr e < 2 ^ 29 := by
  have := List.mem_range.mp h
  have h1 : e % 64 * n ≤ 63 * 4 := Nat.mul_le_mul (by omega) hn
  have h2 : e / 64 * n ≤ 63 * 4 := Nat.mul_le_mul (by omega) hn
  simp only [accPlace]
  split <;> omega

theorem witness_accumulators : PitchFits 4 (rx array 5).toNat ∧ (rx array 4).toNat % 4 = 0 ∧ PitchFits (etypeSize 9) 256 ∧ CanTrap array ∧
    ¬ PitchFits 4 (rx array 4 - 0x1F08).toNat ∧ ¬ PitchFits (etypeSize 11) 258 ∧
    Meets (Reads array (List.range 4096) (accPlace 0x2000 256 4 0) (accPlace 0x2000 256 4 0) 4 1) ∧
    Meets (Writes array (List.range 4096) (accPlace 0x2000 256 1 1) (accPlace 0x2000 256 1 1)
      (fun e => storedBytes 1 (stored 0 (accOf array 1 (e / 64) (e % 64))).1) 1) := by
  refine ⟨⟨by decide, by decide, by decide⟩, by decide, ⟨by decide, by decide, by decide⟩, ⟨rfl, by decide⟩, ?_, ?_,
    reads_of array_plain.1 (places_small 0 · 4 (by decide)) 4 1, writes_of array_plain.1 (places_small 1 · 1 (by decide)) _ 1⟩
  · unfold PitchFits; decide
  · unfold PitchFits; decide

/-- Row 0 of an accumulator, whose element 1 lies at a misaligned address when its elements are written in rows of an odd base. -/
theorem witness_accumulatorFault : PitchFits 4 256 ∧ accPlace 0x2002 256 4 0 0 % 4 ≠ 0 ∧ rowsBelow 0 = [] ∧
    (∀ e, ((fun e => if e < 64 then some ({ cause := 3 } : AccFault) else none) e).isSome = true → e < 4096 ∧ e / 64 = 0) ∧
    LowestOf (fun e => if e < 64 then some ({ cause := 3 } : AccFault) else none) (fun _ => True) 0 { cause := 3 } ∧
    ∀ u e, e < 64 → AddressFaults u 1 4 (accPlace 0x2002 256 4 0 e : Nat) { cause := 3 } := by
  refine ⟨⟨by decide, by decide, by decide⟩, by decide, rfl, fun e h => ?_, ⟨rfl, trivial, fun y _ _ => by omega⟩, fun u e h => .inl ⟨?_, rfl⟩⟩
  · by_cases h1 : e < 64
    · exact ⟨by omega, by omega⟩
    · simp [h1] at h
  · simp only [accPlace, if_neg (show ¬ (0 : Nat) = 1 by decide)]
    omega

/-- One row named, and one that waits in the channel from the north. -/
def linked : State :=
  holds [(4, 0x100000000), (5, 0x100000), (6, 0x200000000), (8, 8)] { array with
    core := { array.core with links := [⟨0, 0, List.replicate 16 7⟩] } }

/-- The same, where the row that waits is of another length. -/
def unequal : State := { linked with core := { linked.core with links := [⟨0, 0, List.replicate 8 7⟩] } }

theorem witness_linkSend : wellFormed (.nlsend 3 4 5 0) = true ∧ linked.hart.lap = none ∧ RowsFit linked (rx linked 4) ∧
    beside linked 0 = some 48 ∧ beside linked 1 = none ∧
    channelLoad linked 48 (arrivalSide 0) 0 + (linkCount (rx linked 4) - 1) * (extent linked.hart.bshape 0 * elemSize linked) < 256 ∧
    ¬ RowsFit linked (rx linked 6) ∧ CanTrap linked := by
  refine ⟨rfl, rfl, ?_, by decide, by decide, by decide, ?_, ⟨rfl, by decide⟩⟩ <;> unfold RowsFit <;> decide

theorem witness_linkReceive : wellFormed (.nlrecv 3 4 8 0) = true ∧ BrickReady linked ∧ 1 ≤ extent linked.hart.bshape 0 ∧
    RowsFit linked (rx linked 4) ∧ (beside linked 0).isSome = true ∧ linkCount (rx linked 4) ≤ (waitingRows linked 0).length ∧
    (∀ r ∈ (waitingRows linked 0).take (linkCount (rx linked 4)), r.bytes.length = extent linked.hart.bshape 0 * elemSize linked) ∧
    elemSize linked ≤ (rx linked 5).toNat / 2 ^ 16 % 512 ∧
    (rx linked 5).toNat % 16384 + (rx linked 5).toNat / 2 ^ 16 % 512 * ((count linked + linked.hart.lanes - 1) / linked.hart.lanes) ≤ 16384 ∧
    (48 : Nat) ≠ linked.hart.coreNo ∧ ((waitingRows unequal 0)[0]?.map fun r => r.bytes.length) = some 8 := by
  refine ⟨rfl, ⟨rfl, ⟨by decide, by decide, rfl, rfl⟩, by decide⟩, by decide, ?_, by decide, by decide, by decide, by decide, by decide, by decide,
    by decide⟩
  unfold RowsFit
  decide

/-! Witnesses for the statements about the copy engine and the routing engine. -/

/-- A descriptor from its fields: lowest bit and value. -/
def fields (w : Nat) (fs : List (Nat × Nat)) : BitVec w := BitVec.ofNat w (fs.map fun p => p.2 * 2 ^ p.1).sum

/-- Two elements of 4 bytes from 0x2000 to a destination, with a counter at 0x2800. -/
def copyTo (dest : Nat) : BitVec 1536 := fields 1536 [(0, 0x2000), (64, dest), (128, 4), (384, 4), (640, 2), (656, 1), (672, 1), (688, 1),
  (704, 2), (736, 1), (768, 1), (800, 1), (1024, 2), (1032, 1), (1088, 0x2800)]

def aCopy (id dest : Nat) : Copy := ⟨id, copyTo dest, false, 0x1000, 0, 0⟩

/-- A channel at work, and one that waits for the repair of a fault. -/
def busy : Channel := { next := 9, w := 7, st := .running, queue := [aCopy 7 0x3000, aCopy 8 0x3001] }
def broken : Channel := { busy with st := .faulted, cause := 3, acc := 1, addr := 0x3000 }
def copying (dest : Nat) : State := withChannel (holds [(4, 0x2000), (5, 7), (6, 6)] small) 3 { busy with queue := [aCopy 7 dest] }

/-- Accesses of an engine from such a state stay translated. -/
theorem steady_of {s : State} (h : Plain s) (priv : Bool) (acc va : Nat) (W : Nat → Prop) (ha : va < 2 ^ 29) :
    SteadyBy (engineSees s priv) s acc va va W := fun u hu => by
  have hp : Plain u := by rw [hu.2.2]; exact h
  rw [view_translates hp (plain_core h) acc va ha, in_time hp (by simp)]
  rfl

theorem copying_plain (dest : Nat) : Plain (copying dest) := ⟨rfl, rfl, rfl, ⟨rfl, rfl⟩, rfl, rfl, rfl, rfl⟩

theorem copying_places : copied (copyTo 0x3000) 2 = [0, 1] ∧ readsSource (copyTo 0x3000) 0 = true ∧ readsSource (copyTo 0x3000) 1 = true ∧
    sourcePlace (copyTo 0x3000) 0 = 0x2000 ∧ sourcePlace (copyTo 0x3000) 1 = 0x2004 ∧
    destPlace (copyTo 0x3000) 0 = 0x3000 ∧ destPlace (copyTo 0x3000) 1 = 0x3004 ∧ tileCount (copyTo 0x3000) = 2 ∧
    tileSize (copyTo 0x3000) = 4 := by decide +kernel

theorem witness_copyForms : (31 < 32 ∧ 3 < 4 ∧ small.hart.lap = none) ∧ (rx (copying 0) 4).toNat % 64 = 0 ∧ CanTrap (copying 0) ∧
    Meets (Reads (copying 0) (List.range 24) (0x2000 + 8 * ·) (0x2000 + 8 * ·) 8 1) ∧
    (rx (copying 0) 5).toNat % 64 ≠ 0 ∧ 16 ≤ Channel.incomplete { busy with next := 23 } ∧
    busy.incomplete < 16 ∧ HullsMeet (copyTo 0x2004) ∧ ¬ HullsMeet (copyTo 0x3000) ∧ (rx (copying 0) 6).toNat < busy.w ∧
    busy.w ≤ (rx (copying 0) 5).toNat ∧ (rx (copying 0) 5).toNat ≠ 0 ∧ broken.st = .faulted ∧
    broken.queue = aCopy 7 0x3000 :: [aCopy 8 0x3001] ∧ (aCopy 7 0x3000).id ≤ (rx (copying 0) 5).toNat ∧ broken.reported = false ∧
    broken.po = false ∧ { broken with reported := true }.reported = true ∧ statusWord busy 6 ≠ 1 ∧
    statusWord { busy with stats := [(6, 1)] } 6 = 1 := by
  refine ⟨⟨by decide, by decide, rfl⟩, by decide, ⟨rfl, by decide⟩,
    reads_of (copying_plain 0) (fun e he => by have := List.mem_range.mp he; omega) 8 1, by decide, by decide, by decide, ?_, ?_, by decide,
        by decide, by decide, rfl, rfl, by decide, rfl, rfl, rfl, by decide, by decide⟩
  all_goals
    unfold HullsMeet
    decide +kernel

theorem ports_last {s : State} (h : s.ports = []) : PortsLast s := fun p => .inr (by simp [portOf, h, tget])

/-- Nothing keeps an engine from writing such a state: no page moves, no line has a shadow, no request waits, the port has room. -/
theorem plain_unwaiting {s : State} (h : Plain s) (hs : s.shadows = []) (hr : s.hart.request = none) {pa : Nat} (ha : pa < 2 ^ 29) (n : Nat) :
    engineWaits s pa n = false := by
  simp [engineWaits, plain_still h, plain_room h ha, unblocked hs, hr]

/-- An element of copying whose places are legal. -/
theorem copy_reads {dest e a : Nat} (h : sourcePlace (copyTo dest) e = a) (hn : tileSize (copyTo dest) = 4) (ha : a % 4 = 0 ∧ a < 2 ^ 29) :
    CopyReads (copying dest) (aCopy 7 dest) e fun _ => a := fun _ => by
  simp only [aCopy, h, hn]
  exact ⟨by omega, by omega, by omega, steady_of (copying_plain dest) _ _ _ _ ha.2, plain_engineReadable (copying_plain dest) _ _ _ _,
    plain_room (copying_plain dest) ha.2 0⟩

theorem copy_aims {dest e a : Nat} (h : destPlace (copyTo dest) e = a) (hn : tileSize (copyTo dest) = 4) (ha : a % 4 = 0 ∧ a < 2 ^ 29) :
    CopyAims (copying dest) (aCopy 7 dest) e fun _ => a := by
  simp only [CopyAims, aCopy, h, hn]
  exact ⟨by omega, by omega, by omega, plain_unwaiting (copying_plain dest) rfl rfl ha.2 _, steady_of (copying_plain dest) _ _ _ _ ha.2⟩

theorem witness_copies : (copying 0x3000).memory.wf = true ∧ (copying 0x3000).hart.run = .running ∧ PortsLast (copying 0x3000) ∧
    (channel (copying 0x3000) 3).st = .running ∧ (channel (copying 0x3000) 3).queue = [aCopy 7 0x3000] ∧
    (aCopy 7 0x3000).start = bitsAt (aCopy 7 0x3000).desc 1152 64 ∧
    (∀ e ∈ copied (copyTo 0x3000) 2, CopyReads (copying 0x3000) (aCopy 7 0x3000) e (fun e => 0x2000 + 4 * e) ∧
      CopyAims (copying 0x3000) (aCopy 7 0x3000) e fun e => 0x3000 + 4 * e) ∧
    (∀ W, ∀ e ∈ copied (copyTo 0x3000) 2,
      SteadyBy (engineSees (copying 0x3000) false) (copying 0x3000) 1 (destPlace (copyTo 0x3000) e).toNat (0x3000 + 4 * e) W) ∧
    bitsAt (copyTo 0x3000) 1088 55 % 8 = 0 ∧ uncorrectable (copying 0x3000) 0x2800 8 = false ∧
    ∀ W, SteadyBy (engineSees (copying 0x3000) false) (copying 0x3000) 3 0x2800 0x2800 W := by
  obtain ⟨h0, -, -, hs0, hs1, hd0, hd1, -, hn⟩ := copying_places
  refine ⟨by decide, rfl, ports_last rfl, by decide, by decide +kernel, by decide +kernel, fun e he => ?_, fun W e he => ?_, by decide +kernel, rfl,
    fun W => steady_of (copying_plain _) _ _ _ _ (by decide)⟩ <;> rw [h0] at he <;> rcases List.mem_cons.mp he with rfl | he
  · exact ⟨copy_reads hs0 hn (by decide), copy_aims hd0 hn (by decide)⟩
  · obtain rfl := List.mem_singleton.mp he
    exact ⟨copy_reads hs1 hn (by decide), copy_aims hd1 hn (by decide)⟩
  · rw [hd0]
    exact steady_of (copying_plain _) _ _ _ _ (by decide)
  · obtain rfl := List.mem_singleton.mp he
    rw [hd1]
    exact steady_of (copying_plain _) _ _ _ _ (by decide)

theorem witness_copyStops : 0 ∈ copied (copyTo 0x3001) 2 ∧ copied (copyTo 0x3001) 0 = [] ∧ destPlace (copyTo 0x3001) 0 % tileSize (copyTo 0x3001) ≠ 0 ∧
    CopyReads (copying 0x3001) (aCopy 7 0x3001) 0 fun _ => 0x2000 :=
  ⟨by decide +kernel, by decide +kernel, by decide +kernel, copy_reads (by decide +kernel) (by decide +kernel) (by decide)⟩

/-- One token of one choice, for expert 0 with gate 1.0; rows of 4 bytes; the tables from 0x2000 on, an expert of capacity 1. -/
def routes (combine : Bool) (pages : Nat) : RouteOp :=
  { num := 5, combine, priv := false, pc := 0x1000
    desc := fields 1024 [(0, pages), (64, 0x3000), (128, 0x2800), (192, 0x2A00), (256, 0x2900), (320, 0x2B00), (384, 0x3800), (448, 4), (512, 4),
      (576, 1), (608, 8), (640, 1), (672, 1), (704, 4), (768, 4)] }
def routing (combine : Bool) : State :=
  { small with
    memory := [(0x2006, 0x80), (0x2007, 0x3F), (0x2801, 0x40), (0x2809, 0x50), (0x2810, 1), (0x3002, 0x80), (0x3003, 0x3F), (0x5002, 0x80),
      (0x5003, 0x3F)]
    hart := { small.hart with rop := some (routes combine 0x2000) } }

/-- The same after its end: all choices fitted, or three were dropped; and after a fault. -/
def routedWith (op : RouteOp) : State :=
  holds [(4, 0x2000), (5, 2)] { small with hart := { small.hart with rop := some op, rdisp := some op, rdesc := op.desc } }
def routingDone : RouteOp := { routes false 0x2000 with st := .done, drops := 3 }
def routingFailed : RouteOp := { routes false 0x2000 with st := .faulted, cause := 3 }

theorem routed_plain : Plain (routedWith routingDone) := ⟨rfl, rfl, rfl, ⟨rfl, rfl⟩, rfl, rfl, rfl, rfl⟩

theorem witness_routingForms : (31 < 32 ∧ small.hart.lap = none) ∧ Routing (routing false) ∧ ¬ Routing (routedWith routingDone) ∧
    ¬ Routing small ∧ (rx (routedWith routingDone) 4).toNat % 64 = 0 ∧ (rx (routedWith routingDone) 5).toNat % 64 ≠ 0 ∧
    CanTrap (routedWith routingDone) ∧ Routable (routes false 0x2000).desc false ∧ Routable (routes true 0x2000).desc true ∧ ¬ Routable 0 false ∧
    (routedWith routingDone).hart.rop = some routingDone ∧ routingDone.st = .done ∧ routingFailed.st = .faulted ∧
    routingFailed.reported = false ∧ routingFailed.po = false ∧ { routingFailed with reported := true }.reported = true ∧
    small.hart.rop = none ∧ small.hart.rdisp = none ∧ (routedWith routingDone).hart.rdisp = some routingDone ∧ ¬ Routing (routedWith routingFailed) ∧
    (rx (routedWith routingDone) 5).toNat < routingDone.drops ∧ routingDone.drops ≤ (rx (routedWith routingDone) 4).toNat ∧
    bitsAt routingDone.desc 320 55 + 8 * 2 = 0x2B10 ∧
    Machine.translate (hartView (routedWith routingDone)) 0 0x2B10 (routedWith routingDone) = (routedWith routingDone, .ok 0x2B10) ∧
    Readable (routedWith routingDone) 0x2B10 0x2B10 8 ∧
    Meets (Reads (routedWith routingDone) (List.range 16) (0x2000 + 8 * ·) (0x2000 + 8 * ·) 8 1) := by
  refine ⟨⟨by decide, rfl⟩, ⟨_, rfl, rfl⟩, ?_, ?_, by decide, by decide, ⟨rfl, by decide⟩, ?_, ?_, ?_, rfl, rfl, rfl, rfl, rfl, rfl, rfl, rfl, rfl,
    ?_, by decide, by decide, by decide +kernel, by rfl, plain_readable (ds := []) routed_plain _ _ _,
    reads_of routed_plain (fun e he => by have := List.mem_range.mp he; omega) 8 1⟩
  · rintro ⟨op, h, h'⟩; cases h; cases h'
  · rintro ⟨op, h, _⟩; cases h
  · unfold Routable; decide +kernel
  · unfold Routable; decide +kernel
  · unfold Routable; decide +kernel
  · rintro ⟨op, h, h'⟩; cases h; cases h'

/-- Whether reads and writes are aligned and inside the block, and nothing written is read or written twice. -/
def disjoint (rs : List (Nat × Nat)) (ws : List (Nat × Nat × Nat)) : Bool :=
  (rs.all fun r => r.1 % r.2 == 0 && decide (r.1 < 2 ^ 28) && ws.all fun w => decide (w.1 + w.2.1 ≤ r.1) || decide (r.1 + r.2 ≤ w.1)) &&
  (ws.all fun w => w.1 % w.2.1 == 0 && decide (w.1 < 2 ^ 28)) &&
  decide (ws.Pairwise fun w u => w.1 + w.2.1 ≤ u.1 ∨ u.1 + u.2.1 ≤ w.1)

theorem undisturbed_of {s : State} {priv : Bool} {reads : Nat → Nat → Prop} {rs : List (Nat × Nat)} {ws : List (Nat × Nat × Nat)} (h : Plain s)
    (hp : s.ports = []) (hs : s.shadows = []) (hq : s.hart.request = none) (hr : ∀ va n, reads va n → (va, n) ∈ rs) (hd : disjoint rs ws = true) :
    Undisturbed s (engineSees s priv) id reads ws := by
  have home : ∀ a, homeAddr s a = a := unmoved_of h.2.2.2.2.2.2.1
  have unwaiting : ∀ {pa : Nat}, pa < 2 ^ 29 → ∀ n, engineWaits s pa n = false := fun ha n => plain_unwaiting h hs hq ha n
  simp only [disjoint, Bool.and_eq_true, List.all_eq_true, Bool.or_eq_true, decide_eq_true_eq, beq_iff_eq] at hd
  refine ⟨ports_last hp, fun va n hv => ?_, fun w hw => ?_, ?_⟩
  · obtain ⟨⟨ha, hl⟩, hx⟩ := hd.1.1 _ (hr va n hv)
    simp only at ha hl hx
    refine ⟨ha, by omega, plain_engineReadable h _ _ _ _, steady_of h _ _ _ _ (by omega),
      plain_room h (show va < 2 ^ 29 by omega) 0, ?_⟩
    rintro i hi ⟨w, hwm, j, hj, e⟩
    simp only [id, home] at e
    have := hx w hwm
    omega
  · obtain ⟨ha, hl⟩ := hd.1.2 w hw
    exact ⟨ha, by omega, steady_of h _ _ _ _ (by omega), ha, unwaiting (by simp only [id]; omega) _, fun i _ => ⟨rfl, by simp only [id, home]⟩⟩
  · refine hd.2.imp fun h => ?_
    simp only [id, home]
    exact ⟨h, h⟩

theorem routing_plain (combine : Bool) : Plain (routing combine) := ⟨rfl, rfl, rfl, ⟨rfl, rfl⟩, rfl, rfl, rfl, rfl⟩

theorem one_choice {d : BitVec 1024} (h : choices d = 1) {p : Nat} (hp : p < choices d) : p = 0 := by omega

theorem witness_dispatch : (routing false).memory.wf = true ∧ (routing false).hart.run = .running ∧
    (routing false).hart.rop = some (routes false 0x2000) ∧ (routes false 0x2000).st = .running ∧ Routable (routes false 0x2000).desc false ∧
    (∀ p < choices (routes false 0x2000).desc, keptChoice (routing false) (routes false 0x2000).desc id p = true →
      0 ≤ sourceRow (routes false 0x2000).desc (p / slotsOf (routes false 0x2000).desc)) ∧
    Undisturbed (routing false) (engineSees (routing false) false) id (DispatchReads (routing false) (routes false 0x2000).desc id)
      (dispatchWrites (routing false) (routes false 0x2000).desc id) := by
  refine ⟨by decide, rfl, rfl, rfl, by unfold Routable; decide +kernel, by decide +kernel, ?_⟩
  refine undisturbed_of (rs := [(0x2000, 8), (0x2800, 4), (0x2804, 4), (0x2810, 4), (0x3000, 4)]) (routing_plain false) rfl rfl rfl ?_ (by decide +kernel)
  intro va n hr
  have hn : ¬ bitsAt (routes false 0x2000).desc 684 1 = 1 := by decide +kernel
  simp only [DispatchReads, if_neg hn] at hr
  rcases hr with ⟨p, hp, h⟩ | ⟨x, hx, o, ho, h⟩ | ⟨p, hp, _, o, ho, h⟩
  · obtain rfl := one_choice (by decide +kernel) hp
    rw [h.1, h.2]
    decide +kernel
  · have he : experts (routes false 0x2000).desc = 1 := by decide +kernel
    obtain rfl : x = 0 := by omega
    have hb : bitsAt (routes false 0x2000).desc 128 55 = 0x2800 := by decide +kernel
    simp only [List.mem_cons, List.not_mem_nil, or_false] at ho
    rcases ho with rfl | rfl | rfl <;> rw [h.1, h.2, hb] <;> decide
  · obtain rfl := one_choice (by decide +kernel) hp
    rw [show rowUnits (routes false 0x2000).desc = [0] by decide +kernel] at ho
    obtain rfl := List.mem_singleton.mp ho
    rw [show sourceRow (routes false 0x2000).desc (0 / slotsOf (routes false 0x2000).desc) = 0x3000 by decide +kernel] at h
    rw [h.2, show va = 0x3000 by omega]
    decide

theorem witness_combine : Routable (routes true 0x2000).desc true ∧
    (∀ t < tokens (routes true 0x2000).desc, 0 ≤ outputRow (routes true 0x2000).desc t) ∧
    Undisturbed (routing true) (engineSees (routing true) false) id (CombineReads (routing true) (routes true 0x2000).desc id)
      (combineWrites (routing true) (routes true 0x2000).desc id) := by
  refine ⟨by unfold Routable; decide +kernel, by decide +kernel, ?_⟩
  refine undisturbed_of (rs := [(0x2000, 8), (0x2808, 4), (0x280C, 4), (0x2810, 4), (0x2900, 4), (0x2A00, 8), (0x5000, 4)]) (routing_plain true) rfl
    rfl rfl ?_ (by decide +kernel)
  rintro va n (⟨p, hp, h⟩ | ⟨x, hx, h⟩ | ⟨p, hp, _, o, ho, h⟩)
  · obtain rfl := one_choice (by decide +kernel) hp
    rw [if_neg (by decide +kernel)] at h
    rcases h with h | h <;> rw [h.1, h.2] <;> decide +kernel
  · have he : experts (routes true 0x2000).desc = 1 := by decide +kernel
    obtain rfl : x = 0 := by omega
    have hb : bitsAt (routes true 0x2000).desc 128 55 = 0x2800 := by decide +kernel
    have hc : bitsAt (routes true 0x2000).desc 192 55 = 0x2A00 := by decide +kernel
    rcases h with ⟨o, ho, h⟩ | h
    · simp only [List.mem_cons, List.not_mem_nil, or_false] at ho
      rcases ho with rfl | rfl | rfl <;> rw [h.1, h.2, hb] <;> decide
    · rw [h.1, h.2, hc]; decide
  · obtain rfl := one_choice (by decide +kernel) hp
    rw [show rowUnits (routes true 0x2000).desc = [0] by decide +kernel] at ho
    obtain rfl := List.mem_singleton.mp ho
    rw [h.1, h.2]
    decide +kernel

/-- The slot of the combine adds its row: 1.0 times 1.0. -/
theorem test_combined : adds (routing true) (routes true 0x2000).desc id 0 = true ∧
    combinedElem (routing true) (routes true 0x2000).desc id 0 0 = (0x3F800000, 0) := by decide +kernel

/-- The choices of an operation lie at an address that no table maps. -/
theorem witness_routingStops : (routes false 0x20000000).combine = false ∧ bitsAt (routes false 0x20000000).desc 0 55 = 0x20000000 ∧
    Routable (routes false 0x20000000).desc false ∧
    Machine.translate (engineSees (routedWith (routes false 0x20000000)) false) 0 0x20000000 (routedWith (routes false 0x20000000)) =
      (routedWith (routes false 0x20000000), .error { cause := 6 }) :=
  ⟨rfl, by decide +kernel, by unfold Routable; decide +kernel, by rfl⟩

/-! One step of each engine. -/

/-- R234: the two elements reach their destination; R238: the counter adds the bytes. -/
theorem test_copy : let t := after (.copyComplete 0 3) (inMemory [(0x2000, 5), (0x2007, 9)] (copying 0x3000))
    mget t.memory 0x3000 = 5 ∧ mget t.memory 0x3007 = 9 ∧ mgetN t.memory 0x2800 8 = 8 := by decide +kernel

/-- R272: the row of the token arrives at row 0 of its expert, and the inverse table names it. -/
theorem test_dispatch : let t := after (.routingOperationEnd 0) (routing false)
    mgetN t.memory 0x4000 4 = 0x3F800000 ∧ mgetN t.memory 0x2A00 8 = 1 := by decide +kernel

/-! Witnesses for the statements about tasks, graphs and record queues. -/

/-- A task of address space 0, one of address space 7, and a hart that holds the address of a record. -/
def aTask (lo hi : Int) (grain asid : Nat) : Task := { tag := 1, lo, hi, grain, entry := 0x1000, arg := 0, done := 0x3000, asid }
def tasking : State :=
  holds [(4, 0x2000), (5, 0x2010), (6, 3)] { inMemory [(0x2010, 8)] small with die := { tasks := [aTask 0 5 1 7, aTask 0 9 2 0, aTask 4 13 1 0] } }

def crowded : State := { tasking with die := { tasks := List.replicate 1024 (aTask 0 5 1 7) } }

theorem tasking_plain : Plain tasking ∧ Plain crowded := ⟨⟨rfl, rfl, rfl, ⟨rfl, rfl⟩, rfl, rfl, rfl, rfl⟩,
    ⟨rfl, rfl, rfl, ⟨rfl, rfl⟩, rfl, rfl, rfl, rfl⟩⟩

theorem eight_small {va : Nat} (h : va < 2 ^ 28) : ∀ e ∈ List.range 8, va + 8 * e < 2 ^ 29 := fun e he => by
  have := List.mem_range.mp he
  omega

theorem witness_taskadd : (31 < 32 ∧ tasking.hart.lap = none) ∧ (rx tasking 4).toNat % 64 = 0 ∧ (rx tasking 5).toNat % 64 ≠ 0 ∧ CanTrap tasking ∧
    Meets (Reads tasking (List.range 8) (0x2000 + 8 * ·) (0x2000 + 8 * ·) 8 1) ∧
    Meets (Reads crowded (List.range 8) (0x2000 + 8 * ·) (0x2000 + 8 * ·) 8 1) ∧
    (∃ u, publishCounted (readAll tasking (List.range 8) (0x2000 + 8 * ·) (0x2000 + 8 * ·) 8 1) = (u, true) ∧ u.die.tasks.length < 1024) ∧
    (∃ u, publishCounted (readAll crowded (List.range 8) (0x2000 + 8 * ·) (0x2000 + 8 * ·) 8 1) = (u, true) ∧ 1024 ≤ u.die.tasks.length) ∧
    (recordTask tasking 0x2000 (0x2000 + 8 * ·)).lo < (recordTask tasking 0x2000 (0x2000 + 8 * ·)).hi ∧
    (recordTask small 0x2000 (0x2000 + 8 * ·)).hi ≤ (recordTask small 0x2000 (0x2000 + 8 * ·)).lo := by
  refine ⟨⟨by decide, rfl⟩, by decide, by decide, ⟨rfl, by decide⟩, reads_of tasking_plain.1 (eight_small (by decide)) 8 1,
    reads_of tasking_plain.2 (eight_small (by decide)) 8 1, ?_, ?_, by decide +kernel, by decide +kernel⟩
  · obtain ⟨u, h, -, -, -, ht⟩ := reads_publish tasking_plain.1 rfl (List.range 8) (0x2000 + 8 * ·) (0x2000 + 8 * ·) 8 1
    exact ⟨u, h, by rw [ht]; decide⟩
  · obtain ⟨u, h, -, -, -, ht⟩ := reads_publish tasking_plain.2 rfl (List.range 8) (0x2000 + 8 * ·) (0x2000 + 8 * ·) 8 1
    exact ⟨u, h, by rw [ht]; exact Nat.le_of_eq (List.length_replicate ..).symm⟩

/-- The queue of tasking after a take of address space 0. -/
def taken : State :=
  { tasking with die := { tasking.die with tasks := [aTask 0 5 1 7] ++ (pieceOf (aTask 0 9 2 0)).2 ++ [aTask 4 13 1 0] } }

theorem taken_plain : Plain taken := ⟨rfl, rfl, rfl, ⟨rfl, rfl⟩, rfl, rfl, rfl, rfl⟩

theorem witness_taskget : (∀ t ∈ small.die.tasks, t.asid ≠ small.hart.ptroot.toNat % 2 ^ 16) ∧
    tasking.die.tasks = [aTask 0 5 1 7] ++ aTask 0 9 2 0 :: [aTask 4 13 1 0] ∧ Largest 0 [aTask 0 5 1 7] (aTask 0 9 2 0) [aTask 4 13 1 0] ∧
    Writable tasking 0x2000 (0x2000 + 8 * ·) ∧
    Meets (Writes taken (List.range 8) (0x2000 + 8 * ·) (0x2000 + 8 * ·) (taskDword (pieceOf (aTask 0 9 2 0)).1) 1) := by
  refine ⟨nofun, rfl, ?_, fun k hk => ?_, writes_of taken_plain (eight_small (va := 0x2000) (by decide)) _ 1⟩
  · unfold Largest
    decide
  · rw [plain_translates tasking_plain.1 1 _ (by omega), in_time tasking_plain.1 (by simp)]
    rfl

theorem witness_taskdone : (rx tasking 4).toNat % 8 = 0 ∧ (rx tasking 4).toNat < 2 ^ 55 ∧
    ∃ u, publishCounted tasking = (u, true) ∧ Placed tasking 3 0x2000 0x2000 ∧ Placed u 3 0x2000 0x2000 ∧ moving u 0x2000 = false ∧
      portFull u (homeAddr u 0x2000) 0 = false ∧ uncorrectable u 0x2000 8 = false := by
  have h : ∀ {u}, Plain u → Placed u 3 0x2000 0x2000 := fun hu => plain_placed hu 3 (by decide) (by simp)
  refine ⟨by decide, by decide, _, publishes rfl, h tasking_plain.1, h ?_, plain_still (ds := []) ?_ _, plain_room (ds := []) ?_ (by decide) 0,
    plain_correctable (ds := []) ?_ _ _⟩ <;> exact tasking_plain.1

theorem witness_taskkill : (∃ h ∈ tasking.hart :: tasking.others, h.run ≠ .idle ∧ h.ptroot.toNat % 2 ^ 16 = 0) ∧
    (∀ h ∈ tasking.hart :: tasking.others, h.run = .idle ∨ h.ptroot.toNat % 2 ^ 16 ≠ 7) ∧ (∀ h ∈ tasking.saved, h.ptroot.toNat % 2 ^ 16 ≠ 7) ∧
    ∃ h ∈ held.saved, h.ptroot.toNat % 2 ^ 16 = 0 :=
  ⟨⟨tasking.hart, List.mem_cons_self, by decide, rfl⟩, fun h hh => .inr (by rw [List.mem_singleton.mp hh]; decide),
      (by rw [show tasking.saved = [] from rfl]; exact fun _ hh => nomatch hh),
    { Hart.reset with stamp := 4 }, List.mem_singleton.mpr rfl, rfl⟩

/-- R245: the upper half of the task of 9 in steps of 2 is handed out, the lower stays. -/
theorem test_taskget : pieceOf (aTask 0 9 2 0) = (aTask 4 9 2 0, [aTask 0 4 2 0]) ∧
    rx (after (.taskget 5 4) tasking) 5 = 1 ∧ (after (.taskget 5 4) tasking).die.tasks = [aTask 0 5 1 7, aTask 0 4 2 0, aTask 4 13 1 0] := by
  decide +kernel

/-- A graph of 3 nodes with its header at 0x2000; node 0 a kernel node, node 1 a branch on the word at 0x4000, node 2 with a successor
beyond the last node; the status word at 0x5000. -/
def aGraph (node : Option Nat) (stage ended : Nat) : Graph :=
  { id := 0, header := 0x2000, ptroot := 0, priv := false, ctxid := 9, deadline := 0, node, count := 3, stat := 0x5000, stage, ended, next := 2 }
def graphing (x : Graph) : State :=
  holds [(4, 0x2000), (5, 0x2010)] { small with
    tlb := [blockOf 1536], die := { graphs := [x] }
    memory := mputN (mputN (mputN (mputN (mputN (mputN [] 0x2000 8 3) 0x2008 8 0x5000) 0x2040 8 0xFFFF000100000401) 0x2080 8 0xFFFF000200000002)
      0x2088 8 0x4000) 0x20C0 8 0xFFFF000300000002 }

theorem graphing_served (x : Graph) (acc va : Nat) (ha : va < 2 ^ 29) :
    translate (schedulerView 0 x) acc va (graphing x) = (graphing x, .ok va) := by
  rw [block_translates rfl rfl rfl rfl acc va ha]
  rfl

theorem graphing_reads (x : Graph) (va n : Nat) (ha : va % 8 = 0) (hl : va + 8 * n < 2 ^ 28) :
    SchedulerReads (graphing x) 0 x va (va + 8 * ·) n :=
  ⟨ha, fun _ _ => ⟨graphing_served x 0 _ (by omega), rfl⟩⟩

theorem witness_graphgo : (31 < 32 ∧ small.hart.lap = none) ∧ (rx (graphing (aGraph none 0 0)) 5).toNat % 64 ≠ 0 ∧
    (rx (graphing (aGraph none 0 0)) 4).toNat % 64 = 0 ∧ CanTrap (graphing (aGraph none 0 0)) ∧
    (∃ u, publishCounted (graphing (aGraph none 0 0)) = (u, true) ∧ (∀ x ∈ u.die.graphs, x.id ≠ 1) ∧ ∀ k < 1, ∃ x ∈ u.die.graphs, x.id = k) ∧
    (∀ g < 16, ∃ x ∈ (List.range 16).map fun i => { aGraph none 0 0 with id := i }, x.id = g) :=
  ⟨⟨by decide, rfl⟩, by decide, by decide, ⟨rfl, by decide⟩, ⟨_, rfl, by decide, by decide⟩,
    fun g hg => ⟨_, List.mem_map.mpr ⟨g, List.mem_range.mpr hg, rfl⟩, rfl⟩⟩

/-- The shapes of a graph that the witnesses take. -/
def shapes : List Graph :=
  [aGraph none 0 0, aGraph (some 0) 0 0, aGraph (some 1) 0 0, aGraph (some 2) 0 0, aGraph (some 0) 1 0, aGraph (some 0) 2 0, aGraph (some 0) 2 1,
    aGraph (some 0) 2 2]

theorem shapes_share : ∀ x ∈ shapes, x.header = 0x2000 ∧ x.stat = 0x5000 ∧ ∀ i, x.node = some i → i < 3 := by decide

theorem witness_graphNodes : ∀ x ∈ shapes,
    (graphing x).memory.wf = true ∧ x ∈ (graphing x).die.graphs ∧ (∀ y ∈ (graphing x).die.graphs, y.id = x.id → y = x) ∧
    SchedulerReads (graphing x) 0 x x.header (x.header + 8 * ·) 2 ∧ homeDword (graphing x) x.header % 2 ^ 16 = 3 ∧
    (∀ i, x.node = some i → i < 2 ^ 16 ∧ SchedulerReads (graphing x) 0 x (x.header + 64 + 64 * i) (x.header + 64 + 64 * i + 8 * ·) 4) ∧
    SchedulerReads (graphing x) 0 x (0x4000 % 2 ^ 55) (fun _ => 0x4000) 1 ∧ StatusReached (graphing x) 0 x x.stat x.stat := by
  intro x hx
  obtain ⟨h1, h2, h3⟩ := shapes_share x hx
  rw [h1, h2]
  refine ⟨?_, List.mem_singleton.mpr rfl, fun y hy _ => List.mem_singleton.mp hy, graphing_reads x _ _ (by decide) (by decide), ?_, fun i hi => ?_,
    ⟨by decide, fun k hk => ⟨?_, rfl⟩⟩, by decide, graphing_served x 3 _ (by decide), rfl, rfl⟩
  · rw [show (graphing x).memory = (graphing (aGraph none 0 0)).memory from rfl]
    decide +kernel
  · rw [show homeDword (graphing x) 0x2000 = homeDword (graphing (aGraph none 0 0)) 0x2000 from rfl]
    decide +kernel
  · have := h3 i hi
    exact ⟨by omega, graphing_reads x _ _ (by omega) (by omega)⟩
  · obtain rfl : k = 0 := by omega
    exact graphing_served x 0 _ (by decide)

/-- A graph whose header cannot be read, and one whose node cannot. -/
theorem witness_graphFaults :
    (let x := { aGraph none 0 0 with header := 0x2004 }
     SchedulerStops (graphing x) 0 x x.header 2 (graphing x)) ∧
    (let x := { aGraph (some 0) 0 0 with header := 0x2004 }
     SchedulerStops (graphing x) 0 x (x.header + 64 + 64 * 0) 4 (graphing x) ∧ StatusReached (graphing x) 0 x x.stat 0x5000) :=
  ⟨⟨0, by decide, id, nofun, .inl ⟨by decide, rfl⟩⟩, ⟨0, by decide, id, nofun, .inl ⟨by decide, rfl⟩⟩, by decide,
    graphing_served _ 3 _ (by decide), rfl, rfl⟩

/-- A predicate word and a status word at an address that is not mapped, a status word that is misaligned, one whose page moves. -/
theorem witness_graphWords :
    (let x := aGraph (some 1) 0 0
     let s := { graphing x with memory := mputN (graphing x).memory 0x2088 8 0x20000000 }
     NodeLegal x (homeDword s 0x2080) ∧ nodeKind (homeDword s 0x2080) ≠ 1 ∧ homeDword s 0x2088 % 2 ^ 55 = 0x20000000 ∧
      SchedulerFails s 0 x 0 0x20000000 s ∧ SchedulerFails s 0 x 3 0x20000000 s ∧ SchedulerFails s 0 x 3 0x5004 s) ∧
    let x := aGraph (some 1) 0 0
    let s := { graphing x with moves := [(1, { source := 0, status := 1 })] }
    translate (schedulerView 0 x) 3 0x5000 s = (s, .ok 0x5000) ∧ uncorrectable s 0x5000 8 = false ∧ moving s 0x5000 = true := by
  refine ⟨⟨?_, ?_, ?_, ?_, ?_, .inl ⟨by decide, rfl⟩⟩, ?_, rfl, by decide⟩
  · unfold NodeLegal
    decide +kernel
  · decide +kernel
  · decide +kernel
  · exact .inr (.inl ⟨by decide, ⟨{ cause := 6 }, by rfl⟩⟩)
  · exact .inr (.inl ⟨by decide, ⟨{ cause := 6 }, by rfl⟩⟩)
  · rw [block_translates rfl rfl rfl rfl 3 _ (by decide)]
    rfl

theorem witness_nodes :
    (let s := graphing (aGraph (some 0) 0 0)
     NodeLegal (aGraph (some 0) 0 0) (homeDword s 0x2040) ∧ nodeKind (homeDword s 0x2040) = 1 ∧
      firstWaiting (s.die.graphs.filter fun z => z.id != 0) = none ∧ (∀ p ∈ s.reqs, p.1 ≠ 0)) ∧
    (firstWaiting (graphing (aGraph (some 0) 1 0)).die.graphs = some (aGraph (some 0) 1 0)) ∧
    (firstWaiting ([aGraph (some 0) 0 0, { aGraph (some 0) 1 0 with id := 1 }].filter fun z => z.id != 0) ≠ none) ∧
    (firstWaiting [{ aGraph (some 0) 1 0 with id := 1 }, aGraph (some 0) 1 0] ≠ some (aGraph (some 0) 1 0)) ∧
    (let s := graphing (aGraph (some 1) 0 0)
     NodeLegal (aGraph (some 1) 0 0) (homeDword s 0x2080) ∧ nodeKind (homeDword s 0x2080) ≠ 1 ∧ homeDword s 0x2088 = 0x4000 ∧
      (if homeDword s 0x4000 = 0 then nodeSuccB (homeDword s 0x2080) else nodeSuccA (homeDword s 0x2080)) = 0xFFFF ∧
      nodeSuccA (homeDword s 0x2080) = 2) ∧
    ¬ NodeLegal (aGraph (some 2) 0 0) (homeDword (graphing (aGraph (some 2) 0 0)) 0x20C0) ∧ homeDword small 0x2000 % 2 ^ 16 = 0 ∧
    (aGraph (some 0) 2 1).next ≠ 0xFFFF ∧ { aGraph (some 0) 2 1 with next := 0xFFFF }.next = 0xFFFF := by
  unfold NodeLegal
  decide +kernel

/-- A request in entry 5; one in each of the first entries. -/
def aRequest : Request := { fields := [], pt := 0, src := 0, gang := 0, place := 0, gid := 0, deadline := 0 }
def asked : State := { small with reqs := [(5, aRequest)] }
def askedUpTo (n : Nat) : State := { small with reqs := (List.range n).map fun i => (i, aRequest) }

theorem asked_each (n : Nat) : ∀ r < n, ∃ p ∈ (askedUpTo n).reqs, p.1 = r := fun r hr =>
  ⟨_, List.mem_map.mpr ⟨r, List.mem_range.mpr hr, rfl⟩, rfl⟩

theorem witness_requests : (∀ p ∈ asked.reqs, p.1 ≠ 4) ∧ (∃ p ∈ asked.reqs, p.1 = 5) ∧ LowestEntry asked 0 ∧
    ∀ r < 1024, ∃ p ∈ (askedUpTo 1024).reqs, p.1 = r :=
  ⟨by decide, by decide, ⟨by decide, by decide, fun k hk => absurd hk (Nat.not_lt_zero k)⟩, asked_each 1024⟩

/-- A queue at 0x6000 with its ring at 0x6800; a record of zeros at 0x2000. -/
def queued (lsize head tail : Nat) : State :=
  holds [(4, 0x6000), (5, 0x2000), (6, 0x6080), (7, 0x2020)] { small with
    memory := mputN (mputN (mputN (mputN [] 0x6000 8 0x6800) 0x6008 8 lsize) 0x6010 8 head) 0x6018 8 tail }

/-- The ring bytes from a stream byte on, in the queue of 256 bytes and in the one of 4. -/
def ringOf (lsize k i : Nat) : Nat := 0x6800 + (k + i) % 2 ^ lsize

theorem queue_reached {s : State} (h : Plain s) (lsize k acc : Nat) (hr : ∀ i < 4, ringAt s 0x6000 (k + i) = ringOf lsize k i)
    (hl : lsize = 2 ∨ lsize = 8) : QueueReached s 0x6000 0x6000 k 4 acc (ringOf lsize k) := by
  have home : ∀ a, homeAddr s a = a := unmoved_of h.2.2.2.2.2.2.1
  have low : ∀ i, 0x6800 ≤ ringOf lsize k i ∧ ringOf lsize k i < 0x6900 := fun i => by
    rcases hl with rfl | rfl <;> simp only [ringOf] <;> omega
  have served : ∀ {acc va}, va < 2 ^ 29 → translate (hartView s) acc va s = (s, .ok va) := fun hv => by
    rw [plain_translates h _ _ hv, in_time h (by simp)]
    rfl
  refine ⟨by decide, served (by decide), plain_correctable h _ _, plain_still h _, fun i hi => ⟨?_, plain_correctable h _ _, ?_⟩,
    fun o _ => by simp [home], fun i hi j hj hij => ?_⟩
  · have := low i
    rw [hr i hi]
    exact served (by omega)
  · have := low i
    simp only [home]
    omega
  · simp only [home]
    rcases hl with rfl | rfl <;> simp only [ringOf] <;> omega

theorem queued_plain (lsize head tail : Nat) : Plain (queued lsize head tail) := ⟨rfl, rfl, rfl, ⟨rfl, rfl⟩, rfl, rfl, rfl, rfl⟩

theorem field_of {s t : State} (hm : s.memory = t.memory) (hs : Plain s) (ht : Plain t) (pa lo n : Nat) : descField s pa lo n = descField t pa lo n := by
  simp [descField, homeAddr, hm, hs.2.2.2.2.2.2.1, ht.2.2.2.2.2.2.1]

theorem posted_of {s : State} (h : s.posts = []) (pa : Nat) : postedBefore s pa = 0 := by simp [postedBefore, h]

theorem witness_qpost : (31 < 32 ∧ small.hart.lap = none) ∧ (rx (queued 8 0 0) 6).toNat % 256 ≠ 0 ∧ (rx (queued 8 0 0) 7).toNat % 64 ≠ 0 ∧
    (rx (queued 8 0 0) 5).toNat % 64 = 0 ∧ CanTrap (queued 8 0 0) ∧
    (∀ lsize, Meets (Reads (queued lsize 7 9) (List.range 8) (0x2000 + 8 * ·) (0x2000 + 8 * ·) 8 1)) ∧
    (∃ u, publishCounted (readAll (queued 8 7 9) (List.range 8) (0x2000 + 8 * ·) (0x2000 + 8 * ·) 8 1) = (u, true) ∧ u.memory.wf = true ∧
      descField u 0x6000 192 64 = 9 ∧ codedBytes (postedBefore u 0x6000) 0 (descField u 0x6000 256 512) = [0, 0, 0, 0] ∧
      QueueReached u 0x6000 0x6000 9 4 1 (ringOf 8 9) ∧ (∀ i < 4, moving u (ringOf 8 9 i) = false) ∧
      (9 + 2 ^ 64 - descField u 0x6000 128 64) % 2 ^ 64 + 4 ≤ 2 ^ descField u 0x6000 64 6) ∧
    ∃ u, publishCounted (readAll (queued 2 0 1) (List.range 8) (0x2000 + 8 * ·) (0x2000 + 8 * ·) 8 1) = (u, true) ∧
      QueueReached u 0x6000 0x6000 1 4 1 (ringOf 2 1) ∧
      2 ^ descField u 0x6000 64 6 < (1 + 2 ^ 64 - descField u 0x6000 128 64) % 2 ^ 64 + 4 := by
  refine ⟨⟨by decide, rfl⟩, by decide +kernel, by decide +kernel, by decide +kernel, ⟨rfl, by decide⟩,
    fun lsize => reads_of (queued_plain lsize 7 9) (eight_small (by decide)) 8 1, ?_, ?_⟩
  · obtain ⟨u, h, hp, hm, ho, -⟩ := reads_publish (queued_plain 8 7 9) rfl (List.range 8) (0x2000 + 8 * ·) (0x2000 + 8 * ·) 8 1
    have hd := field_of hm hp (queued_plain 8 7 9)
    refine ⟨u, h, by rw [hm]; decide +kernel, ?_, ?_, queue_reached hp 8 9 1 ?_ (.inr rfl), fun i _ => plain_still hp _, ?_⟩
    · rw [hd]; decide +kernel
    · rw [hd, posted_of ho]; decide +kernel
    · simp only [ringAt, hd]; decide +kernel
    · simp only [hd]; decide +kernel
  · obtain ⟨u, h, hp, hm, ho, -⟩ := reads_publish (queued_plain 2 0 1) rfl (List.range 8) (0x2000 + 8 * ·) (0x2000 + 8 * ·) 8 1
    have hd := field_of hm hp (queued_plain 2 0 1)
    refine ⟨u, h, queue_reached hp 2 1 1 ?_ (.inl rfl), ?_⟩
    · simp only [ringAt, hd]; decide +kernel
    · simp only [hd]; decide +kernel

theorem witness_qtake : descField (queued 8 9 9) 0x6000 128 64 = descField (queued 8 9 9) 0x6000 192 64 ∧
    translate (hartView (queued 8 9 9)) 3 0x6000 (queued 8 9 9) = (queued 8 9 9, .ok 0x6000) ∧ uncorrectable (queued 8 9 9) 0x6000 256 = false ∧
    descField (queued 8 7 11) 0x6000 128 64 ≠ descField (queued 8 7 11) 0x6000 192 64 ∧ (queued 8 7 11).memory.wf = true ∧
    littleEndian ((List.range 4).map fun k => mget (queued 8 7 11).memory (homeAddr (queued 8 7 11) (ringOf 8 7 k))) % 65536 = 0 ∧
    QueueReached (queued 8 7 11) 0x6000 0x6000 (descField (queued 8 7 11) 0x6000 128 64) 4 0 (ringOf 8 7) ∧
    Writable (queued 8 7 11) 0x2000 (0x2000 + 8 * ·) ∧
    ∀ m f dword, Meets (Writes (withoutCopies { queued 8 7 11 with memory := m } f) (List.range 8) (0x2000 + 8 * ·) (0x2000 + 8 * ·) dword 1) := by
  have served : ∀ {a b c acc va}, va < 2 ^ 29 → translate (hartView (queued a b c)) acc va (queued a b c) = (queued a b c, .ok va) := fun hv => by
    rw [plain_translates (queued_plain _ _ _) _ _ hv, in_time (queued_plain _ _ _) (by simp)]
    rfl
  refine ⟨by decide +kernel, served (by decide), rfl, by decide +kernel, by decide +kernel, by decide +kernel, ?_,
    fun k hk => served (by omega), fun m f dword => writes_of (s := withoutCopies { queued 8 7 11 with memory := m } f) ⟨rfl, rfl, rfl, ⟨rfl, rfl⟩,
        rfl, rfl, rfl, rfl⟩
      (eight_small (va := 0x2000) (by decide)) _ 1⟩
  rw [show descField (queued 8 7 11) 0x6000 128 64 = 7 by decide +kernel]
  exact queue_reached (queued_plain _ _ _) 8 7 0 (by decide +kernel) (.inr rfl)

/-- R250: a record of zeros posted after none has changed no field: a mask of 0 with sequence number 0. -/
theorem test_qpost : let t := after (.qpost 8 4 5) (queued 8 0 0)
    rx t 8 = 1 ∧ mgetN t.memory 0x6018 8 = 4 := by decide +kernel


/-! Witnesses for the statements about events, system forms, host queues and the event ring. -/

/-- An event record at 0x2000: a handler, a kind, a value, an address. -/
def noting (handler kind value addr : Nat) : State :=
  holds [(4, 0x2000), (5, 0x2010), (6, 1), (7, 33)] (inMemory (mputN (mputN (mputN (mputN [] 0x2000 8 handler) 0x2008 8 kind) 0x2010 8 value)
    0x2018 8 addr) small)

theorem not_routing : ¬ Routing small := by rintro ⟨op, h, _⟩; cases h

theorem noting_plain (h k v a : Nat) : Plain (noting h k v a) := ⟨rfl, rfl, rfl, ⟨rfl, rfl⟩, rfl, rfl, rfl, rfl⟩

theorem witness_events : (31 < 32 ∧ small.hart.lap = none) ∧ (rx (noting 0 0 0 0) 5).toNat % 32 ≠ 0 ∧ (rx (noting 0 0 0 0) 4).toNat % 32 = 0 ∧
    CanTrap (noting 0 0 0 0) ∧ (∀ h k v a, Meets (Reads (noting h k v a) (List.range 4) (0x2000 + 8 * ·) (0x2000 + 8 * ·) 8 1)) ∧
    seenWord (noting 0 5 0 0) 0x2000 (0x2000 + 8 * ·) 1 % 16 = 5 ∧ seenWord (noting 0x900 1 5 0) 0x2000 (0x2000 + 8 * ·) 1 % 16 = 1 ∧
    seenWord (noting 0x900 1 5 0) 0x2000 (0x2000 + 8 * ·) 0 % 2 ^ 55 % 4 = 0 ∧
    seenWord (noting 0x902 1 5 0) 0x2000 (0x2000 + 8 * ·) 0 % 2 ^ 55 % 4 ≠ 0 ∧ Occurred small 1 0 0 ∧ ¬ Occurred small 1 0 5 ∧ Occurred small 2 0 0 ∧
    seenWord (noting 0 4 0 0x3004) 0x2000 (0x2000 + 8 * ·) 3 % 8 ≠ 0 ∧ seenWord (noting 0 4 0 0x3000) 0x2000 (0x2000 + 8 * ·) 3 = 0x3000 := by
  refine ⟨⟨by decide, rfl⟩, by decide +kernel, by decide +kernel, ⟨rfl, by decide⟩,
    fun h k v a => reads_of (noting_plain h k v a) (fun e he => by have := List.mem_range.mp he; omega) 8 1, by decide +kernel, by decide +kernel,
    by decide +kernel, by decide +kernel, .inl ⟨rfl, by decide⟩, ?_, .inr (.inl ⟨rfl, not_routing⟩), by decide +kernel, by decide +kernel⟩
  rintro (⟨_, h⟩ | ⟨h, _⟩ | ⟨h, _⟩)
  · exact absurd h (by decide)
  · cases h
  · cases h

/-- The word of kind 4 is reached after the record has been read. -/
theorem witness_waitWord (h k v a : Nat) : ∃ u, u = readAll (noting h k v a) (List.range 4) (0x2000 + 8 * ·) (0x2000 + 8 * ·) 8 1 ∧
    translate (hartView u) 0 0x3000 u = (u, .ok 0x3000) ∧ uncorrectable u 0x3000 8 = false := by
  have hp := reads_plain (0x2000 + 8 * ·) (0x2000 + 8 * ·) 8 1 (List.range 4) (noting_plain h k v a)
  refine ⟨_, rfl, ?_, plain_correctable hp _ _⟩
  rw [plain_translates hp 0 _ (by decide), in_time hp (by simp)]
  rfl

/-- A notification that waits for the routing engine; a hart in its handler, that left a frame. -/
def armed : State := { small with hart := { small.hart with slotN := ⟨true, 2, 0, 0, 0, 0x900⟩ } }
def aLap : Lap := { frame := [(0x40611000, none)], base := 0x1004, count := 2, sd := 0, s1 := 0, s2 := 0, k := 1, idx := 0 }
def handling (l : Option (Lap × Word)) : State :=
  { small with hart := { small.hart with nh := true, nlap := l, shadow := small.hart.shadow.setIfInBounds 7 0x1004 } }

theorem witness_notification : armed.hart.run = .running ∧ armed.hart.slotN.armed = true ∧ armed.hart.nh = false ∧ armed.hart.depth = 0 ∧
    armed.hart.request = none ∧
    Occurred armed armed.hart.slotN.kind armed.hart.slotN.chan armed.hart.slotN.value ∧ Aligned armed.hart.slotN.handler ∧
    small.hart.slotN.armed = false ∧ small.hart.nh = false ∧ (handling none).hart.nh = true ∧ (handling none).hart.nlap = none ∧
    Aligned (handling none).hart.shadow[7] ∧ (handling (some (aLap, 0x1008))).hart.nlap = some (aLap, 0x1008) ∧
    nextAddress { handling (some (aLap, 0x1008)) with hart := { (handling (some (aLap, 0x1008))).hart with lap := some aLap } } =
      (handling (some (aLap, 0x1008))).hart.shadow[7] :=
  ⟨rfl, rfl, rfl, rfl, rfl, .inr (.inl ⟨rfl, by rintro ⟨op, h, _⟩; cases h⟩), rfl, rfl, rfl, rfl, rfl, rfl, rfl, by decide⟩

theorem witness_lateTrap : small.hart.run = .running ∧ small.hart.lateEn = false ∧ { small.hart with lateEn := true }.lateEn = true ∧
    small.hart.inflight = [] ∧ small.hart.request = none ∧ CanTrap small ∧ faulted.hart.inflight ≠ [] :=
  ⟨rfl, rfl, rfl, rfl, rfl, ⟨rfl, by decide⟩, nofun⟩

/-- A routing that runs keeps a hart from being quiet. -/
theorem quiet_small : Quiet small := ⟨by decide, nofun, not_routing⟩

theorem witness_system : inTrap.hart.lap = none ∧ inTrap.hart.priv = true ∧ { small.hart with run := .halted }.run = .halted ∧
    small.hart.run = .running ∧ rx small 0 = 0 ∧ 1 < (rx (noting 0 0 0 0) 7).toNat ∧ rx (noting 0 0 0 0) 6 = 1 ∧ Quiet small ∧
    ¬ Quiet (routing false) ∧ CanTrap small ∧ small.hart.src < 0x100 ∧
    (∃ u, publishCounted (if small.core.claimant = some small.hart.idx then { small with core := { small.core with claimant := none } } else small) =
      (u, true)) ∧ CanTrap inTrap := by
  refine ⟨rfl, rfl, rfl, rfl, rfl, by decide +kernel, by decide +kernel, quiet_small, fun h => h.2.2 ⟨_, rfl, rfl⟩, ⟨rfl, by decide⟩, by decide,
    ⟨_, rfl⟩, ⟨rfl, by decide⟩⟩

theorem witness_lanemap : 33 < (rx (holds [(4, 34)] inTrap) 4).toNat ∧ (rx (holds [(4, 33)] inTrap) 4).toNat ≤ 33 ∧
    LaneRefused inTrap 5 5 0xC0 ∧ LaneRefused inTrap 3 3 0x83 ∧ ¬ LaneRefused inTrap 33 64 0x21 := by
  refine ⟨by decide +kernel, by decide +kernel, .inl (by decide), .inr (.inr ⟨by decide, 3, .inl (by unfold Gives; decide), inTrap.hart,
    List.mem_cons_self, by decide, rfl, by decide, by decide⟩), ?_⟩
  rintro (h | ⟨l, q, hl, hq, hne, hg⟩ | ⟨_, l, hl, h, hh, _, _, _, hlt⟩)
  · exact absurd h (by decide)
  · obtain rfl : l = 33 := by have := hl.2; simp only [BitVec.reduceToNat] at this; omega
    have h : ∀ q < 34, q ≠ 33 → ¬ Gives (inTrap.core.lanemap[q]?.getD 0) 33 := by unfold Gives; decide +kernel
    exact h q hq hne hg
  · obtain rfl := List.mem_singleton.mp hh
    rw [show inTrap.hart.lbase + inTrap.hart.psize = 4 from rfl] at hlt
    rcases hl with hl | hl
    · exact absurd hl.1 (by decide)
    · have := hl.2
      simp only [BitVec.reduceToNat] at this
      omega

/-- An instruction in flight as the hart of a state would have issued it, no group committed. -/
def inFlight (b : State) (i : Instr) : State :=
  match jobOf i with
  | some (.elems g) =>
    { b with hart := { b.hart with inflight := [{ entry with w1 := encode i, cap := g.capture none (seedNow b) b, lap := none }] } }
  | _ => b

theorem resumable_of {b : State} {i : Instr} {g : Form} (hg : jobOf i = some (.elems g)) (hd : decodeWord (encode i) = .ok i) (hb : BrickReady b)
    (hi : b.hart.inflight = []) (hl : b.hart.lanes = 4) (hc : 0 < count b) :
    ∃ e, Resumable (inFlight b i) b e [] i 0 := by
  have h : inFlight b i =
      { b with hart := { b.hart with inflight := [{ entry with w1 := encode i, cap := g.capture none (seedNow b) b, lap := none }] } } := by
    unfold inFlight
    rw [hg]
  rw [h]
  exact ⟨_, rfl, by rw [← hi], hb, rfl, hd, ⟨g, hg, rfl⟩, by rw [hl]; rfl, rfl, by rw [Nat.zero_mul]; exact hc⟩

/-- Two lanes work on two elements of 4 bytes, in one group. -/
theorem witness_resumedBricks : BrickReady (typed 2 small) ∧ elemType (typed 2 small) < 12 ∧ 0 < count (typed 2 small) ∧
    (∀ i ∈ [Instr.vadd 3 1 2 0 0 0 0, .vcvt 3 1 10 0 0 0, .vslide 3 1 1 0 0 0, .vrsum 3 1 0 0 0 0, .vceq 3 1 2 0 0 0 0, .vmand 3 1 2 0, .vmpopc 3 1 0,
      .vmfirst 3 1 0, .vextx 3 1 0 0 0], (∃ g, jobOf i = some (.elems g)) ∧ decodeWord (encode i) = .ok i) ∧
    (∃ o, intOp (typed 2 small) (.vadd 3 1 2 0 0 0 0) = some o ∧ ClassFits (typed 2 small) o.cls ∧ OffsetZero (typed 2 small) o.offset) ∧
    (∃ f l, convertFill (typed 2 small) (inPlace (typed 2 small)) (.vcvt 3 1 10 0 0 0) = some (f, l) ∧ l) ∧
    (∃ f l, permuteFill (typed 2 small) (.vslide 3 1 1 0 0 0) = some (f, l) ∧ l) ∧
    (∃ f, reduceFill (typed 2 small) (inPlace (typed 2 small)) (.vrsum 3 1 0 0 0 0) = some (f, 0)) ∧
    (∃ f, compareMarks (typed 2 small) (inPlace (typed 2 small)) (inPlace (typed 2 small)) (.vceq 3 1 2 0 0 0 0) = some f ∧
      OffsetZero (typed 2 small) f.offset ∧ ClassFits (typed 2 small) f.cls) ∧
    (∃ f, maskMarks (typed 2 small) (.vmand 3 1 2 0) = some f ∧ ClassFits (typed 2 small) f.cls) ∧
    (rx (typed 2 small) 0).toNat < count (typed 2 small) := by
  refine ⟨⟨rfl, ⟨by decide, by decide, rfl, rfl⟩, by decide⟩, by decide, by decide, ?_, ⟨_, rfl, ⟨fun _ => by decide, fun h => absurd h (by decide)⟩,
    .inl rfl⟩, ⟨_, _, rfl, by decide, fun h => absurd h (by decide)⟩, ⟨_, _, rfl, by decide⟩, ⟨_, rfl⟩, ⟨_, rfl, .inl rfl, ?_⟩, ⟨_, rfl, ?_⟩,
    by decide⟩
  · intro i hi
    simp only [List.mem_cons, List.not_mem_nil, or_false] at hi
    rcases hi with rfl | rfl | rfl | rfl | rfl | rfl | rfl | rfl | rfl <;> exact ⟨⟨_, rfl⟩, by decide⟩
  all_goals exact ⟨fun h => absurd h (by decide), fun h => absurd h (by decide)⟩

/-- A vpack of floats in flight, as for floats alone. -/
theorem witness_resumedPack : ∃ e, Resumable (inFlight (typed 10 small) (.vpack 3 1 5 0 0 0)) (typed 10 small) e [] (.vpack 3 1 5 0 0 0) 0 ∧
    elemType (typed 10 small) < 12 ∧ PackedFits (typed 10 small) (codeElem 5).width :=
  (resumable_of rfl (by decide) ⟨rfl, ⟨by decide, by decide, rfl, rfl⟩, by decide⟩ rfl rfl (by decide)).imp fun _ h =>
    ⟨h, by decide, by unfold PackedFits; decide⟩

/-- A load and a vector atomic in flight, whose accesses are served. -/
theorem witness_resumedAccesses :
    (∃ e, Resumable (inFlight streaming (.vld 5 2 0 0)) streaming e [] (.vld 5 2 0 0) 0 ∧ AccessIssues streaming (.vld 5 2 0 0) ∧
      ∃ a, accessOf streaming (streamPA streaming 2) (.vld 5 2 0 0) = some a ∧
        Along a.step (fun u => ∀ x ∈ a.els streaming, a.served u x) (a.els streaming) (inFlight streaming (.vld 5 2 0 0))) ∧
    ∃ e, Resumable (inFlight counting (.atomCas 3 4 6 1 0 0 1 0)) counting e [] (.atomCas 3 4 6 1 0 0 1 0) 0 ∧
      GroupedIssues counting (.atomCas 3 4 6 1 0 0 1 0) ∧
      ∃ a, groupedOf counting (fun e => (atomicPlace counting 4 6 e).toNat) (.atomCas 3 4 6 1 0 0 1 0) = some a ∧
        Along a.step (fun u => ∀ x ∈ a.els counting, a.served u x) (a.els counting) (inFlight counting (.atomCas 3 4 6 1 0 0 1 0)) := by
  constructor
  · obtain ⟨e, h⟩ := resumable_of (b := streaming) (i := .vld 5 2 0 0) rfl (by decide) streaming_ready.1 rfl rfl (by decide)
    exact ⟨e, h, streaming_ready.2.2.1, _, rfl, loads_from (by unfold Plain PlainBut; decide +kernel) streaming_block⟩
  · obtain ⟨e, h⟩ := resumable_of (b := counting) (i := .atomCas 3 4 6 1 0 0 1 0) rfl (by decide) counting_ready.1 rfl rfl (by decide)
    refine ⟨e, h, by unfold GroupedIssues; decide, _, rfl, ⟨all_along (ds := []) (plain_atomic _ _ _ _ _ _ _) (fun u hu e he => ?_) _ _ ?_⟩⟩
    · have h := served_at counting_places.1 counting_ready.2.2.2.2.2.1 (by decide) hu (atomicAccess 10) e he
      exact ⟨h.1, h.2.1, plain_unqueued hu _, plain_still hu _, plain_room hu h.2.2 0, plain_correctable hu _ _⟩
    · unfold PlainBut
      decide +kernel

theorem witness_pacer : small.hart.run = .running ∧ 15 < 16 ∧ streamBits (streamOf small 15) 360 4 = 0 ∧
    (small.tlb.filter fun c => c.pacer == some (small.hart.slot, 15)).length ≤ 8 := by decide +kernel

/-- A stream that looks ahead, over tables that map the first 512 MiB as a block; its next position begins at element 2. -/
def pacing : State :=
  { withStream (aStream 0x2000 4 8 0 2 1) (typed 2 bare) with memory := mputN (mputN [] 0 8 0x10001) 0x10000 8 0x3F }
def pacingNext : State :=
  { pacing with hart := { pacing.hart with streams := pacing.hart.streams.setIfInBounds 2 (nextPosition (streamOf pacing 2) pacing.hart.bshape) } }

theorem witness_pacerWalks : pacing.hart.run = .running ∧ streamBits (streamOf pacing 2) 360 4 ≠ 0 ∧ 0 < count pacing ∧
    insideTensor pacingNext 2 0 = true ∧ tensorAddr pacingNext 2 0 = 0x2008 ∧ windowOf pacing (asidOf pacing.hart.ptroot) 0x2008 = none ∧
    (∀ c ∈ pacing.tlb, c.pacer ≠ some (pacing.hart.slot, 2)) ∧ walk pacing pacing.hart.ptroot 0x2008 = .ok (0x10000, 0x3F, true) ∧
    checkLeaf pacing (hartView pacing) 0 0x2008 0x10000 0x3F true = .ok (0x3F, 0x2008) := by
  exact ⟨rfl, by decide +kernel, by decide, by decide +kernel, by decide +kernel, by decide +kernel, nofun, by decide +kernel, by decide +kernel⟩

/-- A host queue at 0x6000 whose ring of 256 bytes holds a record of no changes after one that starts 4 lanes of 1 element. -/
def hosting (taken : Nat) : State :=
  { small with
    hostq := [(5, { desc := 0x6000, enable := true, taken })], hqTurn := 5
    memory := mputN (mputN (mputN (mputN [] 0x6000 8 0x6800) 0x6008 8 8) 0x6018 8 4) 0x6070 8 0x100000004 }

theorem hosting_queue : hostHead (hosting 0) 5 = 0 ∧ hostField (hosting 0) 5 192 64 = 4 ∧ hostField (hosting 0) 5 64 6 = 8 ∧
    hostHeader (hosting 0) 5 0 = 0 ∧ hostLength (hosting 0) 5 4 = 4 ∧ hostLength (hosting 0) 5 8 = 4 := by decide +kernel

theorem hosting_turn (taken : Nat) : TurnOf (hosting taken) 5 ∧ ¬ TurnOf (hosting taken) 4 := by
  have h (k : Nat) : hostHead (hosting k) 5 = 0 := hosting_queue.1
  have h' (k : Nat) : hostField (hosting k) 5 192 64 = 4 := hosting_queue.2.1
  have hr : QueueReady (hosting taken) 5 := ⟨rfl, rfl, by rw [h, h']; decide⟩
  exact ⟨⟨0, by decide, rfl, hr, nofun⟩, fun ⟨i, _, _, h4, _⟩ => absurd h4.1 (by rw [show (hostQ (hosting taken) 4).enable = false from rfl]; decide)⟩

theorem witness_hostQueues : 63 < 64 ∧ DoorbellStops (hosting 0) 5 (2 ^ 50) ∧ ¬ DoorbellStops (hosting 0) 5 8 ∧
    ¬ DoorbellStops (hosting 0) 5 (2 * 2 ^ 44 + 12) ∧ (hostQ (hosting 0) 5).desc.toNat % 256 = 0 ∧ (hosting 0).memory.wf = true ∧
    LowestEntry (hosting 0) 0 ∧ (∀ k < 1024, ∃ p ∈ (askedUpTo 1024).reqs, p.1 = k) ∧
    (hostHeader (hosting 0) 5 0 / 65536 = (hostQ (hosting 0) 5).taken % 65536 ∧
      StartLegal (takenRecord (hostHeader (hosting 0) 5 0 % 65536) (hostField (hosting 0) 5 768 512) fun k => hostByteAt (hosting 0) 5 (0 + k))) ∧
    hostHeader (hosting 1) 5 0 / 65536 ≠ (hostQ (hosting 1) 5).taken % 65536 := by
  obtain ⟨h1, h2, h3, h4, h5, h6⟩ := hosting_queue
  refine ⟨by decide, .inl (by decide), ?_, ?_, by decide, by decide +kernel, ⟨nofun, by decide, nofun⟩, asked_each 1024,
    ⟨by rw [h4]; rfl, ?_⟩, by decide +kernel⟩
  · unfold DoorbellStops
    simp only [h1, h2, h3, show 8 / 2 ^ 44 % 16 = 0 from rfl, show doorbellTail 4 8 = 8 from rfl, RecordsFill]
    decide
  · unfold DoorbellStops
    simp only [h1, h2, h3, show (2 * 2 ^ 44 + 12) / 2 ^ 44 % 16 = 2 from rfl, show doorbellTail 4 (2 * 2 ^ 44 + 12) = 12 from rfl, RecordsFill, h5, h6]
    decide
  · unfold StartLegal
    refine ⟨by decide +kernel, by decide +kernel, by decide +kernel, by decide +kernel, by decide +kernel, ?_⟩
    have h : ∀ j < 4, recordField (takenRecord (hostHeader (hosting 0) 5 0 % 65536) (hostField (hosting 0) 5 768 512) fun k =>
        hostByteAt (hosting 0) 5 (0 + k)) (12 + j) = 0 := by decide +kernel
    intro i hi hlt
    have := h (i - 12) (by omega)
    rwa [show 12 + (i - 12) = i by omega] at this

/-- A thread-end event that waits for the ring, and a slot that covers one behind it. -/
def recording : State :=
  { small with events := [⟨[4, 9, 0, 0], some 6⟩], slots := [(6, { st := 2, psize := 8 }), (7, { st := 1 })], arrived := [⟨77, 3, 0x810000, 2⟩] }

theorem witness_eventRing : recording.events = [⟨[4, 9, 0, 0], some 6⟩] ∧
    (recording.regs.evtail - recording.regs.evhead).toNat < 2 ^ recording.regs.evsz ∧ recording.memory.wf = true ∧ Covers recording 6 1 ∧
    2 ^ 8 ≤ ((256 : Word) - 0).toNat ∧ small.events = [] ∧ (8 ≤ 16 ∧ 17 > 16) ∧ (2 ^ 23 / 2 ^ 23 % 2 = 1) ∧
    (∀ p ∈ recording.arrived, p.queue ≠ 4) ∧ (0 / 2 ^ 23 % 2 = 0 ∧ ∃ p ∈ recording.arrived, p.queue = 3) ∧ 1023 < 1024 ∧ 1535 < 1536 :=
  ⟨rfl, by decide, rfl, ⟨by decide, by decide, by decide⟩, by decide, rfl, by decide, rfl, by decide, by decide, by decide, by decide⟩

/-- R256: kind 2 occurs while no routing runs. -/
theorem test_wait : rx (after (.wait 8 4 ) (noting 0x900 2 0 0)) 8 = 1 ∧ (after (.notify 8 4) (noting 0x900 1 5 0)).hart.slotN.handler = 0x900 := by
  decide +kernel

/-- R342: the record of 32 bytes stands at EVB, and the slots are free. -/
theorem test_eventRecord : let t := after .eventRecordWrite recording
    mgetN t.memory 0 8 = 4 ∧ t.regs.evtail = 1 ∧ t.slots.all (fun p => p.2.st == 0) = true := by decide +kernel

/-! Witnesses for the statements about threads and their contexts. -/

/-- A slot table with one record, over a frame of 4 lanes; no hart runs. -/
def recordOf (psize : Nat) : Slot := { psize, vlmax := 8, frame := 0x30000 }
def binding (x : Slot) (d : Nat) : State := { State.reset with slots := [(8, x)], memory := mputN [] 0x30000 8 d }
def frameOf4 : Nat := 4 * 2 ^ 22 + 4 * 2 ^ 16

theorem none_bound (x : Slot) (d c : Nat) (h : Hart) : ¬ HartOn (binding x d) c h := fun ⟨hh, hr, _⟩ => by
  obtain rfl := List.mem_singleton.mp hh
  exact hr rfl

theorem binding_lanes : bindLane 8 = 0 ∧ liveLanes (coreAt (binding (recordOf 4) 0) (bindCore 0 8)) 0 4 = 4 ∧
    frameWord (binding (recordOf 4) frameOf4) (recordOf 4) 0 = frameOf4 := by decide +kernel

theorem binding_fits (restore : Bool) (q : Nat) : ¬ Sys2Proof.Claims.Meets (binding (recordOf 4) frameOf4) 0 8 0 restore q := by
  have hl : liveLanes (coreAt (binding (recordOf 4) frameOf4) (bindCore 0 8)) (bindLane 8) (recordOf 4).psize = 4 := binding_lanes.2.1
  have hx : tget (binding (recordOf 4) frameOf4).slots (512 * 0 + 8) {} = recordOf 4 := rfl
  unfold Sys2Proof.Claims.Meets
  simp only [hl, hx, binding_lanes.2.2]
  rintro (⟨_, h⟩ | ⟨_, h⟩ | ⟨_, h, hh, _⟩ | ⟨_, _, h⟩ | ⟨_, _, h, _⟩ | ⟨_, _, h, _⟩ | ⟨_, h⟩)
  · exact absurd h (by decide)
  · exact absurd h (by decide +kernel)
  · exact none_bound _ _ _ _ hh
  · exact absurd h (by decide)
  · exact absurd h (by decide)
  · exact absurd h (by decide)
  · exact absurd h (by decide)

theorem witness_binds : (0 ≤ 23 ∧ 8 ≤ 511 ∧ 23 < 24 ∧ 511 < 512) ∧ OneEach (binding (recordOf 4) frameOf4) (bindCore 0 8) ∧
    IndexIs (binding (recordOf 4) frameOf4) (bindCore 0 8) (bindLane 8) 0 ∧
    (∀ restore, ResultIs (binding (recordOf 4) frameOf4) 0 8 0 restore 0) ∧ (∀ restore, ResultIs (binding (recordOf 5) frameOf4) 0 8 0 restore 6) ∧
    (binding (recordOf 4) frameOf4).memory.wf = true ∧ frameWord (binding (recordOf 4) frameOf4) (recordOf 4) 0 / 2 ^ 35 % 2 = 0 ∧
    ∀ y ∈ (binding (recordOf 4) frameOf4).saved, y.ctxid = 0 → y.inflight = [] ∧ y.run = .saving false :=
  ⟨by decide, fun _ _ h => absurd h (none_bound _ _ _ _), .inl ⟨rfl, fun _ h => absurd h (none_bound _ _ _ _)⟩,
    fun _ => .inl ⟨rfl, binding_fits _⟩, fun _ => .inr ⟨.inl ⟨rfl, .inl (by decide)⟩, .inl rfl⟩, by decide +kernel,
    by rw [binding_lanes.2.2]; decide, fun _ hy => nomatch hy⟩

/-- A hart of slot 0 and one of slot 4 that run. -/
def bound : State :=
  { small with slots := [(0, { st := 2 }), (4, { st := 2 })], others := [{ small.hart with lbase := 16, idx := 1, ctxid := 3 }] }

/-- A hart that is being saved, with bytes it has not published, and one with an instruction in flight. -/
def leaving (es : List Entry) (own : Table OwnByte) : State :=
  { small with hart := { small.hart with run := .saving false, frame := 0x100000, inflight := es, own } }

theorem next_of {o : Host.Outcome State Fault Refusal} {p : State → Bool}
    (h : (match o with | .next t => p t | _ => false) = true) : ∃ t, o = .next t ∧ p t = true := by
  split at h
  · exact ⟨_, rfl, h⟩
  · cases h

theorem witness_preEmpt : (tget bound.slots 0 {}).st = 2 ∧ bound.hart.run ≠ .idle ∧ bound.hart.slot = 0 ∧ (tget bound.slots 4 {}).st = 2 ∧
    (∃ h ∈ bound.others, h.run ≠ .idle ∧ h.slot = 4) ∧ (bound.hart :: bound.others).Pairwise (fun g h => g.slot ≠ h.slot) ∧
    (tget bound.slots 5 {}).st ≠ 2 :=
  ⟨rfl, by decide, by decide, rfl, ⟨_, List.mem_singleton.mpr rfl, by decide, by decide⟩, by decide, by decide⟩

theorem empty_reads (a w : Nat) : mgetN [] a 4 < 2 ^ w := by
  have : mgetN [] a 4 = 0 := rfl
  rw [this]
  positivity

theorem witness_saves : small.hart.run = .running ∧ (leaving [] []).hart.slot = 0 ∧ (leaving [] []).hart.run = .saving false ∧
    (leaving [] []).hart.held = none ∧ (leaving [] []).hart.request = none ∧ .late 0 ∉ (leaving [] []).agenda ∧ TilesFit (leaving [] []).core ∧
        (leaving [entry] []).hart.inflight = [entry] ∧
    (∀ a b c d, decodeWord entry.w1 ≠ .ok (.nlsend a b c d) ∧ decodeWord entry.w1 ≠ .ok (.nlrecv a b c d)) ∧
    (∃ u, exec .elementGroupCommit (leaving [{ entry with bmap := 0 }] []) = .next u ∧ decide (u.hart.slot = 0) = true) ∧
    Quiet (leaving [] []) ∧ ¬ Quiet { leaving [] [] with transit := [⟨1, 1, 1, 1, 1, 1, 0⟩] } ∧ (leaving [] []).hart.swap = false ∧
    (leaving [] []).memory.wf = true ∧ FrameFits (leaving [] []) ∧ Evictable (leaving [] [(0x2000, ⟨7, 0x2000, false, false⟩)]) := by
  have hd : decodeWord entry.w1 = .ok (.vadd 3 1 2 0 0 0 0) := by decide
  refine ⟨rfl, by decide, rfl, rfl, rfl, List.not_mem_nil, ?_, rfl, fun a b c d => by rw [hd]; exact ⟨nofun, nofun⟩, next_of (by decide +kernel),
      ⟨by decide, nofun, ?_⟩,
    fun h => h.2.1 _ (List.mem_singleton.mpr rfl) rfl, rfl, rfl, ⟨by decide, by decide, nofun, by decide, by decide, nofun, nofun⟩, ?_⟩
  · rintro t (rfl | rfl) <;>
      exact ⟨by decide, fun k j => empty_reads _ _, fun b j => empty_reads _ _⟩
  · rintro ⟨op, h, _⟩; cases h
  · have hu : unpublished (leaving [] [(0x2000, ⟨7, 0x2000, false, false⟩)]) = [(0x2000, ⟨7, 0x2000, false, false⟩)] := by decide +kernel
    unfold Evictable
    rw [hu]
    exact ⟨takes_of (p := (0x2000, ⟨7, 0x2000, false, false⟩)) rfl rfl (by decide +kernel) rfl, fun o _ => unmoved_of rfl _,
      fun p hp => by obtain rfl := List.mem_singleton.mp hp; exact .inl (by decide +kernel)⟩

/-- A save whose eviction is served after the deadline of the context. -/
def leavingLate : State :=
  { leaving [] [(0x2000, ⟨7, 0x2000, false, false⟩)] with
    delays := [{ line := 64, wait := 7000, accept := 0, queued := false, acts := false }]
    hart := { (leaving [] [(0x2000, ⟨7, 0x2000, false, false⟩)]).hart with deadline := 1 } }

theorem witness_saveLate : (∃ p ∈ unpublished leavingLate,
      servedLate leavingLate leavingLate.hart.deadline (homeAddr leavingLate (homeAddr leavingLate p.2.pa / 128 * 128)) = true) ∧
    Evictable leavingLate ∧ leavingLate.hart.inflight = [] ∧ (∀ p ∈ unpublished leavingLate,
      paModule (homeAddr leavingLate p.2.pa / 128 * 128) = ownModule leavingLate) := by
  have hu : unpublished leavingLate = [(0x2000, ⟨7, 0x2000, false, false⟩)] := by decide +kernel
  unfold Evictable
  rw [hu]
  exact ⟨⟨_, List.mem_singleton.mpr rfl, by decide +kernel⟩, ⟨takes_of (p := (0x2000, ⟨7, 0x2000, false, false⟩)) rfl rfl (by decide +kernel) rfl,
    fun o _ => unmoved_of rfl _, fun p hp => by obtain rfl := List.mem_singleton.mp hp; exact .inl (by decide +kernel)⟩, rfl,
    fun p hp => by obtain rfl := List.mem_singleton.mp hp; decide +kernel⟩

/-- A receive in flight that waits for its row. -/
def receiving : Entry := { entry with w1 := encode (.nlrecv 3 1 0 0), lap := none }

theorem witness_savesAtALink : (leaving [receiving] []).hart.inflight = [receiving] ∧ linkWaits (leaving [receiving] []) = true ∧
    receiving.lap = none := ⟨rfl, by decide +kernel, rfl⟩

/-- R14, R340: a start leaves a running thread of the record's lanes. -/
theorem test_start : let t := after (.start 0 8) (binding (recordOf 4) frameOf4)
    t.slots.any (fun p => p.1 == 8 && p.2.st == 2) = true ∧ (t.hart :: t.others).any (fun h => h.run == .running && h.lanes == 4) = true := by
  decide +kernel

/-! Witnesses for the statements about packets, moves, ports and power. -/

/-- A request for 8 bytes at the address 0x2000 of this module, or of module 1, to which port 0 leads; a hart of context 9. -/
def request (id place : Nat) (kind : PacketKind) (stamp : Nat) (late : Bool) : Packet :=
  { id, place, port := 0, hops := [], kind, addr := 0x2000, stamp, va := 0x2000, pc := 0x1000, ctxid := 9, fromDeadline := late }
def abroad (p : Packet) : Packet := { p with addr := 2 ^ 44 + 0x2000 }
def anAdd (v : Nat) : PacketKind := .atomic 1 8 v 0
def joining (state : Nat) : Port := { state, locked := 0x3FFFF, trained := 0x3FFFF }
def neighbour (state : Nat) : State :=
  { small with membership := 3, ports := [(0, joining state)], hart := { small.hart with ctxid := 9, deadline := 0x100000 } }
def carrying (ps : List Packet) : State := { neighbour 3 with packets := ps }

theorem neighbour_paths : pathTo (neighbour 3) 1 1 = some ⟨0, [1]⟩ ∧ pathTo (neighbour 2) 1 1 = none := by decide +kernel

theorem witness_stamps : (∃ q, ((carrying []).combines.flatMap Combine.parts ++ (carrying [request 5 3 (.read 8) 7 false]).packets).find?
      (fun q => q.ctxid == (carrying []).hart.ctxid && q.addr / 128 == 0x2010 / 128 && q.id / 2 ^ 27 == moduleOf (carrying [])) = some q) ∧
    LocalTo (carrying []) 0x2000 ∧ ¬ LocalTo (carrying []) (2 ^ 44 + 0x2000) ∧ flitCount (.read 8) = 1 ∧ 2 ^ 44 / 2 ^ 44 % 4096 = 1 :=
  ⟨⟨request 5 3 (.read 8) 7 false, by decide⟩, by unfold LocalTo; decide, by unfold LocalTo; decide, by decide, by decide⟩

/-- The earliest of several at a place, the first of equals; none at another. -/
theorem witness_served : ServedNext (carrying [request 1 2 (.read 8) 9 false, request 2 2 (.write [7]) 5 false, request 3 2 (.read 8) 5 false]) 2
      (request 2 2 (.write [7]) 5 false) ∧ (∀ p ∈ (carrying [request 1 2 (.read 8) 9 false]).packets, p.place ≠ 3) ∧
    (∀ place, ServedNext (carrying [request 1 place (anAdd 3) 5 false]) place (request 1 place (anAdd 3) 5 false)) ∧
    (carrying []).memory.wf = true := by
  refine ⟨⟨rfl, rfl, [request 1 2 (.read 8) 9 false], [request 3 2 (.read 8) 5 false], rfl, fun u hu _ _ => ?_, fun u hu _ _ => ?_⟩, by decide,
    fun place => ⟨rfl, rfl, [], [], rfl, nofun, nofun⟩, rfl⟩
  · obtain rfl := List.mem_singleton.mp hu
    decide
  · obtain rfl := List.mem_singleton.mp hu
    decide

/-- What a home finds: a page that moves, one that has moved, lost data, a parcel in transit, a reply that is kept. -/
def movingPage : State := { carrying [] with moves := [(0, { source := 0, status := 1 })] }
def movedPage : State := { carrying [] with forwards := [(0, 2 ^ 28)] }
def lostData : State := { carrying [] with badBytes := [0x2003] }
def answered (b : Bool) : State := { carrying [] with replies := [(if b then 5 else 6, ⟨0x2000, 4⟩)] }

theorem witness_homes : (Changes (request 5 2 (.write [7]) 5 false) ∧ moving movingPage 0x2000 = true) ∧ ¬ Changes (request 5 2 (.read 8) 5 false) ∧
    (homeAddr movedPage 0x2000 = 2 ^ 44 + 0x2000 ∧ ¬ LocalTo movedPage (2 ^ 44 + 0x2000) ∧ unreachableFor movedPage (2 ^ 44 + 0x2000) 1 = none ∧
      unreachableFor (neighbour 2) (2 ^ 44 + 0x2000) 1 = some 3) ∧
    (homeAddr (carrying []) 0x2000 = 0x2000 ∧ inTransit (carrying []) 0x2000 = false ∧ uncorrectable (carrying []) 0x2000 8 = false) ∧
    uncorrectable lostData 0x2000 8 = true ∧ inTransit (writeWindow parcels { parcelWin with state := 2 }) 0x820000 = true ∧
    (IsAtomic (request 5 2 (anAdd 3) 5 false) ∧ (answered true).replies.find? (fun r => r.1 == 5) = some (5, ⟨0x2000, 4⟩) ∧
      (answered false).replies.find? (fun r => r.1 == 5) = none) ∧
    ((carrying []).lost.getLsbD 1 = false ∧ { carrying [] with lost := 2 }.lost.getLsbD 1 = true) := by
  refine ⟨⟨nofun, by decide⟩, fun h => h 8 rfl, ⟨by decide, by unfold LocalTo; decide, by decide +kernel, by decide +kernel⟩,
    ⟨by decide, by decide +kernel, by decide⟩, by decide, by decide +kernel, ⟨⟨1, 8, 3, 0, rfl⟩, by decide, by decide⟩, by decide +kernel,
        by decide +kernel⟩

/-- A publication of another module that waits for a second shadow version, and others that are served past it. -/
theorem witness_stalls : (let s := { held with packets := [request 5 2 (.write [7]) 5 false] }
      (∀ u ∈ s.packets, u.place = 2 → stallsAt s u ≠ []) ∧ NextAmong s 2 (request 5 2 (.write [7]) 5 false) (fun _ => True)) ∧
    ServedNext { held with packets := [request 5 2 (.write [7]) 5 false, request 6 2 (.read 8) 9 false] } 2 (request 6 2 (.read 8) 9 false) := by
  refine ⟨⟨?_, rfl, trivial, [], [], rfl, nofun, nofun⟩, rfl, rfl, [request 5 2 (.write [7]) 5 false], [], rfl, fun u hu _ h => ?_, nofun⟩
  · intro u hu _
    obtain rfl := List.mem_singleton.mp hu
    decide +kernel
  · obtain rfl := List.mem_singleton.mp hu
    exact absurd h (by decide +kernel)

/-- A request whose failure has been reported; one of another module; one for the register window; the sender of an element; combined requests. -/
theorem witness_fates : { request 5 2 (.read 8) 5 false with told := true }.told = true ∧ (request 5 2 (.read 8) 5 false).told = false ∧
    ¬ OfModule small (request (2 ^ 27 + 5) 2 (.read 8) 5 false).id ∧
    (0xF0000000000 ≤ 0xF0000000008 % 2 ^ 44 ∧ 0xF0000000008 % 2 ^ 44 < 0xF0040000000) ∧
    (let s := { small with hart := { small.hart with elems := [⟨5, 1, 0x2000, none, none⟩] } }
     (s.hart :: s.others).find? (fun h => decide (h.run ≠ .idle) && h.elems.any fun r => r.id == 5) = some s.hart) ∧
    LocalTo (carrying []) (homeAddr (carrying []) 0x2000) ∧
    (¬ LocalTo (carrying []) (2 ^ 44 + 0x2000) ∧ unreachableFor (carrying []) (2 ^ 44 + 0x2000) (flitCount (.read 8)) = none ∧
      pathTo (carrying []) 1 (flitCount (.read 8)) = some ⟨0, [1]⟩) ∧
    unreachableFor { carrying [] with ports := [(0, { joining 3 with txctr := 2 ^ 96 })] } (2 ^ 44 + 0x2000) 1 = some 3 :=
  ⟨rfl, rfl, by unfold OfModule; decide, by decide, by rfl, by unfold LocalTo; decide, ⟨by unfold LocalTo; decide, by decide +kernel, by decide +kernel⟩,
    by decide +kernel⟩

/-- A late packet of a context that runs, of a saved one, of none. -/
def savedContext : State := { carrying [] with time := 0x1000000, saved := [{ Hart.reset with ctxid := 4, frame := 0x100000 }] }

theorem witness_notes : IsLate savedContext (request 5 2 (.read 8) 5 true) ∧ ¬ IsLate (carrying []) (request 5 2 (.read 8) 5 true) ∧
    boundTo savedContext 9 = some savedContext.hart ∧ boundTo savedContext 4 = none ∧
    savedAs savedContext 4 = some { Hart.reset with ctxid := 4, frame := 0x100000 } ∧ savedAs savedContext 5 = none ∧
        boundTo savedContext 5 = none := by
  refine ⟨⟨by unfold OfModule; decide, rfl, by decide⟩, fun h => absurd h.2.2 (by decide), by rfl, by rfl, by rfl, by rfl, by rfl⟩

/-- A hart that awaits the reply of an atomic, with a result or without; a combined request that has been sent. -/
def expecting (op : Nat) : State := { carrying [] with hart := { (carrying []).hart with request := some ⟨5, 0, op, 8, 3, 0, 0x2000, 0x2000⟩ } }
def aCombine (sent : Option Nat) : Combine := ⟨256 * 400, 2 ^ 44 + 0x2000, 8, [abroad (request 6 400 (anAdd 3) 9 false)], 9, sent⟩
def combining (sent : Option Nat) : State := { carrying [] with combines := [aCombine sent] }

theorem witness_replied : (∀ op, Requester (expecting op) 5 (expecting op).hart ⟨5, 0, op, 8, 3, 0, 0x2000, 0x2000⟩ ∧ (expecting op).hart.lap = none ∧
      combineOf (expecting op) 5 = none ∧ (expecting op).hart.held = none ∧ (expecting op).hart.depth < 2) ∧
    (Returns 9 ∧ ¬ Returns 1) ∧ combineOf (combining (some 7)) 7 = some (aCombine (some 7)) ∧ combineOf (combining (some 7)) 6 = none ∧
    Unawaited (carrying []) 5 ∧ OfModule (carrying []) 5 ∧ ¬ OfModule (carrying []) (2 ^ 27 + 5) ∧
    (∀ q ∈ (aCombine (some 7)).parts, combineOf (combining (some 7)) q.id = none) ∧
    ∀ x ∈ (carrying []).transit, x.handle ≠ 8 := by
  refine ⟨fun op => ⟨⟨?_, rfl, fun g hg _ => List.mem_singleton.mp hg⟩, rfl, rfl, rfl, Nat.zero_lt_two⟩,
      ⟨by unfold Returns; decide, by unfold Returns; decide⟩,
    by rfl, by rfl, fun h hh _ r hr => ?_, by unfold OfModule; decide, by unfold OfModule; decide, fun q hq => ?_, nofun⟩
  · simp [expecting, carrying, neighbour, small, State.reset]
  · obtain rfl := List.mem_singleton.mp hh
    cases hr
  · obtain rfl := List.mem_singleton.mp hq
    rfl

/-- An error queue with room, and one that is full. -/
theorem witness_errorRing : homeAddr (carrying []) (moduleOf (carrying []) * 2 ^ 44 + ((carrying []).regs.errb.toNat + 2048 * 9) % 2 ^ 44) % 2048 = 0 ∧
    (mgetN (carrying []).memory 0x4800 8 + 2 ^ 64 - mgetN (carrying []).memory 0x4808 8) % 2 ^ 64 ≠ 63 ∧
    (mgetN { carrying [] with memory := [(0x4800, 63)] }.memory 0x4800 8 + 2 ^ 64 -
      mgetN { carrying [] with memory := [(0x4800, 63)] }.memory 0x4808 8) % 2 ^ 64 = 63 := by decide +kernel

theorem witness_parcelPacket : refusal { parcels with arrq := [(3, ⟨true, 0⟩)] } 3 1 = none ∧
    poolFree { parcels with arrq := [(3, ⟨true, 0⟩)] } (65536 * 1) = some 0x800000 ∧ refusal small 3 1 = some 7 ∧ Memory.wf [] = true := by
  decide +kernel

/-- A switch output: adds that join a slot, that open one, that find it full; a packet that leaves, and one that its port does not take. -/
theorem witness_combining : (Adds (request 5 400 (anAdd 3) 5 false) ∧ ¬ Adds (request 5 400 (.read 8) 5 false)) ∧
    heldParts (combining none) 400 < 256 ∧ heldFor (combining none) (abroad (request 5 400 (anAdd 3) 5 false)) 8 = some (aCombine none) ∧
    heldFor (combining (some 7)) (abroad (request 5 400 (anAdd 3) 5 false)) 8 = none ∧
    ((∀ c ∈ (combining (some 7)).combines, c.slot ≠ 256 * 400 + 1) ∧ ∀ j < 1, ∃ c ∈ (combining (some 7)).combines, c.slot = 256 * 400 + j) ∧
    256 ≤ heldParts { combining none with combines := [{ aCombine none with parts := List.replicate 256 (request 6 400 (anAdd 3) 9 false) }] } 400 ∧
    ((portIn (neighbour 4) 0).state = 4 ∧ (portIn (neighbour 3) 0).state = 3) ∧ ¬ Spent (joining 3) 1 ∧
    Spent { joining 3 with txctr := 2 ^ 96 } 1 ∧ (joining 3).replay.length + 1 ≤ 2048 := by
  refine ⟨⟨⟨1, 8, 3, 0, rfl, .inl rfl⟩, nofun⟩, by decide, by rfl, by rfl, ⟨by decide, by decide⟩, by decide +kernel, ⟨rfl, rfl⟩, ?_,
      ⟨rfl, by decide⟩, by decide⟩
  rintro ⟨-, h⟩
  exact absurd h (by decide)

theorem witness_answers : (∀ c ∈ (combining (some 7)).combines, c.slot = 256 * 400 → c.sent ≠ none) ∧
    (combining none).combines.find? (fun c => c.slot == 256 * 400 && c.sent.isNone) = some (aCombine none) ∧
    (∀ c ∈ (combining none).combines, c.slot = 256 * 400 → c.sent = none) ∧
    (combining (some 7)).combines.find? (fun c => c.slot == 256 * 400 && c.sent.isSome) = some (aCombine (some 7)) ∧
    (let ps := [request 1 2 (.read 8) 9 false, request 2 400 (.read 8) 9 false, abroad (request 3 1025 (.write [7]) 9 false)]
     (carrying ps).packets.find? (fun p => p.id == 1) = some (request 1 2 (.read 8) 9 false) ∧
      (carrying ps).packets.find? (fun p => p.id == 2) = some (request 2 400 (.read 8) 9 false) ∧
      (carrying ps).packets.find? (fun p => p.id == 1 && decide (p.place < 384)) = some (request 1 2 (.read 8) 9 false) ∧
      (∀ p ∈ (carrying ps).packets, p.id = 2 → 384 ≤ p.place) ∧ (∀ p ∈ (carrying ps).packets, p.id ≠ 9) ∧
      (carrying ps).packets.find? (fun p => p.id == 3 && decide (1024 ≤ p.place)) = some (abroad (request 3 1025 (.write [7]) 9 false)) ∧
      (carrying ps).packets.find? (fun p => p.id == 6 && decide (1024 ≤ p.place)) = none) ∧
    (((combining (some 7)).combines.filter fun c => c.sent.isSome).flatMap Combine.parts).find? (fun p => p.id == 6) =
      some (abroad (request 6 400 (anAdd 3) 9 false)) ∧
    (((combining none).combines.filter fun c => c.sent.isSome).flatMap Combine.parts).find? (fun p => p.id == 6) = none ∧
    (∃ d, delayOf { carrying [] with delays := [{ line := (2 ^ 44 + 0x2000) / 128, wait := 90000, accept := 0, queued := false, acts := true }] } (2 ^ 44 + 0x2000) = some d ∧ d.acts = true) ∧
    Changes (abroad (request 3 1025 (.write [7]) 9 false)) := by
  refine ⟨by decide, by rfl, by decide, by rfl, by decide, by rfl, by rfl, ⟨_, by rfl, rfl⟩, nofun⟩

/-- A module with a move that runs and one that forwards; the frame 9 moved twice just before; the frame 8 pinned; a spilled version. -/
def relocating : State :=
  { small with
    moves := [(2, { new := 0x77, status := 1, source := 5, target := 0x77 }), (3, { new := 0x78, status := 2, source := 6, target := 0x78 })]
    moved := [(9, 0), (9, 0)], pins := [(8, 5)], spill := [3], regs := { small.regs with ppool := 0x800000, ppoolsz := 0x40000 } }

theorem witness_moves : (15 < 16 ∧ (tget relocating.moves 2 {}).status = 1 ∧ (tget relocating.moves 3 {}).status = 2 ∧
      (tget relocating.moves 4 {}).status = 0) ∧ NotMovable relocating 4 5 0x79 ∧ NotMovable relocating 4 0x80 0x79 ∧
    ¬ NotMovable relocating 4 8 0x79 ∧ (∃ p ∈ relocating.pins, p.1 = 8) ∧ ¬ NotMovable relocating 4 9 0x79 ∧ (∀ p ∈ relocating.pins, p.1 ≠ 9) ∧
    MovedTwice relocating 9 ∧ ¬ NotMovable relocating 4 10 0x79 ∧ (∀ p ∈ relocating.pins, p.1 ≠ 10) ∧ ¬ MovedTwice relocating 10 ∧
    relocating.memory.wf = true ∧ (0x77 < 2 ^ 40 ∧ SpillApart relocating 0x77) ∧ relocating.pins.find? (fun p => p.1 == 8) = some (8, 5) ∧
    2 ^ 63 ≤ (relocating.time - 5).toNat ∧ ((7 : Word) - 5).toNat < 2 ^ 63 := by
  unfold NotMovable MovedTwice SpillApart
  decide +kernel

/-- Counts of a frame of this module and of one of module 1, whose table stands at 0x700000. -/
def counted : State :=
  { small with
    regs := { small.regs with hotb := 0x700000 }, peers := [(1, { hotb := 0x700000 })]
    core := { small.core with hot := [(9, 3), (4 * 2 ^ 28 + 1, 2)] } }

theorem witness_hotness : small.memory.wf = true ∧ CountedAt counted 9 (0x700000 + 36) ∧ CountedAt counted (4 * 2 ^ 28 + 1) (2 ^ 44 + 0x700000 + 4) ∧
    CountedAt counted (4 * 2 ^ 28 + 1) (2 ^ 44 + 0x700000 + 12) ∧ ¬ HasTable small 9 ∧
    (0xF0000000000 ≤ 0xF0000000008 % 2 ^ 44 ∧ 0xF0000000008 % 2 ^ 44 < 0xF0040000000) ∧ ¬ 0xF0000000000 ≤ 0x2000 % 2 ^ 44 := by
  unfold CountedAt HasTable
  decide +kernel

theorem counted_tables : (∀ m, (tablesOf counted m).hotb.toNat % 4 = 0) ∧ ∀ m, (tablesOf small m).hotb.toNat % 4 = 0 := by
  constructor <;> intro m <;> unfold tablesOf <;> split
  · decide
  · by_cases h : 1 = m <;> simp [counted, tget, h]
  · decide
  · simp [small, State.reset, tget]

/-- Module 0 with ports 0 and 4 UP to modules 1 and 2, and port 112 to module 3, all four modules in the membership map. -/
def fabric : State := { small with membership := 0xF, ports := [(0, joining 3), (4, joining 3), (112, { joining 3 with peer := 3 })] }

theorem witness_paths : (5 < 4096 ∧ 111 < 112 ∧ 3 < 4) ∧ (1 ≠ moduleOf fabric ∧ 3 ≠ moduleOf fabric) ∧ LeastLoaded fabric (freeUp fabric 3) 112 ∧
    freeUp fabric 1 = [] ∧ Way fabric (route 0 1) ⟨0, [1]⟩ ∧ Way fabric (route 0 2 ++ route 2 1) ⟨4, [2, 1]⟩ ∧
    product fabric 1 ⟨0, [1]⟩ ≤ product fabric 1 ⟨4, [2, 1]⟩ ∧
    (let s := { fabric with packets := [request 9 384 (.write (List.replicate 999 0)) 0 false] }
     product s 1 ⟨4, [2, 1]⟩ < product s 1 ⟨0, [1]⟩) ∧
    (∀ w, ¬ Way fabric (route 0 8) w) ∧ fabric.membership.getLsbD 8 = false ∧ fabric.membership.getLsbD 1 = true ∧
    pathTo (neighbour 2) 1 1 = none ∧ pathTo fabric 3 1 = some ⟨112, [3]⟩ ∧ (∀ x ∈ [3], fabric.lost.getLsbD x = false) ∧
    { fabric with lost := 8 }.lost.getLsbD 3 = true := by
  have h0 : portsUp fabric 1 = [0] := by decide +kernel
  have h2 : portsUp fabric 2 = [4] := by decide +kernel
  have h8 : portsUp fabric 8 = [] := by decide +kernel
  refine ⟨by decide, by decide, ⟨[], [], by decide +kernel, nofun, nofun⟩, by decide +kernel,
    ⟨by decide, 1, [], by decide, [], [], h0, nofun, nofun⟩, ⟨by decide, 2, [1], by decide, [], [], h2, nofun, nofun⟩, by decide +kernel,
        by decide +kernel,
    ?_, by decide +kernel, by decide +kernel, neighbour_paths.2, by decide +kernel, by decide +kernel, by decide +kernel⟩
  rintro w ⟨-, m, rest, hm, as, bs, hp, -⟩
  rw [show route 0 8 = [8] by decide] at hm
  cases hm
  rw [h8] at hp
  simp at hp

/-- R352 and R371: module 0x2C5 has module 0x305 behind its port 58; the reset lane map takes every wavelength of a fibre in its order, and the map of
a dropped lane 14 leaves it out. -/
theorem test_neighbour : portNeighbour 0x2C5 58 = 0x305 ∧
    (List.range 16).all (fun w => laneWave 0x7654321076543210 w == some (9 * (w / 8) + w % 8)) = true ∧
    laneWave 0x7684321076543210 13 = some 17 := by decide

/-- A port with one flit in its replay buffer. -/
def aPort (state : Nat) : Port :=
  { joining state with replay := [⟨4, 1⟩], txPend := some 5, rxPend := some 6, rxKey := 9, peer := 1 }
def linking (x : Port) : State := { small with ports := [(112, x)] }

theorem witness_flits : (portIn (linking (aPort 3)) 112).state = 3 ∧ (portIn (linking (aPort 2)) 112).state ≠ 3 ∧
    ((1 : Nat) ≠ (aPort 3).rxIdx ∧ (aPort 3).rxPend = some 6) ∧ ((0 : Nat) = (aPort 3).rxIdx ∧ 9 = (aPort 3).rxKey) ∧
    ((1 : Nat) ≠ (joining 3).rxIdx ∧ (joining 3).rxPend = none) ∧ 127 < 128 ∧ (7 : Nat) ≠ (aPort 3).expect ∧
    ¬ ((∃ f ∈ (aPort 3).replay, 8 ≤ f.sent) ∨ Spent (aPort 3) 1) ∧ (∃ f ∈ { aPort 3 with replay := [⟨4, 8⟩] }.replay, 8 ≤ f.sent) := by
  refine ⟨rfl, by decide, by decide, by decide, by decide, by decide, by decide, ?_, by decide⟩
  rintro (h | h)
  · exact absurd h (by decide)
  · exact absurd h.1 (by decide)

theorem witness_ports : (portIn (linking (aPort 4)) 112).state = 4 ∧ (portIn (linking (aPort 1)) 112).state = 1 ∧
    (portIn (linking (aPort 2)) 112).state = 2 ∧ ((aPort 2).peerMap = (aPort 2).lmap ∧ 8 ≤ workingLanes { aPort 2 with lanes := (aPort 2).lmap }) ∧
    ¬ ({ aPort 2 with peerMap := 0 }.peerMap = (aPort 2).lmap) ∧ workingLanes { aPort 2 with lanes := 0xFFFFFFFFFFFFFFFF } < 8 ∧
    ((aPort 4).txPend = some 5 ∧ (aPort 4).rxPend = some 6) ∧ (portIn small 112).txPend = none ∧ 112 ≤ 127 := by decide +kernel

/-- A stopped port for which UP has been written, with pending keys and lanes that both ends hold; a link-control flit that leaves, and one that meets
a spent counter. -/
theorem witness_cameUp : (let x := { aPort 4 with upAsked := true }
      x.upAsked = true ∧ x.peerMap = x.lmap ∧ 8 ≤ workingLanes { x with lanes := x.lmap } ∧ x.txPend = some 5 ∧ x.rxPend = some 6) ∧
    ((aPort 3).state = 3 ∧ ¬ Spent (aPort 3) 1) ∧ Spent { joining 3 with txctr := 2 ^ 96 } 1 :=
  ⟨by decide +kernel, ⟨rfl, fun h => absurd h.1 (by decide)⟩, rfl, by decide⟩

/-- Wavelength 9 carries lane 8; wavelength 3 is dark. -/
def dimmed : Port := { aPort 3 with dark := 8 }

theorem witness_lanes : NoLane (aPort 3) 8 ∧ Rides (aPort 3) 9 8 ∧ small.regs.rthr.toNat < 4097 ∧ retraining (aPort 3) 9 = none ∧
    SpareFree (aPort 3) 9 ∧ ¬ SpareFree { aPort 3 with locked := 0 } 9 ∧
    retraining { aPort 3 with retrain := [(9, 8, 2)] } 9 = some (9, 8, 2) ∧ retraining { aPort 3 with retrain := [(9, 8, 1)] } 9 = some (9, 8, 1) ∧
    4096 ≤ small.regs.rthr.toNat ∧ SomeDark dimmed ∧ ¬ SomeDark (aPort 3) ∧ 8 ≤ workingLanes (aPort 3) ∧ 8 ≤ 15 ∧ 31 < 32 := by
  unfold SpareFree NoLane Rides SomeDark
  dsimp only
  decide +kernel

/-- R354: wavelength 0 of port 0 is fed by module 0; the spares of its two fibres by modules 0 and 1. -/
theorem test_lasers : feeds 0 0 = 0 ∧ feeds 0 8 = 0 ∧ feeds 0 17 = 1 ∧ feeds 127 16 = 31 := by decide

theorem witness_power : 23 < 24 ∧ 115 * 16 ≤ signedField 16 (1840 % 2 ^ 16) ∧
    (105 * 16 ≤ signedField 16 (1680 % 2 ^ 16) ∧ signedField 16 (1680 % 2 ^ 16) < 115 * 16 ∧ small.regs.throt.getLsbD 3 = false) ∧
    (signedField 16 (0xFFF0 % 2 ^ 16) < 100 * 16 ∧ (8 : BitVec 24).getLsbD 3 = true) ∧
    (unpowered small).regs.booted = false ∧ small.regs.booted = true ∧
    ((1 : Nat) = 1 ∧ (unpowered small).regs.flash.keyDigest = (unpowered small).regs.fusedKey ∧
      (unpowered small).regs.rollback ≤ 0 % 2 ^ 16) ∧ ¬ ((0 : Nat) = 1) ∧ (25 ≤ 25 ∧ 25 < 26) := by decide +kernel

/-- A die that is hot at boot and one that is not; fabric dies that trip, and one that does not; a module whose registers are read before boot. -/
theorem witness_readings : (105 * 16 ≤ degrees { small.regs with temps := small.regs.temps.setIfInBounds 3 1680 } 3 ∧
      small.regs.throt.getLsbD 3 = false ∧ degrees small.regs 4 < 105 * 16) ∧ (24 ≤ 24 ∧ 24 < 26 ∧ 115 * 16 ≤ signedField 16 (1840 % 2 ^ 16)) ∧
    signedField 16 (1600 % 2 ^ 16) < 115 * 16 ∧ { small.regs with booted := false, bootFailed := true }.booted = false := by decide +kernel

theorem witness_registerWrites : (5 : Nat) < 2 ^ 64 ∧ RowOfRegister 0x18 5 (.evsz 5) ∧ RowOfRegister 0x103F10 5 (.doorbell 63 5) ∧
    RowOfRegister 0x3002FF8 5 (.powerCap 1535 5) ∧ RowOfRegister 0x40207C0 5 (.laserEnable 31 5) ∧ RowOfRegister 0x6001FF8 5 (.arrivalQueue 1023 5) ∧
    (∃ r, plainRegister small.regs 0x5000030 5 = some r) ∧ (Ignored 0x104000 ∧ Ignored 0x4010008) ∧ 0x103F18 = 0x100000 + 0x100 * 63 + 0x18 ∧
    0x10BFFF8 = 0x1000000 + 0x8000 * 23 + 64 * 511 + 8 * 7 ∧ 0x40002F8 = 0x4000100 + 8 * 63 ∧ 0x4017F78 = 0x4010000 + 0x100 * 127 + 0x60 + 8 * 3 ∧
    0x40301F0 = 0x4030000 + 0x20 * 15 + 16 ∧ (∀ k < 4, (5 + 128 * k) / 2 ^ 8 % 2 = k / 2 ∧ (5 + 128 * k) / 2 ^ 7 % 2 = k % 2) :=
  ⟨by decide, .inl ⟨rfl, rfl⟩, .inr (.inr (.inr (.inr (.inl ⟨63, by decide, rfl, rfl⟩)))),
    .inr (.inr (.inr (.inr (.inr (.inl ⟨1535, by decide, rfl, rfl⟩))))), .inr (.inr (.inr (.inr (.inr (.inr (.inl ⟨31, by decide, rfl, rfl⟩)))))),
    .inr (.inr (.inr (.inr (.inr (.inr (.inr (.inr ⟨1023, by decide, rfl, rfl⟩))))))), ⟨_, rfl⟩, by norm_num [Ignored], rfl, rfl, rfl, rfl, rfl,
    by decide⟩

/-- A write of LCTL that asks for rekey and relane passes through both. -/
theorem witness_lctl : ∃ s2 s3, exec (.rekey 112) (linking (aPort 3)) = .next s2 ∧ exec (.relane 112) s2 = .next s3 :=
  ⟨_, _, rfl, rfl⟩

theorem witness_registerReads : (Unnamed 8 ∧ Unnamed 0x104000 ∧ Unnamed 0x4010020 ∧ Unnamed 0x5000250) ∧
    (0x28, small.regs.evtail.toNat) ∈ controlFields small.regs ∧
    (let x := tget recording.slots 6 {}
     x.result < 2 ^ 8 ∧ x.st < 2 ^ 4 ∧ x.psize < 2 ^ 6 ∧ x.src < 2 ^ 16 ∧ x.vlmax < 2 ^ 14) ∧
    (asked.reqs.find? fun p => p.1 == 5) = some (5, aRequest) ∧ (∀ p ∈ asked.reqs, p.1 ≠ 4) ∧
    ((∀ f ∈ aRequest.fields, f < 2 ^ 32) ∧ aRequest.src < 2 ^ 16 ∧ aRequest.gang < 2 ^ 4 ∧ aRequest.place < 2 ^ 2 ∧ aRequest.gid < 2 ^ 32) ∧
    ((coreAt small 0).mcap < 4 ∧ (coreAt small 0).vcap < 2 ^ 14) ∧ ((aPort 3).peer < 2 ^ 12 ∧ (aPort 3).state < 8 ∧ (aPort 3).sub < 2 ^ 8) ∧
    ((tget relocating.moves 2 {}).new < 2 ^ 40 ∧ (tget relocating.moves 2 {}).old < 2 ^ 28 ∧ (tget relocating.moves 2 {}).status < 2 ^ 4) ∧
    (tget recording.arrq 3 {}).asid < 2 ^ 16 ∧ (recording.arrived.filter fun p => p.queue == 3).length < 2 ^ 7 :=
  ⟨by norm_num [Unnamed], by decide, by decide, rfl, by decide, by decide, by decide, by decide, by decide, by decide, by decide⟩

/-- Errors found: two addresses of frame 2 before a third; a lane that has erred; a log that lists frame 3. -/
def erring : State :=
  { small with frameErrors := [(2, [0x20000, 0x20008])], laneErrors := [(5, 0)], regs := { small.regs with rlog := [BitVec.ofNat 64 (2 ^ 63 + 3)] } }

theorem witness_errors : (0x20010 :: tget erring.frameErrors 2 []).dedup.length = 3 ∧ (0x30010 :: tget erring.frameErrors 3 []).dedup.length < 3 ∧
    LogTakes erring (BitVec.ofNat 64 (2 ^ 63 + 2)) ∧ ¬ LogTakes erring (BitVec.ofNat 64 (2 ^ 63 + 3)) ∧ PhysicalLane (coreAt erring 0) 5 5 ∧
    (∀ p, ¬ PhysicalLane (coreAt erring 0) 40 p) ∧ (∃ e ∈ erring.laneErrors, e.1 = 64 * 0 + 5 ∧ (erring.time - e.2).toNat < 86400000000000) ∧
    HoldsLane erring.hart 0 3 ∧ (∀ h ∈ erring.hart :: erring.others, ¬ HoldsLane h 0 9) ∧ SlotsApart bound ∧
    (∃ h ∈ bound.others, HoldsLane h 0 17 ∧ ∀ g ∈ bound.hart :: bound.others, HoldsLane g 0 17 → g = h) ∧
    { small.core with claimant := some 0 }.claimant = some small.hart.idx ∧
    (∃ h ∈ bound.others, { bound.core with claimant := some 1 }.claimant = some h.idx) ∧ small.core.claimant = none ∧ (poolFree parcels 0x10000).isSome = true := by
  refine ⟨by decide, by decide, ⟨by decide, by decide⟩, fun h => h.1 (by decide), ⟨by decide, by unfold Gives; decide, by unfold Gives; decide⟩, ?_,
    by decide, ⟨by decide, by decide, by decide, by decide⟩, ?_, by unfold SlotsApart; decide, ⟨_, List.mem_singleton.mpr rfl, ?_, ?_⟩, rfl,
    ⟨_, List.mem_singleton.mpr rfl, rfl⟩, rfl, by decide +kernel⟩
  · rintro p ⟨hp, hg, -⟩
    have : ∀ p < 34, ¬ Gives ((coreAt erring 0).lanemap[p]?.getD 0) 40 := by unfold Gives; decide +kernel
    exact this p hp hg
  · unfold HoldsLane
    decide
  · unfold HoldsLane
    decide
  · intro g hg hl
    rcases List.mem_cons.mp hg with rfl | hg
    · exact absurd hl.2.2.2 (by decide)
    · exact List.mem_singleton.mp hg

/-- An error that was counted within the last 1 ms and one that was not. -/
theorem witness_arrayNoted : (∃ e ∈ { small with lasting := [(arrayLocation 0 3 5 8, 0)] }.lasting, e.1 = arrayLocation 0 3 5 8 ∧
      (small.time - e.2).toNat < 1000000) ∧
    ¬ (∃ e ∈ { small with lasting := [(arrayLocation 0 3 5 8, 0)], time := 1000000 }.lasting, e.1 = arrayLocation 0 3 5 8 ∧
      ((1000000 : Word) - e.2).toNat < 1000000) := by decide +kernel

theorem witness_inputs : (11000 < 11001 ∧ 23 < 24 ∧ 41 < 42 ∧ 42 ≤ 42) ∧
    ({ aPort 2 with upAsked := true }.upAsked = true ∧ (aPort 2).lmap = 0x7654321076543210 ∧
        8 ≤ workingLanes { aPort 2 with lanes := (aPort 2).lmap }) ∧
    LocalTo fabric 0x2000 ∧ ¬ LocalTo fabric (2 ^ 44 + 0x2000) ∧ LeastLoaded fabric (portsUp fabric (nextHop (moduleOf fabric) 1)) 0 ∧
    portsUp (neighbour 2) (nextHop (moduleOf (neighbour 2)) 1) = [] ∧
    (let ps := [request 1 2 (.read 8) 9 false, abroad (request 3 1025 (.write [7]) 9 false)]
     (∀ p ∈ (carrying ps).packets, p.id = 1 → p.place < 1024) ∧
      (carrying ps).packets.find? (fun p => p.id == 3 && decide (1024 ≤ p.place)) = some (abroad (request 3 1025 (.write [7]) 9 false))) ∧
    fabric.memory.wf = true ∧ Memory.wf [] = true := by
  refine ⟨by decide, by decide +kernel, by unfold LocalTo; decide, by unfold LocalTo; decide, ⟨[], [], by decide +kernel, nofun, nofun⟩,
      by decide +kernel,
    ⟨by decide, by rfl⟩, rfl, rfl⟩

/-! Witnesses for the statements about a step. -/

/-- The words of an addi, and of a pair, at the program counter. -/
def fetching : State := inMemory [(0x1000, 0x64), (0x1001, 0x87), (0x1002, 0xC6), (0x1003, 0x08)] small
def fetchingPair : State :=
  inMemory [(0x1001, 0x3C), (0x1003, 0xFC), (0x1004, 0x18), (0x1005, 0x12), (0x1006, 0x81), (0x1007, 0x4C)] small

/-- A pair whose second word lies behind the block. -/
def fetchingEdge : State :=
  inMemory [(0x1FFFFFFD, 0x3C), (0x1FFFFFFF, 0xFC)] { small with hart := { small.hart with pc := 0x1FFFFFFC } }

theorem fetches_block {s t : State} (h : Plain t) (hs : s.hart.coreNo = 0) (a : Nat) (ha : a < 2 ^ 29) :
    translate (hartView s) 2 a t = (t, .ok a) := by
  rw [view_translates h hs 2 a ha, in_time h (by simp)]
  rfl

theorem fetching_plain : Plain (ticked fetching) ∧ Plain (ticked fetchingPair) ∧ Plain (ticked fetchingEdge) :=
  ⟨⟨rfl, rfl, rfl, ⟨rfl, rfl⟩, rfl, rfl, rfl, rfl⟩, ⟨rfl, rfl, rfl, ⟨rfl, rfl⟩, rfl, rfl, rfl, rfl⟩, ⟨rfl, rfl, rfl, ⟨rfl, rfl⟩, rfl, rfl, rfl, rfl⟩⟩

theorem witness_step : Fetches fetching ∧ translate (hartView fetching) 2 fetching.hart.pc.toNat (ticked fetching) = (ticked fetching, .ok 0x1000) ∧
    uncorrectable (ticked fetching) 0x1000 4 = false ∧ decode (homeBytes (ticked fetching) 0x1000 4) = .ok (.addi 6 6 0x8764, 4) :=
  ⟨⟨rfl, rfl, .inl rfl, rfl, rfl, rfl, rfl, rfl, rfl⟩, fetches_block fetching_plain.1 rfl _ (by decide), rfl, by decide⟩

theorem witness_stepPair : Fetches fetchingPair ∧ isOfs (littleEndian (homeBytes (ticked fetchingPair) 0x1000 4)) = true ∧
    translate (hartView fetchingPair) 2 (fetchingPair.hart.pc + 4).toNat (ticked fetchingPair) = (ticked fetchingPair, .ok 0x1004) ∧
    uncorrectable (ticked fetchingPair) 0x1004 4 = false ∧
    decode (homeBytes (ticked fetchingPair) 0x1000 4 ++ homeBytes (ticked fetchingPair) 0x1004 4) = .ok (.ofs 0 0 0 15 0 0 0 0x4C811218, 8) :=
  ⟨⟨rfl, rfl, .inl rfl, rfl, rfl, rfl, rfl, rfl, rfl⟩, by decide, fetches_block fetching_plain.2.1 rfl _ (by decide), rfl, by decide⟩

theorem witness_stepEdge : Fetches fetchingEdge ∧ isOfs (littleEndian (homeBytes (ticked fetchingEdge) 0x1FFFFFFC 4)) = true ∧ CanTrap fetchingEdge ∧
    translate (hartView fetchingEdge) 2 0x1FFFFFFC (ticked fetchingEdge) = (ticked fetchingEdge, .ok 0x1FFFFFFC) ∧
    translate (hartView fetchingEdge) 2 (fetchingEdge.hart.pc + 4).toNat (ticked fetchingEdge) = (ticked fetchingEdge, .error { cause := 6 }) :=
  ⟨⟨rfl, rfl, .inl rfl, rfl, rfl, rfl, rfl, rfl, rfl⟩, by decide, ⟨rfl, by decide⟩, fetches_block fetching_plain.2.2 rfl _ (by decide), by rfl⟩

/-- A program counter at a page that is not mapped, one at a word that is lost, one at a word that is no instruction. -/
def fetchingNowhere : State := { small with hart := { small.hart with pc := 0x20000000 } }
def fetchingLost : State := { fetching with badBytes := [0x1002] }
def fetchingNothing : State := inMemory [(0x1000, 0x01)] small

theorem witness_failedFetches : Fetches fetchingNowhere ∧ CanTrap fetchingNowhere ∧
    translate (hartView fetchingNowhere) 2 fetchingNowhere.hart.pc.toNat (ticked fetchingNowhere) = (ticked fetchingNowhere, .error { cause := 6 }) ∧
    Fetches fetchingLost ∧ CanTrap fetchingLost ∧
    translate (hartView fetchingLost) 2 fetchingLost.hart.pc.toNat (ticked fetchingLost) = (ticked fetchingLost, .ok 0x1000) ∧
    uncorrectable (ticked fetchingLost) 0x1000 4 = true ∧
    Fetches fetchingNothing ∧
    translate (hartView fetchingNothing) 2 fetchingNothing.hart.pc.toNat (ticked fetchingNothing) = (ticked fetchingNothing, .ok 0x1000) ∧
    uncorrectable (ticked fetchingNothing) 0x1000 4 = false ∧ isOfs (littleEndian (homeBytes (ticked fetchingNothing) 0x1000 4)) = false ∧
    decode (homeBytes (ticked fetchingNothing) 0x1000 4) = .error .noForm :=
  ⟨⟨rfl, rfl, .inl rfl, rfl, rfl, rfl, rfl, rfl, rfl⟩, ⟨rfl, by decide⟩, by rfl,
    ⟨rfl, rfl, .inl rfl, rfl, rfl, rfl, rfl, rfl, rfl⟩, ⟨rfl, by decide⟩,
    block_translates rfl rfl rfl rfl 2 0x1000 (by decide), by rfl,
    ⟨rfl, rfl, .inl rfl, rfl, rfl, rfl, rfl, rfl, rfl⟩,
    fetches_block (t := ticked fetchingNothing) ⟨rfl, rfl, rfl, ⟨rfl, rfl⟩, rfl, rfl, rfl, rfl⟩ rfl _ (by decide), rfl, by decide, by decide⟩

theorem witness_otherTurns : small.power = .up ∧ wordless (.evhead 0) = true ∧ small.regs.booted = true ∧
    small.turns = [] ∧ small.agenda = [] ∧ { small with tick := 3 }.tick % 2 = 1 ∧ small.hart.run = .running ∧ small.hart.held = none ∧
    small.hart.request = none ∧ (expecting 9).hart.request ≠ none ∧
        notifies (ticked { armed with hart := { armed.hart with held := some fault } }) = true ∧
    notifies (ticked armed) = true ∧ notifies (ticked small) = false ∧ faulted.hart.inflight ≠ [] ∧ small.hart.inflight = [] ∧
    decodePair (instanceWords aLap).1 ((instanceWords aLap).2.getD 0) = .ok (.vadd 3 1 2 0 0 0 0, 4) ∧ faulted.hart.held = some fault ∧
    State.reset.hart.run ≠ .running :=
  ⟨rfl, by decide, rfl, rfl, rfl, rfl, rfl, rfl, rfl, nofun, by rfl, by rfl, rfl, nofun, rfl, by decide, rfl, nofun⟩

/-- What issues behind a held fault: an immediate form and a brick form of the shape and type that the older one captured; not a load, not a brick
form of another type, not after BSHAPE has changed. -/
theorem witness_heldTurn : GoesOn faulted.hart 0x08C68764 0 ∧ ¬ GoesOn faulted.hart (encode (.ldsS8 1 2 0)) 0 ∧
    GoesOn (typed 0 faulted).hart 0x40611000 0 ∧ ¬ GoesOn faulted.hart 0x40611000 0 ∧
    ¬ GoesOn { (typed 0 faulted).hart with held := some { fault with reshaped := true } } 0x40611000 0 ∧ notifies faulted = false ∧
    faulted.hart.lap = none := by
  refine ⟨⟨fun f h => by cases h; decide, by decide +kernel, .inl (by decide)⟩, fun h => ?_, ⟨fun f h => by cases h; decide, by decide +kernel, .inr
    (.inr (.inr (.inr (.inr ⟨by decide, by decide, fun f h => by cases h; rfl, by decide +kernel⟩))))⟩, fun h => ?_, fun h => ?_, rfl, rfl⟩
  · exact absurd h.2.2 (by simp [encode]; decide)
  · rcases h.2.2 with h | h | h | h | h | ⟨-, -, -, h⟩
    any_goals exact absurd h (by decide)
  · rcases h.2.2 with h | h | h | h | h | ⟨-, -, h, -⟩
    any_goals exact absurd h (by decide)

/-- Every kind of turn, before boot and after; the hart of slot 4 is another one, and no hart stands at slot 5. -/
theorem witness_turns : { small with regs := { small.regs with booted := false } }.power = .up ∧
    ActsBeforeBoot (.boot 0 0 0) ∧ ActsBeforeBoot (.throttle 3 1840) ∧ ¬ ActsBeforeBoot (.throttle 3 1600) ∧ ¬ ActsBeforeBoot (.evhead 0) ∧
    wordless (.boot 0 0 0) = true ∧ NeedsFirmware (.frameReleased 0) ∧ ¬ NeedsFirmware (.sensor 0 0) ∧ wordless (.mclaim 0) = false ∧
    ((allHarts bound).map Hart.slot).Nodup ∧ bound.hart.slot = 0 ∧ (∃ h ∈ bound.others, h.slot = 4) ∧ ∀ h ∈ allHarts bound, h.slot ≠ 5 :=
  ⟨rfl, trivial, by unfold ActsBeforeBoot; decide, by unfold ActsBeforeBoot; decide, id, by decide, trivial, id, by decide, by decide, by decide,
    ⟨_, List.mem_singleton.mpr rfl, by decide⟩, by decide⟩

theorem witness_frames : aLap.idx < aLap.frame.length ∧ aLap.k < aLap.count ∧ aLap.frame[aLap.idx]? = some (0x40611000, none) ∧ StridesStay aLap := by
  refine ⟨by decide, by decide, rfl, ?_⟩
  intro k _ p hp
  obtain rfl := List.mem_singleton.mp hp
  rw [show aLap.sd = 0 from rfl, show aLap.s1 = 0 from rfl, show aLap.s2 = 0 from rfl]
  simp only [Int.mul_zero]
  decide

/-- A LAP behind which no page is mapped, a word that no frame holds, and strides that leave the registers. -/
def strided : Lap := { aLap with count := 40, sd := 1 }

theorem witness_badFrames : bare.hart.held = none ∧ bare.hart.depth < 2 ∧
    fetchFrame (bare.hart.pc + 4) 1 bare = (bare, .error ({ cause := 6 }, 0x1004)) ∧
    fetchFrame (fetchingPair.hart.pc - 4) 1 { fetchingPair with hart := { fetchingPair.hart with snap := [] } } =
      ({ fetchingPair with hart := { fetchingPair.hart with snap := [] } }, .ok [(0, none)]) ∧
    ¬ FrameWord (0, none) ∧ ¬ StridesStay strided := by
  refine ⟨rfl, by decide, by rfl, by rfl, fun h => absurd h.1 (by decide), fun h => ?_⟩
  · have := h 39 (by decide) _ (List.mem_singleton.mpr rfl)
    exact absurd this (by decide)

theorem witness_trapReturn : inTrap.hart.priv = true ∧ inTrap.hart.depth = 0 + 1 ∧ inTrap.memory.wf = true ∧
    { inTrap.hart with depth := 2 }.depth = 2 ∧ inTrap.hart.held = none := ⟨rfl, rfl, rfl, rfl, rfl⟩

theorem witness_sound : Sound small ∧ encode .nret ≠ 0 ∧ small.hart.priv = false ∧ (∃ t, exec (.addi 6 6 5) small = .next t) ∧
    small.memory.wf = true := by
  refine ⟨⟨rfl, fun h hh => ?_, ⟨rfl, ⟨rfl, rfl⟩, ⟨rfl, rfl⟩⟩, nofun, nofun⟩, by decide, rfl, ⟨_, rfl⟩, rfl⟩
  obtain rfl := List.mem_singleton.mp hh
  exact ⟨rfl, rfl, by decide, by decide, rfl, rfl, by decide, nofun⟩

/-- One step of a state that is sound answers a next state. -/
theorem witness_soundStep : (match step fetching with
    | .next t => decide (t.hart.x[6] = 0xFFFFFFFFFFFF8764)
    | _ => false) = true := by decide +kernel

theorem witness_roundTrip : wellFormed (.atomCas 31 7 6 3 1 1 0 1) = true ∧ encode (.atomCas 31 7 6 3 1 1 0 1) ≠ 0 ∧
    Laws.RoundTrip.HasWords (.atomCas 31 7 6 3 1 1 0 1) ∧ Laws.RoundTrip.HasWords (.ofs 0 0 0 15 0 0 0 0x4C811218) := by
  refine ⟨by decide, by decide, trivial, .vfma 4 1 2 2 0 1 1, by decide⟩

/-! More single steps. -/

/-- R190: the elements of a stream arrive in their positions. -/
theorem test_vld : let t := after (.vld 5 2 0 0) (withStream (aStream 0x2000 0x400 2 0 2 0) (inMemory [(0x2000, 7), (0x2401, 1)] (typed 2 small)))
    elem t 5 0 4 = 7 ∧ elem t 5 1 4 = 256 := by decide +kernel

/-- R39: of two elements, the second is misaligned: its fault is held, and the first is done. -/
theorem test_held : let t := after (.vld 5 2 0 0) (withStream (aStream 0x2000 2 2 0 2 0) (inMemory [(0x2000, 7)] streaming))
    t.hart.held.isSome = true ∧ t.hart.pc = 0x1004 := by decide +kernel

/-- R195: an atomic fetch-and-add answers the old value and leaves the sum at its home. -/
theorem test_fadd : let t := after (.atomFadd 8 4 5 0 0 0 0 1) counting
    rx t 8 = 0x700000005 ∧ mgetN t.memory 0x2000 8 = 0x700000008 := by decide +kernel

/-- R98: the row of the manual gives 1.0 where its products are summed exactly, +0 by the tree of pairs. -/
def products : List Nat := [0x4B800000, 0x3F800000, 0xCB800000] ++ List.replicate 61 0

theorem test_rows : (dotExact (products.map fun p => (f32.decode p, 0)) 0).1 = 0x3F800000 ∧ (dotTree (products.map fun p => (p, 0)) 0).1 = 0 := by
  decide +kernel

/-- R80, R167: 70,000 is too large for f16, and vcvt.sat gives infinity there as vcvt does. -/
theorem test_vcvtSat : elem (after (.vcvtSat 3 1 10 0 0 0) (filled 1 [(1, 0xB8), (2, 0x88), (3, 0x47)] (typed 8 small))) 3 0 2 = 0x7C00 := by
  decide +kernel

/-- R181: an instance of a frame in its second iteration has its destination moved by the stride. -/
theorem test_instance : (instanceWords ⟨[(0x40611000, none)], 0x1004, 2, 2, 0, 0, 1, 0⟩).1 = 0x40A11000 := by decide

/-- R200: the last hart to arrive completes the barrier, and an arrival with another count traps. -/
def gathering : State := holds [(5, 3), (6, 2)] { meeting with barriers := [⟨0, 0, 0, 2, [4]⟩] }

theorem test_barrier : (after (.bar 5 0 0) gathering).hart.bank0.cause = 2 ∧
    (after (.bar 6 0 0) gathering).barriers.any (fun b => b.arrived.length == 2) = true := by decide +kernel
end Sys2Proof.Tests
end

section
/-!
SUPPORT. Scalar arithmetic (R138 to R140): the operations of the model on words agree with exact arithmetic on the integers and
naturals that the words stand for, and every SALU form and immediate form completes with that result.
-/

namespace Sys2Proof.Laws

open Sys2Proof.Machine Sys2Proof.Claims

/-! `asWord` is the ring homomorphism that reads integers modulo 2^64; every word is the image of its signed value. -/

@[simp] theorem asWord_toInt (a : Word) : asWord a.toInt = a := BitVec.ofInt_toInt

@[simp] theorem asWord_natCast (n : Nat) : asWord (n : Int) = BitVec.ofNat 64 n := BitVec.ofInt_natCast 64 n

@[simp] theorem asWord_add (x y : Int) : asWord (x + y) = asWord x + asWord y := BitVec.ofInt_add x y

@[simp] theorem asWord_neg (x : Int) : asWord (-x) = -asWord x := BitVec.ofInt_neg

@[simp] theorem asWord_sub (x y : Int) : asWord (x - y) = asWord x - asWord y := by
  rw [Int.sub_eq_add_neg, asWord_add, asWord_neg, BitVec.sub_eq_add_neg]

@[simp] theorem asWord_mul (x y : Int) : asWord (x * y) = asWord x * asWord y := BitVec.ofInt_mul x y

theorem toInt_asWord (x : Int) : (asWord x).toInt = x.bmod (2 ^ 64) := BitVec.toInt_ofInt x

theorem ofNat_toNat_word (a : Word) : BitVec.ofNat 64 a.toNat = a := by rw [BitVec.ofNat_toNat, BitVec.setWidth_eq]

theorem eq_asWord_of_toInt {a : Word} {x : Int} (h : a.toInt = x) : a = asWord x := by rw [← h, asWord_toInt]

theorem eq_ofNat_of_toNat {a : Word} {n : Nat} (h : a.toNat = n) : a = BitVec.ofNat 64 n := by rw [← h, ofNat_toNat_word]

/-! Immediates (R131): a field of `n` bits, extended by its sign or by zeros. -/

theorem toInt_sext {n v : Nat} (hn : 0 < n) (hn' : n ≤ 64) (hv : v < 2 ^ n) : (sext n v).toInt = signedField n v := by
  have hhalf : 2 ^ (n - 1) * 2 = 2 ^ n := Nat.two_pow_pred_mul_two hn
  have hcast : ((2 ^ n : Nat) : Int) = 2 ^ n := by norm_cast
  rw [sext, BitVec.toInt_signExtend_of_le hn', BitVec.toInt_eq_toNat_cond, BitVec.toNat_ofNat, Nat.mod_eq_of_lt hv, hcast]
  exact if_congr (by omega) rfl rfl

theorem toInt_sext16 {v : Nat} (hv : v < 65536) : (sext 16 v).toInt = signedField 16 v := toInt_sext (by decide) (by decide) hv

theorem sext16_eq_asWord {v : Nat} (hv : v < 65536) : sext 16 v = asWord (signedField 16 v) := eq_asWord_of_toInt (toInt_sext16 hv)

theorem zext16_eq_ofNat {v : Nat} (hv : v < 65536) : zext 16 v = BitVec.ofNat 64 v :=
  BitVec.setWidth_ofNat_of_le_of_lt (by decide) hv

/-- The upper immediate of LUI and ADDPC (R140). -/
theorem upper_eq_asWord {v : Nat} (hv : v < 2097152) : sext 21 v * 65536 = asWord (signedField 21 v * 65536) := by
  rw [asWord_mul, eq_asWord_of_toInt (toInt_sext (by decide) (by decide) hv)]
  rfl

/-! Shifts multiply and divide by powers of 2. -/

/-- The amount of a shift by a register: its low 6 bits (R138). -/
theorem bitsOf_zero_six (b : Word) : bitsOf b 0 6 = b.toNat % 64 := congrArg (· % 64) (Nat.div_one b.toNat)

theorem asWord_two_pow (k : Nat) : asWord (2 ^ k) = BitVec.twoPow 64 k := by
  apply BitVec.eq_of_toNat_eq
  rw [BitVec.toNat_twoPow, ← BitVec.toNat_ofNat, ← asWord_natCast]
  norm_cast

theorem shiftLeft_eq_asWord (a : Word) (k : Nat) : a <<< k = asWord (a.toInt * 2 ^ k) := by
  rw [asWord_mul, asWord_toInt, asWord_two_pow, BitVec.shiftLeft_eq_mul_twoPow]

theorem ushiftRight_eq_ofNat (a : Word) (k : Nat) : a >>> k = BitVec.ofNat 64 (a.toNat / 2 ^ k) :=
  eq_ofNat_of_toNat (by rw [BitVec.toNat_ushiftRight, Nat.shiftRight_eq_div_pow])

theorem sshiftRight_eq_asWord (a : Word) (k : Nat) : a.sshiftRight k = asWord (a.toInt / 2 ^ k) :=
  eq_asWord_of_toInt (by rw [BitVec.toInt_sshiftRight, Int.shiftRight_eq_div_pow]; norm_cast)

/-! Comparison, minimum and maximum, selection. -/

theorem truth_decide (p : Prop) [Decidable p] : truth (decide p) = if p then 1 else 0 := by
  rw [truth, if_congr decide_eq_true_iff rfl rfl]

theorem truth_slt (a b : Word) : truth (a.slt b) = if a.toInt < b.toInt then 1 else 0 := truth_decide _

theorem truth_ult (a b : Word) : truth (a.ult b) = if a.toNat < b.toNat then 1 else 0 := truth_decide _

theorem pick_slt_eq_min (a b : Word) : pick (a.slt b) a b = asWord (min a.toInt b.toInt) := by
  rw [min_def_lt, apply_ite asWord, asWord_toInt, asWord_toInt]
  exact if_congr BitVec.slt_iff_toInt_lt rfl rfl

theorem pick_slt_eq_max (a b : Word) : pick (b.slt a) a b = asWord (max a.toInt b.toInt) := by
  rw [max_comm, max_def_lt, apply_ite asWord, asWord_toInt, asWord_toInt]
  exact if_congr BitVec.slt_iff_toInt_lt rfl rfl

theorem pick_ult_eq_min (a b : Word) : pick (a.ult b) a b = BitVec.ofNat 64 (min a.toNat b.toNat) := by
  rw [min_def_lt, apply_ite (BitVec.ofNat 64), ofNat_toNat_word, ofNat_toNat_word]
  exact if_congr BitVec.ult_iff_toNat_lt rfl rfl

theorem pick_ult_eq_max (a b : Word) : pick (b.ult a) a b = BitVec.ofNat 64 (max a.toNat b.toNat) := by
  rw [max_comm, max_def_lt, apply_ite (BitVec.ofNat 64), ofNat_toNat_word, ofNat_toNat_word]
  exact if_congr BitVec.ult_iff_toNat_lt rfl rfl

theorem pick_bne_zero (c a b : Word) : pick (c != 0) a b = if c ≠ 0 then a else b := if_congr bne_iff_ne rfl rfl

/-! Counts of bits. -/

theorem bitLength_le {v n : Nat} : bitLength v ≤ n ↔ v < 2 ^ n := by
  unfold bitLength
  split_ifs with h
  · simp [h]
  · exact Nat.log2_lt h

theorem leadingZeros_eq {n v : Nat} (hv : v < 2 ^ n) : leadingZeros n v = n - bitLength v := by
  induction n with
  | zero => rw [leadingZeros, Nat.zero_sub]
  | succ n ih =>
    have hlen : bitLength v ≤ n + 1 := bitLength_le.mpr hv
    rw [leadingZeros]
    rcases lt_or_ge v (2 ^ n) with hlow | hhigh
    · have hlen' : bitLength v ≤ n := bitLength_le.mpr hlow
      rw [Nat.testBit_lt_two_pow hlow, if_neg Bool.false_ne_true, ih hlow]
      omega
    · have hlen' : ¬bitLength v ≤ n := fun h => (bitLength_le.mp h).not_ge hhigh
      rw [Nat.testBit_of_two_pow_le_and_two_pow_add_one_gt hhigh hv, if_pos rfl]
      omega

theorem popCount_eq_length_filter (n v : Nat) : popCount n v = ((List.range n).filter v.testBit).length := by
  induction n with
  | zero => rfl
  | succ n ih =>
    rw [popCount, ih, List.range_succ, List.filter_append, List.length_append, Nat.add_comm]
    cases h : v.testBit n <;> simp [bit, h]

/-! Quotients and remainders (R139). -/

theorem eq_zero_iff_toInt (b : Word) : b = 0 ↔ b.toInt = 0 := BitVec.toInt_inj.symm

theorem sdiv_eq_asWord (a b : Word) : a.sdiv b = asWord (a.toInt.tdiv b.toInt) :=
  BitVec.eq_of_toInt_eq (by rw [BitVec.toInt_sdiv, toInt_asWord])

theorem divS_eq (a b : Word) : divS a b = if b.toInt = 0 then asWord (-1) else asWord (a.toInt.tdiv b.toInt) :=
  if_congr (eq_zero_iff_toInt b) rfl (sdiv_eq_asWord a b)

theorem divZ_eq (a b : Word) : divZ a b = if b.toNat = 0 then asWord (-1) else BitVec.ofNat 64 (a.toNat / b.toNat) :=
  if_congr BitVec.toNat_eq rfl (eq_ofNat_of_toNat BitVec.toNat_udiv)

theorem remS_eq (a b : Word) : remS a b = if b.toInt = 0 then a else asWord (a.toInt.tmod b.toInt) :=
  if_congr (eq_zero_iff_toInt b) rfl (eq_asWord_of_toInt (BitVec.toInt_srem a b))

theorem remZ_eq (a b : Word) : remZ a b = if b.toNat = 0 then a else BitVec.ofNat 64 (a.toNat % b.toNat) :=
  if_congr BitVec.toNat_eq rfl (eq_ofNat_of_toNat BitVec.toNat_umod)

/-! Every form completes by `finish`, which outside a repeat frame answers what the statements call `answered`. -/

theorem finish_outside {s : State} (h : s.hart.lap = none) (xd : Nat) (v : Word) : finish xd v s = .next (answered s xd v) := by
  rw [finish, retire_outside _ 4 (by rw [wx_hart_lap, h])]
  rfl

theorem finish_congr {s : State} {xd : Nat} {v w : Word} (h : v = w) : finish xd v s = finish xd w s := by rw [h]

/-- R138, R139: what a SALU form writes to xd. -/
theorem exec_of_scalarResult {s : State} {i : Instr} {xd : Nat} {v : Word} (h : scalarResult s i = some (xd, v)) :
    exec i s = finish xd v s := by
  cases i with
  | add => cases h; exact finish_congr (by rw [asWord_add, asWord_toInt, asWord_toInt])
  | sub => cases h; exact finish_congr (by rw [asWord_sub, asWord_toInt, asWord_toInt])
  | and => cases h; rfl
  | or => cases h; rfl
  | xor => cases h; rfl
  | sll => cases h; exact finish_congr (by rw [bitsOf_zero_six, shiftLeft_eq_asWord])
  | srl => cases h; exact finish_congr (by rw [bitsOf_zero_six, ushiftRight_eq_ofNat])
  | sra => cases h; exact finish_congr (by rw [bitsOf_zero_six, sshiftRight_eq_asWord])
  | slt => cases h; exact finish_congr (truth_slt _ _)
  | sltZ => cases h; exact finish_congr (truth_ult _ _)
  | min => cases h; exact finish_congr (pick_slt_eq_min _ _)
  | max => cases h; exact finish_congr (pick_slt_eq_max _ _)
  | minZ => cases h; exact finish_congr (pick_ult_eq_min _ _)
  | maxZ => cases h; exact finish_congr (pick_ult_eq_max _ _)
  | clz => cases h; exact finish_congr (congrArg toWord (leadingZeros_eq (BitVec.isLt _)))
  | popc => cases h; exact finish_congr (congrArg toWord (popCount_eq_length_filter _ _))
  | sel => cases h; exact finish_congr (pick_bne_zero _ _ _)
  | mul => cases h; exact finish_congr (by rw [asWord_mul, asWord_toInt, asWord_toInt])
  | mulh => cases h; rfl
  | mulhZ => cases h; rfl
  | div => cases h; exact finish_congr (divS_eq _ _)
  | divZ => cases h; exact finish_congr (divZ_eq _ _)
  | rem => cases h; exact finish_congr (remS_eq _ _)
  | remZ => cases h; exact finish_congr (remZ_eq _ _)
  | _ => cases h

/-- The last check of a well-formed term: in an immediate form, that the immediate fits its field. -/
theorem last_check {b : Bool} {p : Prop} [Decidable p] (h : (b && decide p) = true) : p :=
  of_decide_eq_true (Bool.and_eq_true_iff.mp h).2

/-- R140: what an immediate form writes to xd. -/
theorem exec_of_immediateResult {s : State} {i : Instr} {xd : Nat} {v : Word} (hw : wellFormed i = true)
    (h : immediateResult s i = some (xd, v)) : exec i s = finish xd v s := by
  cases i with
  | addi => cases h; exact finish_congr (by rw [sext16_eq_asWord (last_check hw), asWord_add, asWord_toInt])
  | andi => cases h; exact finish_congr (by rw [zext16_eq_ofNat (last_check hw)])
  | ori => cases h; exact finish_congr (by rw [zext16_eq_ofNat (last_check hw)])
  | xori => cases h; exact finish_congr (by rw [zext16_eq_ofNat (last_check hw)])
  | slli => cases h; exact finish_congr (shiftLeft_eq_asWord _ _)
  | srli => cases h; exact finish_congr (ushiftRight_eq_ofNat _ _)
  | srai => cases h; exact finish_congr (sshiftRight_eq_asWord _ _)
  | slti => cases h; exact finish_congr (by rw [truth_slt, toInt_sext16 (last_check hw)])
  | lui => cases h; exact finish_congr (upper_eq_asWord (last_check hw))
  | addpc => cases h; exact finish_congr (by rw [upper_eq_asWord (last_check hw), asWord_add, asWord_toInt])
  | _ => cases h

/-- Settles O2: by cases on the form, `exec` completes by `finish` with the value of the table; outside a repeat frame that is
`answered`. -/
theorem scalarArithmeticResults : Obligations.ScalarArithmeticResults := by
  intro s i xd v hw hlap h
  rw [← finish_outside hlap]
  exact h.elim exec_of_scalarResult (exec_of_immediateResult hw)

end Sys2Proof.Laws
end

section
/-!
SUPPORT. Configuration (R174 to R177): each form of the table is a `configForm` that tests and writes what the statement says, a grant of
vlset replaces the x extent of BSHAPE alone, and MAXVL is a function of the lanes and VTYPE.
-/

namespace Sys2Proof.Laws

open Sys2Proof.Machine Sys2Proof.Claims

/-! A trap that an instruction takes itself (R302, R305), where no older fault is held and a bank is free. -/

theorem enterTrap_eq_trapped {s : State} {t : Trap} (hdepth : s.hart.depth < 2) (hpo : ¬(t.cause = 6 ∧ t.po = true)) :
    enterTrap s t = trapped s t := by
  rw [enterTrap, if_neg hpo, if_neg hdepth.not_ge]
  obtain h0 | h1 : s.hart.depth = 0 ∨ s.hart.depth = 1 := by omega
  · simp [trapped, withHart, Hart.setBank, alignPc, h0]
  · simp [trapped, withHart, Hart.setBank, alignPc, h1]

theorem takeTrap_eq_trapped {s : State} {t : Trap} (h : CanTrap s) (hpo : ¬(t.cause = 6 ∧ t.po = true)) :
    takeTrap s t = trapped s t := by
  obtain ⟨hheld, hdepth⟩ := h
  rw [takeTrap, hheld]
  exact enterTrap_eq_trapped hdepth hpo

theorem trapSelf_eq_trapped {s : State} (h : CanTrap s) (cause sub acc elem : Nat) (addr : Word) :
    trapSelf s cause sub acc elem addr = trapped s (ownTrap s cause sub acc elem addr) :=
  takeTrap_eq_trapped h fun hpo => Bool.false_ne_true hpo.2

theorem illegalOperand_eq_trapped {s : State} (h : CanTrap s) : illegalOperand s = trapped s (ownTrap s 2 0 0 0 0) :=
  trapSelf_eq_trapped h 2 0 0 0 0

/-! The three answers of a configuration form (R174). -/

theorem configForm_read (xd : Nat) (old : Word) (ok : Word → Bool) (write : Hart → Word → Hart) (s : State) :
    configForm xd 0 old ok write s = finish xd old s := rfl

theorem configForm_write {xs1 : Nat} {ok : Word → Bool} {s : State} (hx : xs1 ≠ 0) (hok : ok (rx s xs1) = true) (xd : Nat) (old : Word)
    (write : Hart → Word → Hart) :
    configForm xd xs1 old ok write s = finish xd old { s with hart := write s.hart (rx s xs1) } := by
  rw [configForm, if_neg hx, if_pos hok, withHart]

theorem configForm_refuse {xs1 : Nat} {ok : Word → Bool} {s : State} (hx : xs1 ≠ 0) (hok : ¬ok (rx s xs1) = true) (xd : Nat) (old : Word)
    (write : Hart → Word → Hart) : configForm xd xs1 old ok write s = .next (illegalOperand s) := by
  rw [configForm, if_neg hx, if_neg hok]

/-! The values that BSHAPE, VTYPE and an adjacency entry take (R12, R13, R21). -/

theorem shapeLegal_iff (v : Word) : shapeLegal v = true ↔ ¬Refused 0x010 v := by
  simp only [shapeLegal, Bool.and_eq_true, decide_eq_true_eq]
  simp [Refused, shapeX, shapeY, shapeZ, bitsOf, field, and_assoc, Nat.one_le_iff_ne_zero]

theorem typeLegal_iff (v : Word) : typeLegal v = true ↔ ¬Refused 0x011 v := by
  simp [typeLegal, bitsOf, field, Refused]

theorem adjLegal_iff (v : Word) : adjLegal v = true ↔ v.toNat % 16 < 8 ∧ ¬(v.toNat % 16 = 7 ∧ v.toNat / 256 % 2 = 1) := by
  simp [adjLegal, adjKind, bitsOf, field, imp_iff_not_or]

/-- R174 to R176: a form of the table is a `configForm` with the destination, source, old value, test and write of its entry. -/
theorem exec_of_configuration {s : State} {i : Instr} {xd xs1 : Nat} {old : Word} {legal : Word → Prop} {new : Word → Hart}
    (h : configuration s i = some (xd, xs1, old, legal, new)) :
    ∃ ok : Word → Bool, (∀ v, ok v = true ↔ legal v) ∧ exec i s = configForm xd xs1 old ok (fun _ => new) s := by
  cases i with
  | bshape => cases h; exact ⟨shapeLegal, shapeLegal_iff, rfl⟩
  | vtype => cases h; exact ⟨typeLegal, typeLegal_iff, rfl⟩
  | setofs => cases h; exact ⟨fun _ => true, fun _ => iff_of_true rfl trivial, by rw [BitVec.ofNat_toNat]; rfl⟩
  | adj => cases h; exact ⟨adjLegal, adjLegal_iff, rfl⟩
  | _ => cases h

theorem configuration_lap {s : State} {i : Instr} {xd xs1 : Nat} {old : Word} {legal : Word → Prop} {new : Word → Hart}
    (h : configuration s i = some (xd, xs1, old, legal, new)) (v : Word) : (new v).lap = s.hart.lap := by
  cases i with
  | bshape | vtype | setofs | adj => cases h; rfl
  | _ => cases h

theorem configurationReadsAndWrites : ConfigurationReadsAndWrites := by
  intro s i xd xs1 old legal new _ hlap h
  obtain ⟨ok, hok, hexec⟩ := exec_of_configuration h
  rw [hexec]
  refine ⟨?read, ?write, ?refuse⟩
  case read =>
    rintro rfl
    rw [configForm_read, finish_outside hlap]
  case write =>
    intro hx hlegal
    rw [configForm_write hx ((hok _).mpr hlegal), finish_outside ((configuration_lap h _).trans hlap)]
  case refuse =>
    intro hx hlegal htrap
    rw [configForm_refuse hx (mt (hok _).mp hlegal), illegalOperand_eq_trapped htrap]

/-! MAXVL (R11) and the grant of vlset (R177). -/

theorem maxvl_eq (h : Hart) : h.maxvl = 256 * h.lanes / etypeSize (h.vtype.toNat % 16) := by
  rw [Hart.maxvl, Hart.etype, bitsOf, field, pow_zero, Nat.div_one]
  rfl

theorem csrValue_maxvl (s : State) : csrValue s 0x012 = BitVec.ofNat 64 (256 * s.hart.lanes / etypeSize (s.hart.vtype.toNat % 16)) := by
  rw [← maxvl_eq]
  rfl

theorem grant_eq_granted (s : State) (want : Nat) : grant s want = granted s want := by
  rw [grant, maxvl_eq]
  rfl

/-- BSHAPE after a grant: the x extent replaced by a grant of 1 or more. -/
def grantedShape (b : Word) (g : Nat) : Word := if g = 0 then b else toWord (setField b.toNat 0 14 g)

theorem grantedShape_zero (b : Word) : grantedShape b 0 = b := rfl

theorem toNat_grantedShape (b : Word) {g : Nat} (hg : g ≠ 0) : (grantedShape b g).toNat = b.toNat / 16384 * 16384 + g % 16384 := by
  rw [grantedShape, if_neg hg, toWord, BitVec.toNat_ofNat, setField, field]
  omega

/-- The state with another BSHAPE, which a held fault notes (R154). -/
def resized (s : State) (b : Word) : State :=
  { s with hart := { s.hart with bshape := b, held := noted s.hart b s.hart.vtype } }

theorem resized_lap (s : State) (b : Word) : (resized s b).hart.lap = s.hart.lap := rfl

theorem noted_self (h : Hart) : noted h h.bshape h.vtype = h.held := by
  simp [noted]

theorem resized_self (s : State) : resized s s.hart.bshape = s := by
  rw [resized, noted_self]

/-- R177: with a grant of 0 vlset writes nothing, which is to write the shape that stands. -/
theorem exec_vlset (xd xs1 : Nat) (s : State) :
    exec (.vlset xd xs1) s = finish xd (BitVec.ofNat 64 (granted s (rx s xs1).toNat))
      (resized s (grantedShape s.hart.bshape (granted s (rx s xs1).toNat))) := by
  rw [← grant_eq_granted, grantedShape, apply_ite (resized s), resized_self]
  rfl

theorem vlsetGrants : VlsetGrants := by
  intro s xd xs1 _ _ hlap g
  refine ⟨grantedShape s.hart.bshape g, ?answer, ?zero, ?low⟩
  case answer => exact (exec_vlset xd xs1 s).trans (finish_outside ((resized_lap s _).trans hlap) _ _)
  case zero =>
    intro hg
    rw [hg, grantedShape_zero]
  case low =>
    intro hpos hmax
    rw [toNat_grantedShape _ (Nat.one_le_iff_ne_zero.mp hpos)]
    omega

/-- Settles O11: a configuration form is a `configForm`, vlset a `finish` with the granted shape, and MAXVL is read from VTYPE. -/
theorem shapesAndLengths : Obligations.ShapesAndLengths :=
  ⟨configurationReadsAndWrites, vlsetGrants, csrValue_maxvl⟩

end Sys2Proof.Laws
end
